-- ==== Sys2Proof/Word.lean ====
section
/-! DEFINITION. The word types of the KC-264: bytes, hotel time, sequences, identities, sets, and the index ranges of Table 0-2. -/

namespace Sys2Proof

/-- One byte of a frame or a record. -/
abbrev Byte := BitVec 8

/-- Hotel time: seconds since the epoch (0.4.2). -/
abbrev HotelTime := BitVec 32

/-- A time as blocks record it: `none` is the clock-unset mark (R190). -/
abbrev Stamp := Option HotelTime

/-- A journal sequence number (Table 7-1), compared modulo 2^32 (R136). -/
abbrev Seq := BitVec 32

/-- A card identity (0.4.3). -/
abbrev CardId := BitVec 64

/-- A set of zones or of segments: bit n set for member n (Table 12-1). -/
abbrev Set16 := BitVec 16

/-- A set of common-door classes or days or node kinds: bit n set for member n (Table 12-1). -/
abbrev Set8 := BitVec 8

/-- Room index, 0 to 511 (Table 0-2). -/
abbrev RoomIx := Fin 512

/-- Key index, 0 to 2,047 (Table 0-2). -/
abbrev KeyIx := Fin 2048

/-- Folio number, 0 to 255 (Table 0-2). -/
abbrev FolioIx := Fin 256

/-- Lock line, 0 to 15 (Table 0-2). -/
abbrev LineIx := Fin 16

/-- Journal segment, 0 to 15 (Table 0-2). -/
abbrev SegIx := Fin 16

/-- Minibar slot, 0 to 31 (Table 0-2). -/
abbrev TraySlot := Fin 32

end Sys2Proof
end

