-- ==== Sys2Proof/Syntax.lean ====
section
/-! DEFINITION. The commands and events of the KC-264: one constructor of Instr per row of spec/opcode_table.json. -/

namespace Sys2Proof

/-- The three master ports (Table 0-1), in the order R188 lists them. -/
inductive Port where
  | front | charge | service
deriving DecidableEq, Repr

/-- The face of a reader (Table 0-3). -/
inductive Side where
  | a | b
deriving DecidableEq, Repr

/-- What a BUTTON frame reports (Table 5-3). -/
inductive Button where
  | makeup | call | cancel
deriving DecidableEq, Repr

/-- What a TRAY frame reports of its slot (Table 5-3). -/
inductive TrayKind where
  | taken | returned
deriving DecidableEq, Repr

/-- A node address (Table 0-2): line and address on that line. -/
structure NodeAddr where
  line : LineIx
  addr : Fin 64
deriving DecidableEq, Repr

/-- What becomes of the backup cell (R194). -/
inductive CellChange where
  /-- its voltage lies within its range -/
  | good
  /-- its voltage lies outside its range -/
  | low
  /-- it no longer powers the retention domain, or is absent -/
  | failed
deriving DecidableEq, Repr

/-- The commands of the command index (Table 12-5), as the command slot of a port names them. -/
inductive Command where
  | checkIn | checkOut | moveStay | blockRoom | unblockRoom | writeRoom
  | pairRooms | unpairRooms | setMakeup | readRoom | issueGuestKey | issueStaffKey
  | revokeKey | reportLost | suspendKey | resumeKey | extendKey | revokeRoomKeys
  | readKey | keyCounts | writeProfile | readProfile | watchAdd | watchRemove
  | readWatch | clearAlarm | setNodeMode | releaseZones | restoreZones | unlatchNode
  | writeNode | readNode | stopLine | startLine | restartLine | readLine
  | openFolio | closeFolio | readFolio | setAllowance | holdFolio | releaseFolio
  | writePrices | readPrices | peekCharges | takeCharges | readSessions | flushJournal
  | releaseGuards | setGuards | holdSegment | clearHold | setCursor | readRecords
  | readSegmentWrapped | markCollected | journalStatus | writeLamps | setBlinkMode | setBlinkPeriod
  | setDark | clearAlternate | clearBlinkSet | readLamps | vector | setCauseLevels
  | peerNotice | setClock | readClock | writeEmergencyKey | freezeEmergencyKey | readEmergencyKey
  | partStatus
deriving DecidableEq, Repr

/-- The events the part takes, one constructor per row of spec/opcode_table.json. A master command carries the port it
arrives on and the parameter bytes that follow its code in the frame (12.2), whole or cut short. -/
inductive Instr where
  /-- CHECK IN, R4 -/
  | checkIn (port : Port) (params : List Byte)
  /-- CHECK OUT, R5 -/
  | checkOut (port : Port) (params : List Byte)
  /-- MOVE STAY, R7 -/
  | moveStay (port : Port) (params : List Byte)
  /-- BLOCK ROOM, R9 -/
  | blockRoom (port : Port) (params : List Byte)
  /-- UNBLOCK ROOM, R10 -/
  | unblockRoom (port : Port) (params : List Byte)
  /-- WRITE ROOM, R11 -/
  | writeRoom (port : Port) (params : List Byte)
  /-- PAIR ROOMS, R12 -/
  | pairRooms (port : Port) (params : List Byte)
  /-- UNPAIR ROOMS, R13 -/
  | unpairRooms (port : Port) (params : List Byte)
  /-- SET MAKEUP, R15 -/
  | setMakeup (port : Port) (params : List Byte)
  /-- READ ROOM, R18 -/
  | readRoom (port : Port) (params : List Byte)
  /-- ISSUE GUEST KEY, R25 -/
  | issueGuestKey (port : Port) (params : List Byte)
  /-- ISSUE STAFF KEY, R26 -/
  | issueStaffKey (port : Port) (params : List Byte)
  /-- REVOKE KEY, R29 -/
  | revokeKey (port : Port) (params : List Byte)
  /-- REPORT LOST, R30 -/
  | reportLost (port : Port) (params : List Byte)
  /-- SUSPEND KEY, R31 -/
  | suspendKey (port : Port) (params : List Byte)
  /-- RESUME KEY, R32 -/
  | resumeKey (port : Port) (params : List Byte)
  /-- EXTEND KEY, R33 -/
  | extendKey (port : Port) (params : List Byte)
  /-- REVOKE ROOM KEYS, R34 -/
  | revokeRoomKeys (port : Port) (params : List Byte)
  /-- READ KEY, R35 -/
  | readKey (port : Port) (params : List Byte)
  /-- KEY COUNTS, R35 -/
  | keyCounts (port : Port) (params : List Byte)
  /-- WRITE PROFILE, R48 -/
  | writeProfile (port : Port) (params : List Byte)
  /-- READ PROFILE, R49 -/
  | readProfile (port : Port) (params : List Byte)
  /-- WATCH ADD, R57 -/
  | watchAdd (port : Port) (params : List Byte)
  /-- WATCH REMOVE, R58 -/
  | watchRemove (port : Port) (params : List Byte)
  /-- READ WATCH, R58 -/
  | readWatch (port : Port) (params : List Byte)
  /-- CLEAR ALARM, R84 -/
  | clearAlarm (port : Port) (params : List Byte)
  /-- SET NODE MODE, R87 -/
  | setNodeMode (port : Port) (params : List Byte)
  /-- RELEASE ZONES, R89 -/
  | releaseZones (port : Port) (params : List Byte)
  /-- RESTORE ZONES, R90 -/
  | restoreZones (port : Port) (params : List Byte)
  /-- UNLATCH NODE, R91 -/
  | unlatchNode (port : Port) (params : List Byte)
  /-- WRITE NODE, R94 -/
  | writeNode (port : Port) (params : List Byte)
  /-- READ NODE, R95 -/
  | readNode (port : Port) (params : List Byte)
  /-- STOP LINE, R106 -/
  | stopLine (port : Port) (params : List Byte)
  /-- START LINE, R107 -/
  | startLine (port : Port) (params : List Byte)
  /-- RESTART LINE, R108 -/
  | restartLine (port : Port) (params : List Byte)
  /-- READ LINE, R109 -/
  | readLine (port : Port) (params : List Byte)
  /-- OPEN FOLIO, R114 -/
  | openFolio (port : Port) (params : List Byte)
  /-- CLOSE FOLIO, R115 -/
  | closeFolio (port : Port) (params : List Byte)
  /-- READ FOLIO, R112 -/
  | readFolio (port : Port) (params : List Byte)
  /-- SET ALLOWANCE, R117 -/
  | setAllowance (port : Port) (params : List Byte)
  /-- HOLD FOLIO, R118 -/
  | holdFolio (port : Port) (params : List Byte)
  /-- RELEASE FOLIO, R118 -/
  | releaseFolio (port : Port) (params : List Byte)
  /-- WRITE PRICES, R131 -/
  | writePrices (port : Port) (params : List Byte)
  /-- READ PRICES, R131 -/
  | readPrices (port : Port) (params : List Byte)
  /-- PEEK CHARGES, R133 -/
  | peekCharges (port : Port) (params : List Byte)
  /-- TAKE CHARGES, R134 -/
  | takeCharges (port : Port) (params : List Byte)
  /-- READ SESSIONS, R122 -/
  | readSessions (port : Port) (params : List Byte)
  /-- FLUSH JOURNAL, R152 -/
  | flushJournal (port : Port) (params : List Byte)
  /-- RELEASE GUARDS, R149 -/
  | releaseGuards (port : Port) (params : List Byte)
  /-- SET GUARDS, R149 -/
  | setGuards (port : Port) (params : List Byte)
  /-- HOLD SEGMENT, R150 -/
  | holdSegment (port : Port) (params : List Byte)
  /-- CLEAR HOLD, R151 -/
  | clearHold (port : Port) (params : List Byte)
  /-- SET CURSOR, R153 -/
  | setCursor (port : Port) (params : List Byte)
  /-- READ RECORDS, R154 -/
  | readRecords (port : Port) (params : List Byte)
  /-- READ SEGMENT WRAPPED, R155 -/
  | readSegmentWrapped (port : Port) (params : List Byte)
  /-- MARK COLLECTED, R156 -/
  | markCollected (port : Port) (params : List Byte)
  /-- JOURNAL STATUS, R157 -/
  | journalStatus (port : Port) (params : List Byte)
  /-- WRITE LAMPS, R164 -/
  | writeLamps (port : Port) (params : List Byte)
  /-- SET BLINK MODE, R165 -/
  | setBlinkMode (port : Port) (params : List Byte)
  /-- SET BLINK PERIOD, R165 -/
  | setBlinkPeriod (port : Port) (params : List Byte)
  /-- SET DARK, R166 -/
  | setDark (port : Port) (params : List Byte)
  /-- CLEAR ALTERNATE, R167 -/
  | clearAlternate (port : Port) (params : List Byte)
  /-- CLEAR BLINK SET, R167 -/
  | clearBlinkSet (port : Port) (params : List Byte)
  /-- READ LAMPS, R171 -/
  | readLamps (port : Port) (params : List Byte)
  /-- VECTOR, R186 -/
  | vector (port : Port) (params : List Byte)
  /-- SET CAUSE LEVELS, R187 -/
  | setCauseLevels (port : Port) (params : List Byte)
  /-- PEER NOTICE, R188 -/
  | peerNotice (port : Port) (params : List Byte)
  /-- SET CLOCK, R191 -/
  | setClock (port : Port) (params : List Byte)
  /-- READ CLOCK, R191 -/
  | readClock (port : Port) (params : List Byte)
  /-- WRITE EMERGENCY KEY, R196 -/
  | writeEmergencyKey (port : Port) (params : List Byte)
  /-- FREEZE EMERGENCY KEY, R197 -/
  | freezeEmergencyKey (port : Port) (params : List Byte)
  /-- READ EMERGENCY KEY, R197 -/
  | readEmergencyKey (port : Port) (params : List Byte)
  /-- PART STATUS, R198 -/
  | partStatus (port : Port) (params : List Byte)
  /-- UNKNOWN COMMAND, R176. `code` is none for a frame with no command code. -/
  | unknownCommand (port : Port) (code : Option Byte)
  /-- COMMAND FRAME DISCARDED, R178. -/
  | commandFrameDiscarded (port : Port)
  /-- STATUS FRAME, R180. `clocked` is the number of answer bytes clocked out before select is released. -/
  | statusFrame (port : Port) (clocked : Nat)
  /-- RESULT FRAME, R181. `clocked` is the number of answer bytes clocked out before select is released. -/
  | resultFrame (port : Port) (clocked : Nat)
  /-- PORT RESET, R182. The release of the input. -/
  | portReset (port : Port)
  /-- ROTATION TURN, R99. -/
  | rotationTurn (line : LineIx)
  /-- VERDICT FRAME, R101. -/
  | verdictFrame (line : LineIx)
  /-- BUSY REPLY, R102. -/
  | busyReply (line : LineIx)
  /-- MODE FRAME, R100. -/
  | modeFrame (line : LineIx)
  /-- QUIET, R97. -/
  | quiet (line : LineIx)
  /-- ACK, R97. -/
  | ack (line : LineIx)
  /-- PRESENT, R97. -/
  | present (line : LineIx) (side : Side) (card : CardId)
  /-- DOOR OPENED, R81. -/
  | doorOpened (line : LineIx)
  /-- DOOR CLOSED, R83. -/
  | doorClosed (line : LineIx)
  /-- BOLT, R85. -/
  | bolt (line : LineIx) (on : Bool)
  /-- BUTTON, R85. -/
  | button (line : LineIx) (which : Button)
  /-- TRAY, R128. -/
  | tray (line : LineIx) (slot : TraySlot) (kind : TrayKind)
  /-- INVALID ANSWER, R96. `frame` is the frame that ended in the answer window, every byte of it. -/
  | invalidAnswer (line : LineIx) (frame : List Byte)
  /-- ANSWER WINDOW EXPIRY, R96. -/
  | answerWindowExpiry (line : LineIx)
  /-- PRESENTATION JUDGEMENT, R64. -/
  | presentationJudgement
  /-- USE REPORT, R44. -/
  | useReport
  /-- REBIND CLAIM, R43. -/
  | rebindClaim
  /-- GRANT WINDOW EXPIRY, R80. -/
  | grantWindowExpiry (node : NodeAddr)
  /-- HELD OPEN TIMER EXPIRY, R82. -/
  | heldOpenTimerExpiry (node : NodeAddr)
  /-- OPEN LIMIT EXPIRY, R124. -/
  | openLimitExpiry (node : NodeAddr)
  /-- FLUSH TIMER EXPIRY, R141. -/
  | flushTimerExpiry
  /-- BLINK PHASE TOGGLE, R165. -/
  | blinkPhaseToggle
  /-- MINUTE TICK, R192. -/
  | minuteTick
  /-- SWEEP VISIT, R169. -/
  | sweepVisit
  /-- CLEAR WALK STEP, R167. -/
  | clearWalkStep
  /-- SCAN JOB START, R37. -/
  | scanJobStart
  /-- SCAN STEP, R37. -/
  | scanStep
  /-- BLOCK PROGRAM START, R142. -/
  | blockProgramStart
  /-- MARK PROGRAM START, R147. -/
  | markProgramStart
  /-- ERASE START, R145. -/
  | eraseStart
  /-- ERASE SUSPEND, R148. -/
  | eraseSuspend
  /-- BLOCK PROGRAM COMPLETE, R142. -/
  | blockProgramComplete
  /-- FIRST SEQUENCE MARK PROGRAMMED, R142. -/
  | firstSequenceMarkProgrammed
  /-- HOLD MARK PROGRAMMED, R150. -/
  | holdMarkProgrammed
  /-- RELEASE MARK PROGRAMMED, R151. -/
  | releaseMarkProgrammed
  /-- SEGMENT ERASE COMPLETE, R146. -/
  | segmentEraseComplete
  /-- EMERGENCY PROGRAMMING DONE, R196. -/
  | emergencyProgrammingDone
  /-- MAIN SUPPLY LOST, R193. -/
  | mainSupplyLost
  /-- MAIN SUPPLY RETURN, R194. -/
  | mainSupplyReturn
  /-- COLD START, R195. -/
  | coldStart
  /-- BACKUP CELL CHANGE, R194. -/
  | backupCellChange (change : CellChange)
  /-- PORT RESET ASSERTED, R182. -/
  | portResetAsserted (port : Port)
deriving DecidableEq, Repr

end Sys2Proof
end

