-- ==== Sys2Proof/Decode.lean ====
section
/-! DEFINITION. The command that a word of the table spells: the table gives no row any bits. -/

namespace Sys2Proof

/-- The command a word spells. No row of spec/opcode_table.json carries bits, so no word spells one. -/
def decodeTableWord (_nbits _w : Nat) : Option Instr := none

end Sys2Proof
end

