-- ==== Sys2Proof/Config.lean ====
section
/-! DEFINITION. What the part fixes (sizes and durations, each with its rule) and the free values the manual leaves open. -/

namespace Sys2Proof.Config

/-- Crystal periods in one second (chapter 11: a 32.768 kHz crystal). -/
def crystalHz : Nat := 32768

/-- The grant window of R80, 6 s, in crystal periods. -/
def grantWindow : Nat := 6 * crystalHz

/-- The session open limit of R124, 600 s, in crystal periods. -/
def openLimit : Nat := 600 * crystalHz

/-- The flush timer of R141, 2 s, in crystal periods. -/
def flushPeriod : Nat := 2 * crystalHz

/-- The unit of the blink half-period of R165, 250 ms, in crystal periods. -/
def blinkUnit : Nat := crystalHz / 4

/-- Jobs the Scan Queue holds (R36). -/
def scanQueueMax : Nat := 8

/-- Entries the Presentation Queue holds (R62). -/
def presentationMax : Nat := 32

/-- The most a line's outstanding count may be (R62). -/
def outstandingMax : Nat := 8

/-- Cards the Watch List holds (R56). -/
def watchMax : Nat := 8

/-- Records the Staging Queue holds (R137). -/
def stagingMax : Nat := 64

/-- Minibar sessions that may stand at once (R122). -/
def sessionMax : Nat := 16

/-- Lines the Charge Queue holds, reservations included (R132). -/
def chargeMax : Nat := 128

/-- Charge space a charged session reserves at its opening (R122). -/
def reservation : Nat := 4

/-- Live guest keys a room may have (R3). -/
def liveKeyMax : Nat := 6

/-- The sum of R28 below which KEY_TABLE_LOW is raised. -/
def keyTableLow : Nat := 64

/-- Rooms a folio may hold (R4, R116). -/
def folioRoomMax : Nat := 4

/-- Suspensions of one erase (R148). -/
def suspensionMax : Nat := 4

/-- Segments that may be HELD or have a hold pending (R150). -/
def heldMax : Nat := 12

/-- Records a block program takes at most (R142). -/
def blockRecords : Nat := 8

/-- FREE VALUE. What a 32-bit journal count (dropped-routine, dropped-priority, overrun) reads once it has been raised from
`old` by `by_` past 4,294,967,295: R139 and R156 give the range and no rule for its end. DESIGN CHOICE, log entry 12. -/
opaque countPastTop (old by_ : Nat) : BitVec 32

/-- FREE VALUE. The detail of a LINE_FAULT record: R105 makes it carry the line and the number of configured nodes and
gives no packing of the two. DESIGN CHOICE, log entry 11. -/
opaque lineFaultDetail (line configured : Nat) : BitVec 16

/-- FREE VALUE. The hold and release marks that the rebuild reads in the header of a RELEASED segment whose erase was
interrupted (R160 keeps `a hold state read from valid marks`). The first is the hold mark and the second the release mark.
DESIGN CHOICE, log entry 13. -/
opaque marksAfterInterruptedErase (segment : Nat) (elapsed : Nat) : Bool × Bool

/-- FREE VALUE. What a slot holds whose block program the hold-up did not cover: R160 says that the segment then reads DIRTY and
gives no content. DESIGN CHOICE, log entry 40. -/
opaque tornContent (segment slot elapsed : Nat) : BitVec 256

/-- FREE VALUE. What a header mark program that the hold-up did not cover has left: whether the mark reads programmed, and whether
the header can still be read. DESIGN CHOICE, log entry 40. -/
opaque tornMark (segment elapsed : Nat) : Bool × Bool

/-- FREE VALUE. What an emergency slot holds whose programming the hold-up did not cover: nothing, or an identity and a zone set.
DESIGN CHOICE, log entry 40. -/
opaque tornEmergency (slot elapsed : Nat) : Option (BitVec 64 × BitVec 16)

end Sys2Proof.Config
end

