-- ==== Sys2Proof/Machine/Table.lean ====
section
/-! DEFINITION. A table of 2^d records as a perfect binary tree: plain data, read and written in d steps, with one value for
each content, so that equal tables are equal data and Lean's kernel reads one record without walking the others. -/

namespace Sys2Proof.Machine

/-- A table of 2^d records, indexed from 0. -/
inductive Table (α : Type) : Nat → Type where
  | leaf (x : α) : Table α 0
  | node {d : Nat} (lo hi : Table α d) : Table α (d + 1)
deriving DecidableEq, Repr

/-- The table that holds one value at every index. -/
def Table.replicate {α : Type} (x : α) : (d : Nat) → Table α d
  | 0 => .leaf x
  | d + 1 => .node (replicate x d) (replicate x d)

/-- The record at an index below 2^d. -/
def Table.get {α : Type} : {d : Nat} → Table α d → Nat → α
  | _, .leaf x, _ => x
  | d + 1, .node lo hi, i => if i < 2 ^ d then lo.get i else hi.get (i - 2 ^ d)

/-- The table with the record at an index below 2^d replaced. -/
def Table.set {α : Type} : {d : Nat} → Table α d → Nat → α → Table α d
  | _, .leaf _, _, y => .leaf y
  | d + 1, .node lo hi, i, y => if i < 2 ^ d then .node (lo.set i y) hi else .node lo (hi.set (i - 2 ^ d) y)

/-- The table whose record at index `base + i` is `f (base + i)` of the old record. -/
def Table.mapFrom {α β : Type} (f : Nat → α → β) : {d : Nat} → Table α d → Nat → Table β d
  | _, .leaf x, base => .leaf (f base x)
  | d + 1, .node lo hi, base => .node (lo.mapFrom f base) (hi.mapFrom f (base + 2 ^ d))

/-- The lowest index at or above `base` whose record meets a test. -/
def Table.findFrom {α : Type} (p : α → Bool) : {d : Nat} → Table α d → Nat → Option Nat
  | _, .leaf x, base => if p x then some base else none
  | d + 1, .node lo hi, base => (lo.findFrom p base).or (hi.findFrom p (base + 2 ^ d))

/-- The number of records that meet a test. -/
def Table.count {α : Type} (p : α → Bool) : {d : Nat} → Table α d → Nat
  | _, .leaf x => if p x then 1 else 0
  | _ + 1, .node lo hi => lo.count p + hi.count p

/-- The records in order of index. -/
def Table.toList {α : Type} : {d : Nat} → Table α d → List α
  | _, .leaf x => [x]
  | _ + 1, .node lo hi => lo.toList ++ hi.toList

/-- The record at an index. -/
def tget {α : Type} {d n : Nat} (v : Table α d) (i : Fin n) : α := v.get i.val

/-- The table with one record replaced. -/
def tset {α : Type} {d n : Nat} (v : Table α d) (i : Fin n) (x : α) : Table α d := v.set i.val x

/-- The table with one record changed by a function. -/
def tmod {α : Type} {d n : Nat} (v : Table α d) (i : Fin n) (f : α → α) : Table α d := tset v i (f (tget v i))

/-- A fixed-range index from a number, none outside the range. -/
def toFin? (n k : Nat) : Option (Fin n) := if h : k < n then some ⟨k, h⟩ else none

/-- The table with every record changed by a function of its index. -/
def tmap {α β : Type} {d : Nat} (n : Nat) [NeZero n] (v : Table α d) (f : Fin n → α → β) : Table β d :=
  v.mapFrom (fun i x => f (Fin.ofNat n i) x) 0

/-- The lowest index whose record meets a test. -/
def tfind {α : Type} {d : Nat} (n : Nat) (v : Table α d) (p : α → Bool) : Option (Fin n) :=
  (v.findFrom p 0).bind (toFin? n)

end Sys2Proof.Machine
end

