-- ==== Sys2Proof/Machine/State.lean ====
section
/-! DEFINITION. State: everything the manual gives the KC-264, as plain data, and the state after reset. -/

namespace Sys2Proof.Machine

/-! ### Ports and attention (chapters 9 and 10) -/

/-- One value for each master port. -/
structure PerPort (α : Type) where
  front : α
  charge : α
  service : α
deriving DecidableEq, Repr

/-- Result codes, in the order of Table 9-2. -/
inductive ResultCode where
  | ok | truncated | unknownCommand | notPermitted | badParam | noEntry | duplicate | tableFull | limit
  | state | conflict | folio | scanFull | watchFull | holdLimit | jammed | cursorLost | slotUsed
deriving DecidableEq, Repr

/-- A result record (Table 9-1): the command code (absent for a frame without one), the result code, the returned data. -/
structure ResultRecord where
  command : Option Byte
  code : ResultCode
  data : List Byte
deriving DecidableEq, Repr

/-- Port state with the command slot, which is present only in WORKING (Table 9-1). -/
inductive PortPhase where
  | idle
  | working (command : Command)
  | done
deriving DecidableEq, Repr

/-- Restart mark (Table 9-1). -/
inductive RestartMark where
  | none | warm | cold
deriving DecidableEq, Repr

/-- The state of one master port (Table 9-1, R182). -/
structure PortRec where
  phase : PortPhase
  result : Option ResultRecord
  tag : BitVec 8
  refusal : Bool
  restart : RestartMark
  /-- the port-reset input is asserted (R182) -/
  resetHeld : Bool
  /-- the bytes the last status or result frame clocked out on data-out: a view of the pin (log entry 27) -/
  dataOut : List Byte
deriving DecidableEq, Repr

/-- Causes of attention, by name (Table 10-1). -/
inductive Cause where
  | commandDone | scanDone | roomVacated | keyTableLow | folioDrained | peerNotice | chargeWaiting | folioHeld | unbilled
  | doorAlarm | watchHit | nodeOffline | lineFault | journalJam | journalOverrun | stagingDrop | sweepDone | blinkPhase
  | powerReturn | clockUnset | tablesLost
deriving DecidableEq, Repr

/-- The Attention Unit's state for one port (R184, R188). -/
structure Attn where
  levels : Vector (Fin 8) 14
  pending : Vector Bool 14
  noticeValue : Byte
  noticeSender : Option Port
  noticeReplaced : Bool
deriving DecidableEq, Repr

/-! ### Rooms (chapter 1) -/

/-- The state to which UNBLOCK ROOM returns (Table 1-1). -/
inductive PriorState where
  | vacant | occupied
deriving DecidableEq, Repr

/-- State of a room, with the fields present only in BLOCKED (Table 1-1). -/
inductive RoomPhase where
  | vacant
  | occupied
  | closing
  | blocked (prior : PriorState) (reason : Byte)
deriving DecidableEq, Repr

/-- Progress of an ended stay (Table 1-1). -/
inductive Closing where
  | scanPending | scanDone
deriving DecidableEq, Repr

/-- How a door stands, in the order of Table 1-1. -/
inductive DoorCond where
  | closed | opened | heldOpen | forced | unknown
deriving DecidableEq, Repr

/-- Paired room and connecting node, present together (Table 1-1, R12). -/
structure Pairing where
  room : RoomIx
  node : NodeAddr
deriving DecidableEq, Repr

/-- Moved-from: source room and its generation before the move (Table 1-1, R7). -/
structure MovedFrom where
  source : RoomIx
  generation : BitVec 8
deriving DecidableEq, Repr

/-- A room record (Table 1-1). -/
structure Room where
  phase : RoomPhase
  closing : Option Closing
  generation : BitVec 8
  liveKeys : Nat
  label : BitVec 16
  doorNode : Option NodeAddr
  minibarNode : Option NodeAddr
  pairing : Option Pairing
  folio : Option FolioIx
  movedFrom : Option MovedFrom
  privacy : Bool
  makeup : Bool
  door : DoorCond
  lastEntry : Option HotelTime
deriving DecidableEq, Repr

/-! ### Keys (chapter 2) -/

/-- A binding of a guest key (Table 2-1). -/
structure Binding where
  room : RoomIx
  generation : BitVec 8
deriving DecidableEq, Repr

/-- Kind of key, with the fields of that kind (Table 2-1). -/
inductive KeyBody where
  | guest (bindings : List Binding)
  | staff (zones : Set16)
deriving DecidableEq, Repr

/-- Retirement reasons, in the order of Table 2-1. -/
inductive RetireReason where
  | checkout | replaced | lost | manual | expired
deriving DecidableEq, Repr

/-- The two retired states (Table 2-2). -/
inductive RetiredAs where
  | revoked | expired
deriving DecidableEq, Repr

/-- Standing of an entry that is not FREE (Table 2-1). -/
inductive Standing where
  | live
  | suspended
  | retired (how : RetiredAs) (reason : RetireReason) (time : HotelTime)
deriving DecidableEq, Repr

/-- A key entry that is not FREE (Table 2-1). -/
structure KeyEntry where
  card : CardId
  body : KeyBody
  standing : Standing
  profile : Fin 16
  validFrom : HotelTime
  validUntil : HotelTime
  presentations : Nat
  uses : Nat
  lastUse : Option HotelTime
  issuer : Port
deriving DecidableEq, Repr

/-- A scan job (Table 2-3, R36), with the port on whose behalf it was queued. -/
inductive ScanJob where
  | revokeRoom (room : RoomIx) (reason : RetireReason) (port : Port)
  | replace (room : RoomIx) (port : Port)
  | rebind (source target : RoomIx) (generation : BitVec 8) (port : Port)
  | expiry
deriving DecidableEq, Repr

/-- A claim of the Verdict Engine that waits at the Key Register's arbiter (R44, R43, R45). `rewritten` says that an issue
has rewritten the entry since the lookup the claim follows. -/
inductive VeClaim where
  | use (key : KeyIx) (card : CardId) (used : Bool) (arrival : Stamp) (rewritten : Bool)
  | rebind (key : KeyIx) (card : CardId) (move : MovedFrom) (target : RoomIx) (rewritten : Bool)
deriving DecidableEq, Repr

/-- The Key Register (chapter 2). An entry that is `none` is FREE. -/
structure KeyRegister where
  entries : Table (Option KeyEntry) 11
  retired : List KeyIx
  scanQueue : List ScanJob
  /-- the index the running walk judges next; none while the scan engine is idle (R37) -/
  walk : Option KeyIx
  lowArmed : Bool
  claims : List VeClaim
deriving DecidableEq, Repr

/-! ### Profiles, the Watch List and presentations (chapters 3 and 4) -/

/-- A profile record (Table 3-1). -/
structure Profile where
  /-- node kinds: bits 0 to 4 in Table 3-1 order -/
  kinds : Set8
  classes : Set8
  days : Set8
  windowFrom : Nat
  windowUntil : Nat
  enterOccupied : Bool
  enterVacant : Bool
  makeupOnly : Bool
  overridePrivacy : Bool
  overrideBlock : Bool
  restock : Bool
  clockless : Bool
deriving DecidableEq, Repr

/-- Watch actions (Table 3-3). -/
inductive WatchAction where
  | alert | alertAndDeny
deriving DecidableEq, Repr

/-- Watch origins (Table 3-3). -/
inductive WatchOrigin where
  | lost | service
deriving DecidableEq, Repr

/-- A watch entry (Table 3-3). -/
structure WatchEntry where
  card : CardId
  action : WatchAction
  origin : WatchOrigin
deriving DecidableEq, Repr

/-- Outcome of a verdict. -/
inductive VerdictOutcome where
  | grant | deny
deriving DecidableEq, Repr

/-- Verdict reasons, in the order of Table 4-4. -/
inductive Reason where
  | key | emergency | passage | released | remote | busy | secured | watched | unknown | suspended | revoked | expired
  | notYet | clock | kind | zone | time | stale | roomState | blocked | privacy | makeup | nearSide | farSide
  | folio | allowance | sessionOpen | sessionsFull | chargesFull
deriving DecidableEq, Repr

/-- A verdict (Table 4-2). Its lamp pulse is green for a GRANT and red for a DENY (R65). -/
structure Verdict where
  outcome : VerdictOutcome
  reason : Reason
deriving DecidableEq, Repr

/-- A Presentation Queue entry (Table 4-2): WAITING while it holds no verdict, JUDGED once it holds one. -/
structure Presentation where
  node : NodeAddr
  side : Side
  card : CardId
  arrival : Stamp
  verdict : Option Verdict
deriving DecidableEq, Repr

/-- The Verdict Engine's own tables (4.1). -/
structure VerdictEngine where
  queue : List Presentation
  profiles : Table Profile 4
  watch : List WatchEntry
deriving DecidableEq, Repr

/-! ### Nodes and lines (chapters 4 and 5) -/

/-- A passage window or profile window: minutes of day, from and until. -/
structure Window where
  start : Nat
  stop : Nat
deriving DecidableEq, Repr

/-- A node's kind with the configuration fields its kind has (Table 5-1). -/
inductive NodeConfig where
  | none
  | roomDoor (room : RoomIx)
  | connectDoor (room : RoomIx)
  | commonDoor (cls : Fin 8) (windows : List Window)
  | staffDoor
  | minibar (room : RoomIx) (cls : Fin 4)
deriving DecidableEq, Repr

/-- Link states (Table 5-1). -/
inductive Link where
  | unpolled | online | offline
deriving DecidableEq, Repr

/-- The modes a released node may be kept in (Table 4-1). -/
inductive KeptMode where
  | normal | passage | secured
deriving DecidableEq, Repr

/-- Mode, with the kept mode that is present only in RELEASED (Table 4-1). -/
inductive Mode where
  | normal
  | passage
  | released (kept : KeptMode)
  | secured
deriving DecidableEq, Repr

/-- Holder of a grant outstanding (Table 4-1). -/
inductive Holder where
  | none
  | key (key : KeyIx)
  | slot (slot : Fin 4)
deriving DecidableEq, Repr

/-- Grant outstanding (Table 4-1). `since` is the elapsed time at the grant, from which the 6 s window runs (R80). -/
structure Grant where
  time : HotelTime
  holder : Holder
  since : Nat
deriving DecidableEq, Repr

/-- A running held-open timer (R82): its expiry in elapsed time, and the limit in seconds it was started with. -/
structure HeldOpenTimer where
  expiry : Nat
  limit : Nat
deriving DecidableEq, Repr

/-- A node record (Tables 5-1 and 4-1). -/
structure Node where
  config : NodeConfig
  zone : Fin 16
  heldOpenLimit : Nat
  link : Link
  missed : Nat
  modePending : Bool
  lampPending : Bool
  mode : Mode
  inside : Bool
  grant : Option Grant
  door : DoorCond
  latch : Bool
  heldOpen : Option HeldOpenTimer
deriving DecidableEq, Repr

/-- Four lamps, in the order of the LAMPS payload (Table 12-6). -/
structure LampSet where
  privacy : Bool
  makeup : Bool
  call : Bool
  alarm : Bool
deriving DecidableEq, Repr

/-- Mode as a MODE frame carries it (Table 12-6). -/
inductive ModeName where
  | normal | passage | released | secured
deriving DecidableEq, Repr

/-- Outbound frames (Table 5-3). A VERDICT frame serves the head of the Verdict Queue or a busy reply (R98). -/
inductive OutFrame where
  | poll
  | lamps (set : LampSet)
  | mode (mode : ModeName)
  | verdict (outcome : VerdictOutcome)
  | busyReply
deriving DecidableEq, Repr

/-- Exchange in flight (Table 5-2). `markAgain`: the mark that a LAMPS or MODE frame serves was set again after the frame
was built (R111). -/
structure Exchange where
  addr : Fin 64
  frame : OutFrame
  markAgain : Bool
deriving DecidableEq, Repr

/-- An entry of a line's Verdict Queue (R101). -/
structure QueuedVerdict where
  addr : Fin 64
  verdict : Verdict
  card : Option CardId
  key : Option KeyIx
  remote : Bool
deriving DecidableEq, Repr

/-- Line states (Table 5-2). -/
inductive LineState where
  | running | stopped | fault
deriving DecidableEq, Repr

/-- A Line Controller's state (Table 5-2). -/
structure Line where
  state : LineState
  verdicts : List QueuedVerdict
  busy : Option (Fin 64)
  exchange : Option Exchange
  rotation : Fin 64
  silent : Nat
  missedTotal : Nat
  badTotal : Nat
deriving DecidableEq, Repr

/-! ### Minibars and charges (chapter 6) -/

/-- Hold causes (Table 6-1). -/
inductive HoldCause where
  | allowance | unbilled | manual
deriving DecidableEq, Repr

/-- State of a folio, with the hold cause present only in HELD (Table 6-1). -/
inductive FolioState where
  | free
  | opened
  | held (cause : HoldCause)
  | closing
deriving DecidableEq, Repr

/-- A folio record (Table 6-1). -/
structure Folio where
  state : FolioState
  rooms : List RoomIx
  allowance : Nat
  spent : Nat
  pendingLines : Nat
deriving DecidableEq, Repr

/-- States of a minibar session (R122). -/
inductive SessionState where
  | opening | opened
deriving DecidableEq, Repr

/-- A minibar session (R122). A session without a folio is a restock session. -/
structure Session where
  state : SessionState
  room : RoomIx
  node : NodeAddr
  key : KeyIx
  folio : Option FolioIx
  reserved : Nat
  linesMade : Nat
  time : HotelTime
  limitNoticed : Bool
  /-- expiry of the open limit in elapsed time, running once the session is OPEN (R124) -/
  limitAt : Option Nat
deriving DecidableEq, Repr

/-- A charge line (R128, Table 12-8). -/
structure ChargeLine where
  number : BitVec 16
  folio : FolioIx
  room : RoomIx
  slot : TraySlot
  kind : TrayKind
  price : Nat
  time : Stamp
deriving DecidableEq, Repr

/-- The Charge Unit (chapter 6). -/
structure ChargeUnit where
  folios : Table Folio 8
  sessions : List Session
  prices : Table (Table Nat 5) 2
  queue : List ChargeLine
  nextLine : BitVec 16
deriving DecidableEq, Repr

/-! ### The Journal (chapter 7) -/

/-- Record classes (Table 7-1). -/
inductive RecordClass where
  | routine | notice | alarm
deriving DecidableEq, Repr

/-- Record kinds, in the order of Table 7-2. -/
inductive RecordKind where
  | entryGranted | entryDenied | connectSide | forced | heldOpen | alarmCleared | bolt | minibarOpen | minibarClose | restock
  | minibarHeld | minibarAbandoned | unbilled | trayUnexpected | keyIssued | keyRetired | roomCheckin | roomCheckout
  | roomMove | roomBlock | nodeOffline | nodeOnline | lineFault | watchHit | release | restore | verdictUnconfirmed
  | verdictUndelivered | powerLoss | powerReturn | clockSet
deriving DecidableEq, Repr

/-- The reason field of a record: a verdict reason or a retirement reason (Table 7-1). -/
inductive RecordReason where
  | verdict (reason : Reason)
  | retirement (reason : RetireReason)
deriving DecidableEq, Repr

/-- A journal record (Table 7-1). -/
structure Record where
  seq : Seq
  time : Stamp
  cls : RecordClass
  kind : RecordKind
  node : Option NodeAddr
  room : Option RoomIx
  card : Option CardId
  key : Option KeyIx
  reason : Option RecordReason
  detail : BitVec 16
deriving DecidableEq, Repr

/-- A record slot of the Journal Array (7.3): blank, programmed with a record, or holding other content of 32 bytes, as a block
program leaves it that was cut short (R160, R199). -/
inductive Slot where
  | blank
  | written (record : Record)
  | other (content : BitVec 256)
deriving DecidableEq, Repr

/-- Segment states, with the next block present only in FILLING (Table 7-4). -/
inductive SegState where
  | blank
  | filling (next : Nat)
  | full
  | dirty
deriving DecidableEq, Repr

/-- Hold states (Table 7-4). -/
inductive HoldState where
  | none | held | released
deriving DecidableEq, Repr

/-- A segment: its Segment Directory entry (Table 7-4), and its header and slots in the Journal Array (7.3). -/
structure Segment where
  state : SegState
  first : Option Seq
  last : Option Seq
  guard : Bool
  hold : HoldState
  holdPending : Bool
  /-- first-sequence slot of the header -/
  headerFirst : Option Seq
  holdMark : Bool
  releaseMark : Bool
  /-- an erase of the array segment has begun and not ended, or a program of it was cut short, so that it cannot be read as valid
  records and blank slots (R158, R160) -/
  interrupted : Bool
  slots : Table Slot 9
deriving DecidableEq, Repr

/-- A block or mark program in progress (Table 7-3). -/
inductive Program where
  | block (segment : SegIx) (blk count : Nat)
  | firstMark (segment : SegIx) (seq : Seq)
  | holdMark (segment : SegIx)
  | releaseMark (segment : SegIx)
deriving DecidableEq, Repr

/-- An erase in progress or suspended, with its count of suspensions (R148). -/
structure Erase where
  segment : SegIx
  suspensions : Nat
  suspended : Bool
deriving DecidableEq, Repr

/-- A claim of the mark queue (R147). -/
inductive MarkClaim where
  | first (segment : SegIx) (seq : Seq)
  | hold (segment : SegIx)
  | release (segment : SegIx)
deriving DecidableEq, Repr

/-- The Journal (chapter 7). -/
structure Journal where
  nextSeq : Seq
  staged : List Record
  droppedRoutine : BitVec 32
  droppedPriority : BitVec 32
  noticeArmed : Bool
  /-- expiry of the flush timer in elapsed time while it runs (R141) -/
  flushAt : Option Nat
  commitDue : Bool
  /-- target of a pending flush (R152) -/
  flush : Option Seq
  segments : Table Segment 4
  program : Option Program
  erase : Option Erase
  marks : List MarkClaim
  cursor : Seq
  cursorLost : Bool
  collected : Option Seq
  overrun : BitVec 32
deriving DecidableEq, Repr

/-! ### Corridor indicators (chapter 8) -/

/-- Blink modes, in the order of Table 8-2. -/
inductive BlinkMode where
  | steady | blinkSelected | blinkAll | alternate
deriving DecidableEq, Repr

/-- Kinds of sweep (8.4). -/
inductive SweepKind where
  | toggle | full
deriving DecidableEq, Repr

/-- Sweep state (8.4): MARKING holds the room it visits next. -/
inductive Sweep where
  | idle
  | marking (kind : SweepKind) (next : RoomIx)
  | draining (kind : SweepKind)
deriving DecidableEq, Repr

/-- An indicator entry (Table 8-1). -/
structure IndEntry where
  primary : LampSet
  alternate : LampSet
  blinkSelect : LampSet
  lastSent : Option LampSet
deriving DecidableEq, Repr

/-- Which set a walk of R167 clears. -/
inductive ClearKind where
  | alternate | blinkSet
deriving DecidableEq, Repr

/-- The Indicator Unit (chapter 8). -/
structure Indicator where
  entries : Table IndEntry 9
  mode : BlinkMode
  /-- half-period in units of 250 ms -/
  multiplier : Nat
  dark : Bool
  phaseOn : Bool
  /-- elapsed time of the next toggle while the blink generator runs (R165) -/
  toggleAt : Option Nat
  sweep : Sweep
  outstanding : List NodeAddr
  pendingStart : Option SweepKind
  clearing : Option (ClearKind × RoomIx)
deriving DecidableEq, Repr

/-! ### Clock, supply and emergency keys (chapter 11) -/

/-- Power states (11.2). `lost` names the part whose retention domain has been lost and that waits for its cold start (R194). -/
inductive Power where
  | run | retain | lost
deriving DecidableEq, Repr

/-- Backup cell condition (R194). -/
inductive Cell where
  | good | low
deriving DecidableEq, Repr

/-- Kind of the last start (R198). -/
inductive StartKind where
  | cold | warm
deriving DecidableEq, Repr

/-- Clock and Supply (chapter 11). -/
structure Supply where
  power : Power
  cell : Cell
  /-- the clock is RUNNING; it is UNSET otherwise (R190) -/
  clockRunning : Bool
  counter : HotelTime
  /-- crystal periods into the present second (R190) -/
  fraction : Nat
  /-- crystal periods since the reset, by which durations are measured (R191; log entry 2) -/
  elapsed : Nat
  lastStart : StartKind
  warmRestarts : Nat
  lastLoss : Option Stamp
  lastReturn : Option Stamp
  /-- elapsed time at the last loss, from which the time in RETAIN is reckoned (R194) -/
  lossElapsed : Nat
deriving DecidableEq, Repr

/-- An emergency slot (Table 11-2). -/
inductive EmergencySlot where
  | blank
  | written (card : CardId) (zones : Set16)
  | frozen (card : CardId) (zones : Set16)
deriving DecidableEq, Repr

/-- A programming in progress of an emergency slot (R196). -/
structure EmergencyProgram where
  slot : Fin 4
  card : CardId
  zones : Set16
deriving DecidableEq, Repr

/-- The Emergency Key Store (11.3). -/
structure EmergencyStore where
  slots : Table EmergencySlot 2
  programming : Option EmergencyProgram
deriving DecidableEq, Repr

/-! ### The whole part -/

/-- The state of the KC-264, and the queue of the events that wait to be taken. -/
structure State where
  ports : PerPort PortRec
  attn : PerPort Attn
  rooms : Table Room 9
  keys : KeyRegister
  verdict : VerdictEngine
  nodes : Table (Table Node 6) 4
  lines : Table Line 4
  charge : ChargeUnit
  journal : Journal
  lamps : Indicator
  supply : Supply
  emergency : EmergencyStore
  pending : List Instr
deriving DecidableEq, Repr

/-- Reasons to stop with a fault. The manual describes no condition in which the part stops. -/
inductive Fault where
  /-- Raised by no event: the part has no stop. Safe. -/
  | noStopDescribed
deriving DecidableEq, Repr

/-- Reasons to refuse an event. -/
inductive Refusal where
  /-- Raised by exec for an event that has no meaning yet. Safe. No arm raises it in this model. -/
  | notModelled (mnemonic : String)
deriving DecidableEq, Repr

/-! ### Reset values -/

/-- All four lamps unlit (R162). -/
def LampSet.unlit : LampSet := ⟨false, false, false, false⟩

/-- A port after cold start (R174). -/
def PortRec.reset : PortRec :=
  { phase := .idle, result := none, tag := 0, refusal := false, restart := .cold, resetHeld := false, dataOut := [] }

/-- Default levels of the Front port's causes (Table 10-1); a number the port does not have holds 0. -/
def defaultLevelsFront : Vector (Fin 8) 14 := #v[1, 4, 4, 4, 4, 4, 0, 0, 0, 0, 0, 0, 0, 0]

/-- Default levels of the Charge port's causes (Table 10-1). -/
def defaultLevelsCharge : Vector (Fin 8) 14 := #v[1, 4, 4, 7, 4, 4, 0, 0, 0, 0, 0, 0, 0, 0]

/-- Default levels of the Service port's causes (Table 10-1). -/
def defaultLevelsService : Vector (Fin 8) 14 := #v[1, 7, 7, 4, 7, 7, 4, 4, 0, 0, 4, 4, 4, 4]

/-- A port's attention state after cold start, with the given default levels (R184). -/
def Attn.reset (levels : Vector (Fin 8) 14) : Attn :=
  { levels := levels, pending := Vector.replicate 14 false, noticeValue := 0, noticeSender := none, noticeReplaced := false }

/-- A room after cold start (R1). -/
def Room.reset : Room :=
  { phase := .vacant, closing := none, generation := 0, liveKeys := 0, label := 0, doorNode := none, minibarNode := none,
    pairing := none, folio := none, movedFrom := none, privacy := false, makeup := false, door := .unknown, lastEntry := none }

/-- The Key Register after cold start (R21, R28). -/
def KeyRegister.reset : KeyRegister :=
  { entries := Table.replicate none 11, retired := [], scanQueue := [], walk := none, lowArmed := true, claims := [] }

/-- Profiles 1 to 15 after cold start (R47). -/
def Profile.empty : Profile :=
  { kinds := 0, classes := 0, days := 0, windowFrom := 0, windowUntil := 0, enterOccupied := false, enterVacant := false,
    makeupOnly := false, overridePrivacy := false, overrideBlock := false, restock := false, clockless := false }

/-- Profile 0 after cold start (R47): ROOM_DOOR, CONNECT_DOOR and COMMON_DOOR, classes 0 to 7, days 0 to 6. -/
def Profile.guestDefault : Profile := { Profile.empty with kinds := 0x07, classes := 0xFF, days := 0x7F }

/-- The Verdict Engine's tables after cold start (R47, R56, R61). -/
def VerdictEngine.reset : VerdictEngine :=
  { queue := [], profiles := (Table.replicate Profile.empty 4).set 0 Profile.guestDefault, watch := [] }

/-- A node after cold start (R93, R61). -/
def Node.reset : Node :=
  { config := .none, zone := 0, heldOpenLimit := 60, link := .unpolled, missed := 0, modePending := false,
    lampPending := false, mode := .normal, inside := false, grant := none, door := .unknown, latch := false, heldOpen := none }

/-- A line after cold start (R93). -/
def Line.reset : Line :=
  { state := .running, verdicts := [], busy := none, exchange := none, rotation := 0, silent := 0, missedTotal := 0,
    badTotal := 0 }

/-- A folio after cold start (R112). -/
def Folio.reset : Folio := { state := .free, rooms := [], allowance := 0, spent := 0, pendingLines := 0 }

/-- The Charge Unit after cold start (R112, R122, R131, R132). -/
def ChargeUnit.reset : ChargeUnit :=
  { folios := Table.replicate Folio.reset 8, sessions := [], prices := Table.replicate (Table.replicate 0 5) 2,
    queue := [], nextLine := 0 }

/-- A segment of a part new from its maker: blank (log entry 6), guarded (R140). -/
def Segment.new : Segment :=
  { state := .blank, first := none, last := none, guard := true, hold := .none, holdPending := false, headerFirst := none,
    holdMark := false, releaseMark := false, interrupted := false, slots := Table.replicate .blank 9 }

/-- The POWER_RETURN record that a cold start of a new part offers (R195): detail FFFFh, time the clock-unset mark. -/
def Record.coldStart (seq : Seq) : Record :=
  { seq := seq, time := none, cls := .notice, kind := .powerReturn, node := none, room := none, card := none, key := none,
    reason := none, detail := 0xFFFF }

/-- The Journal of a new part after its cold start (R137, R139, R141, R153, R156, R160): segment 0 is FILLING, and the
POWER_RETURN record of R195 is staged with sequence 0 and has started the flush timer. -/
def Journal.reset : Journal :=
  { nextSeq := 1, staged := [Record.coldStart 0], droppedRoutine := 0, droppedPriority := 0, noticeArmed := true,
    flushAt := some Config.flushPeriod, commitDue := false, flush := none,
    segments := (Table.replicate Segment.new 4).set 0 { Segment.new with state := .filling 0 },
    program := none, erase := none, marks := [], cursor := 0, cursorLost := false, collected := none, overrun := 0 }

/-- An indicator entry after cold start (R162). -/
def IndEntry.reset : IndEntry := { primary := .unlit, alternate := .unlit, blinkSelect := .unlit, lastSent := none }

/-- The Indicator Unit after cold start, its full refresh requested and so begun (R162, R168). -/
def Indicator.reset : Indicator :=
  { entries := Table.replicate IndEntry.reset 9, mode := .steady, multiplier := 2, dark := false, phaseOn := true,
    toggleAt := none, sweep := .marking .full 0, outstanding := [], pendingStart := none, clearing := none }

/-- Clock and Supply after cold start (R190, R195); the cell's condition is log entry 6. -/
def Supply.reset : Supply :=
  { power := .run, cell := .good, clockRunning := false, counter := 0, fraction := 0, elapsed := 0, lastStart := .cold,
    warmRestarts := 0, lastLoss := none, lastReturn := none, lossElapsed := 0 }

/-- The Emergency Key Store of a part new from its maker (R196). -/
def EmergencyStore.new : EmergencyStore := { slots := Table.replicate .blank 2, programming := none }

/-- The part right after its first cold start (R195): every block at its initial contents, TABLES_LOST (number 12) and
CLOCK_UNSET (number 11) raised on the Service port, the POWER_RETURN record staged. -/
def State.reset : State :=
  { ports := ⟨PortRec.reset, PortRec.reset, PortRec.reset⟩
    attn := ⟨Attn.reset defaultLevelsFront, Attn.reset defaultLevelsCharge,
      { Attn.reset defaultLevelsService with pending := ((Vector.replicate 14 false).set 11 true).set 12 true }⟩
    rooms := Table.replicate Room.reset 9
    keys := KeyRegister.reset
    verdict := VerdictEngine.reset
    nodes := Table.replicate (Table.replicate Node.reset 6) 4
    lines := Table.replicate Line.reset 4
    charge := ChargeUnit.reset
    journal := Journal.reset
    lamps := Indicator.reset
    supply := Supply.reset
    emergency := EmergencyStore.new
    pending := [] }

end Sys2Proof.Machine
end

