-- ==== Sys2Proof/Machine/Tables.lean ====
section
/-! DEFINITION. The views of State that the blocks use: one accessor pair for each kind of record. -/

namespace Sys2Proof.Machine

/-- The value of a port. -/
def PerPort.get {α : Type} (v : PerPort α) : Port → α
  | .front => v.front
  | .charge => v.charge
  | .service => v.service

/-- The values with one port's changed by a function. -/
def PerPort.mod {α : Type} (v : PerPort α) (p : Port) (f : α → α) : PerPort α :=
  match p with
  | .front => { v with front := f v.front }
  | .charge => { v with charge := f v.charge }
  | .service => { v with service := f v.service }

/-- The values with every port's changed by one function. -/
def PerPort.map {α : Type} (v : PerPort α) (f : α → α) : PerPort α := ⟨f v.front, f v.charge, f v.service⟩

/-- The record of a port. -/
def State.port (s : State) (p : Port) : PortRec := s.ports.get p

/-- Change the record of a port. -/
def State.modPort (s : State) (p : Port) (f : PortRec → PortRec) : State := { s with ports := s.ports.mod p f }

/-- The attention state of a port. -/
def State.att (s : State) (p : Port) : Attn := s.attn.get p

/-- Change the attention state of a port. -/
def State.modAttn (s : State) (p : Port) (f : Attn → Attn) : State := { s with attn := s.attn.mod p f }

/-- The record of a room. -/
def State.room (s : State) (r : RoomIx) : Room := tget s.rooms r

/-- Change the record of a room. -/
def State.modRoom (s : State) (r : RoomIx) (f : Room → Room) : State := { s with rooms := tmod s.rooms r f }

/-- The key entry at an index; none is a FREE entry. -/
def State.entry (s : State) (k : KeyIx) : Option KeyEntry := tget s.keys.entries k

/-- Replace the key entry at an index. -/
def State.setEntry (s : State) (k : KeyIx) (e : KeyEntry) : State :=
  { s with keys := { s.keys with entries := tset s.keys.entries k (some e) } }

/-- The record of a node. -/
def State.node (s : State) (n : NodeAddr) : Node := tget (tget s.nodes n.line) n.addr

/-- Change the record of a node. -/
def State.modNode (s : State) (n : NodeAddr) (f : Node → Node) : State :=
  { s with nodes := tmod s.nodes n.line fun v => tmod v n.addr f }

/-- The Node Table with each record changed by a function of its address. -/
def mapNodes (nodes : Table (Table Node 6) 4) (f : NodeAddr → Node → Node) : Table (Table Node 6) 4 :=
  tmap 16 nodes fun l v => tmap 64 v fun a nd => f ⟨l, a⟩ nd

/-- The state of a line. -/
def State.line (s : State) (l : LineIx) : Line := tget s.lines l

/-- Change the state of a line. -/
def State.modLine (s : State) (l : LineIx) (f : Line → Line) : State := { s with lines := tmod s.lines l f }

/-- A folio record. -/
def State.folio (s : State) (f : FolioIx) : Folio := tget s.charge.folios f

/-- Change a folio record. -/
def State.modFolio (s : State) (k : FolioIx) (f : Folio → Folio) : State :=
  { s with charge := { s.charge with folios := tmod s.charge.folios k f } }

/-- A segment. -/
def State.segment (s : State) (g : SegIx) : Segment := tget s.journal.segments g

/-- Change a segment of a journal. -/
def Journal.modSegment (j : Journal) (g : SegIx) (f : Segment → Segment) : Journal :=
  { j with segments := tmod j.segments g f }

/-- An indicator entry. -/
def State.lamp (s : State) (r : RoomIx) : IndEntry := tget s.lamps.entries r

/-- Change an indicator entry. -/
def State.modLamp (s : State) (r : RoomIx) (f : IndEntry → IndEntry) : State :=
  { s with lamps := { s.lamps with entries := tmod s.lamps.entries r f } }

/-- A profile record. -/
def State.profile (s : State) (k : Fin 16) : Profile := tget s.verdict.profiles k

/-- The room that names a node as its door node (R16, R166), if one does. -/
def State.doorRoom (s : State) (n : NodeAddr) : Option RoomIx :=
  tfind 512 s.rooms fun r => decide (r.doorNode = some n)

/-- The present hotel time, or the clock-unset mark while the clock is UNSET (R190). -/
def State.now (s : State) : Stamp := if s.supply.clockRunning then some s.supply.counter else none

/-- The present hotel time, or 0 while the clock is UNSET (R22, R80, R122). -/
def State.nowOrZero (s : State) : HotelTime := s.now.getD 0

/-- The part is in RUN. -/
def State.inRun (s : State) : Bool := decide (s.supply.power = .run)

end Sys2Proof.Machine
end

