-- ==== Sys2Proof/Machine/Bytes.lean ====
section
/-! DEFINITION. Bytes and codes: field encodings of Table 12-1, enumerated codes of 12.1, sets, and the derived parts of hotel time. -/

namespace Sys2Proof

/-- Code of a port (R188). -/
def Port.code (p : Port) : Nat := p.ctorIdx

/-- Code of a tray kind (Table 12-6). -/
def TrayKind.code (k : TrayKind) : Nat := k.ctorIdx

end Sys2Proof

namespace Sys2Proof.Machine

/-! ### Fields to bytes, most significant byte first (12.1) -/

/-- One byte. -/
def u8 (n : Nat) : List Byte := [BitVec.ofNat 8 n]

/-- Two bytes. -/
def u16 (n : Nat) : List Byte := [BitVec.ofNat 8 (n / 256), BitVec.ofNat 8 n]

/-- Four bytes. -/
def u32 (w : BitVec 32) : List Byte :=
  [w.extractLsb' 24 8, w.extractLsb' 16 8, w.extractLsb' 8 8, w.extractLsb' 0 8]

/-- Eight bytes: a card identity. -/
def u64 (c : CardId) : List Byte := u32 (c.extractLsb' 32 32) ++ u32 (c.extractLsb' 0 32)

/-- A mark or flag as one byte, 0 or 1. -/
def uFlag (b : Bool) : List Byte := u8 b.toNat

/-- An enumerated value as one byte, FFh absent (Table 12-1). -/
def uEnum? (c : Option Nat) : List Byte := u8 (c.getD 0xFF)

/-- A two-byte field, FFFFh absent (Table 12-1). -/
def u16? (n : Option Nat) : List Byte := u16 (n.getD 0xFFFF)

/-- A node address: line, then address (Table 12-1). -/
def uNode (n : NodeAddr) : List Byte := [BitVec.ofNat 8 n.line, BitVec.ofNat 8 n.addr]

/-- A node address, FFFFh absent (Table 12-1). -/
def uNode? : Option NodeAddr → List Byte
  | some n => uNode n
  | none => [0xFF, 0xFF]

/-- A hotel time or sequence whose absence a mask shows; its bytes then read 00h (Table 12-7). -/
def u32? (w : Option (BitVec 32)) : List Byte := u32 (w.getD 0)

/-- Bit k of a mask byte. -/
def bit (k : Nat) (b : Bool) : Nat := if b then 2 ^ k else 0

/-! ### Bytes to fields -/

/-- The byte at a position, 00h past the end. -/
def byteAt (ps : List Byte) (k : Nat) : Byte := ps.getD k 0

/-- The one-byte number at a position. -/
def u8At (ps : List Byte) (k : Nat) : Nat := (byteAt ps k).toNat

/-- The two-byte number at a position. -/
def u16At (ps : List Byte) (k : Nat) : Nat := u8At ps k * 256 + u8At ps (k + 1)

/-- The four-byte word at a position. -/
def u32At (ps : List Byte) (k : Nat) : BitVec 32 :=
  byteAt ps k ++ byteAt ps (k + 1) ++ byteAt ps (k + 2) ++ byteAt ps (k + 3)

/-- The card identity at a position. -/
def cardAt (ps : List Byte) (k : Nat) : CardId := u32At ps k ++ u32At ps (k + 4)

/-! ### Enumerated codes (12.1: from 0 upward, in the order of the defining table) -/

/-- Code of a result (Table 9-2). -/
def ResultCode.code (c : ResultCode) : Nat := c.ctorIdx

/-- Code of a verdict reason (Table 4-4). -/
def Reason.code (r : Reason) : Nat := r.ctorIdx

/-- Code of a retirement reason (Table 2-1). -/
def RetireReason.code (r : RetireReason) : Nat := r.ctorIdx

/-- Code of a record class (Table 12-7). -/
def RecordClass.code (c : RecordClass) : Nat := c.ctorIdx

/-- Code of a record kind (Table 7-2). -/
def RecordKind.code (k : RecordKind) : Nat := k.ctorIdx

/-- Code of a record's reason field (Table 12-7). -/
def RecordReason.code : RecordReason → Nat
  | .verdict r => r.code
  | .retirement r => r.code

/-- Code of a room state (Table 1-1). -/
def RoomPhase.code : RoomPhase → Nat
  | .vacant => 0
  | .occupied => 1
  | .closing => 2
  | .blocked _ _ => 3

/-- Code of a prior state, as the room state it names. -/
def PriorState.code : PriorState → Nat
  | .vacant => 0
  | .occupied => 1

/-- Code of closing (Table 12-10). -/
def Closing.code (c : Closing) : Nat := c.ctorIdx

/-- Code of a door condition (Table 1-1). -/
def DoorCond.code (c : DoorCond) : Nat := c.ctorIdx

/-- Code of a node kind (Table 5-1). -/
def NodeConfig.code : NodeConfig → Nat
  | .none => 0
  | .roomDoor _ => 1
  | .connectDoor _ => 2
  | .commonDoor _ _ => 3
  | .staffDoor => 4
  | .minibar _ _ => 5

/-- Code of a link state (Table 5-1). -/
def Link.code (l : Link) : Nat := l.ctorIdx

/-- The mode as a MODE frame names it. -/
def Mode.name : Mode → ModeName
  | .normal => .normal
  | .passage => .passage
  | .released _ => .released
  | .secured => .secured

/-- Code of a mode (Table 4-1, Table 12-6). -/
def ModeName.code (m : ModeName) : Nat := m.ctorIdx

/-- A kept mode as a mode. -/
def KeptMode.mode : KeptMode → Mode
  | .normal => .normal
  | .passage => .passage
  | .secured => .secured

/-- The kept mode of a node, present only in RELEASED (Table 4-1). -/
def Mode.kept : Mode → Option KeptMode
  | .released k => some k
  | _ => none

/-- Code of a line state (Table 5-2). -/
def LineState.code (l : LineState) : Nat := l.ctorIdx

/-- Code of a folio state (Table 6-1). -/
def FolioState.code : FolioState → Nat
  | .free => 0
  | .opened => 1
  | .held _ => 2
  | .closing => 3

/-- Hold cause of a folio, present only in HELD (Table 6-1). -/
def FolioState.cause : FolioState → Option HoldCause
  | .held c => some c
  | _ => none

/-- Code of a hold cause (Table 6-1). -/
def HoldCause.code (c : HoldCause) : Nat := c.ctorIdx

/-- Code of a session state (R122). -/
def SessionState.code (c : SessionState) : Nat := c.ctorIdx

/-- Code of a watch action (Table 3-3). -/
def WatchAction.code (a : WatchAction) : Nat := a.ctorIdx

/-- Code of a watch origin (Table 3-3). -/
def WatchOrigin.code (o : WatchOrigin) : Nat := o.ctorIdx

/-- Code of a segment state (Table 7-4). -/
def SegState.code : SegState → Nat
  | .blank => 0
  | .filling _ => 1
  | .full => 2
  | .dirty => 3

/-- Code of a hold state (Table 7-4). -/
def HoldState.code (h : HoldState) : Nat := h.ctorIdx

/-- Code of a blink mode (Table 8-2). -/
def BlinkMode.code (m : BlinkMode) : Nat := m.ctorIdx

/-- Code of a sweep kind (8.4). -/
def SweepKind.code (k : SweepKind) : Nat := k.ctorIdx

/-- Code of an emergency slot state (Table 11-2). -/
def EmergencySlot.code : EmergencySlot → Nat
  | .blank => 0
  | .written _ _ => 1
  | .frozen _ _ => 2

/-- The standing of an entry as its state code (Table 2-1; FREE is 0). -/
def Standing.code : Standing → Nat
  | .live => 1
  | .suspended => 2
  | .retired .revoked _ _ => 3
  | .retired .expired _ _ => 4

/-! ### Sets and times -/

/-- Membership in a 16-member set (Table 12-1). -/
def inSet (x : Set16) (k : Fin 16) : Bool := x.getLsbD k

/-- Minute-of-day (0.4.2). -/
def minuteOfDay (t : HotelTime) : Nat := t.toNat % 86400 / 60

/-- Day number, 0 for Monday (0.4.2). -/
def dayNumber (t : HotelTime) : Nat := t.toNat / 86400 % 7

/-- The window test of R51. -/
def inWindow (start stop minute : Nat) : Bool :=
  if start < stop then decide (start ≤ minute ∧ minute < stop)
  else if stop < start then decide (start ≤ minute ∨ minute < stop)
  else true

/-- A sequence is below another in the order of assignment (R136). -/
def seqBelow (a b : Seq) : Bool := decide (1 ≤ (b - a).toNat ∧ (b - a).toNat ≤ 2147483647)

/-- At or below, in the order of R136. -/
def seqAtOrBelow (a b : Seq) : Bool := decide (a = b) || seqBelow a b

end Sys2Proof.Machine
end

