-- ==== Sys2Proof/Machine/Operands.lean ====
section
/-! DEFINITION. The parameters of the commands (Table 12-5), read from the bytes that follow the command code. A parser answers
none where a field lies outside the range Table 12-1 and the command's rule give it: check 4 of R177. -/

namespace Sys2Proof.Machine

/-! ### Fields -/

/-- A room index that must be present. -/
def roomAt (ps : List Byte) (k : Nat) : Option RoomIx := toFin? 512 (u16At ps k)

/-- A folio number of the 1-byte form. -/
def folioAt (ps : List Byte) (k : Nat) : FolioIx := (byteAt ps k).toFin

/-- A folio number of the 2-byte form, FFFFh absent. -/
def folioOptAt (ps : List Byte) (k : Nat) : Option (Option FolioIx) :=
  if u16At ps k = 0xFFFF then some none else (toFin? 256 (u16At ps k)).map some

/-- A node address that must be present. -/
def nodeAt (ps : List Byte) (k : Nat) : Option NodeAddr := do
  let line ← toFin? 16 (u8At ps k)
  let addr ← toFin? 64 (u8At ps (k + 1))
  return ⟨line, addr⟩

/-- A node address, FFFFh absent. -/
def nodeOptAt (ps : List Byte) (k : Nat) : Option (Option NodeAddr) :=
  if u16At ps k = 0xFFFF then some none else (nodeAt ps k).map some

/-- A two-byte field. -/
def word16At (ps : List Byte) (k : Nat) : BitVec 16 := byteAt ps k ++ byteAt ps (k + 1)

/-- A two-valued field: 0 false, 1 true. -/
def flagAt (ps : List Byte) (k : Nat) : Option Bool :=
  if byteAt ps k = 0 then some false else if byteAt ps k = 1 then some true else none

/-- A count with its bounds. -/
def countAt (low high : Nat) (ps : List Byte) (k : Nat) : Option Nat :=
  if low ≤ u8At ps k ∧ u8At ps k ≤ high then some (u8At ps k) else none

/-- A minute-of-day, 0 to 1,439. -/
def minuteAt (ps : List Byte) (k : Nat) : Option Nat := if u16At ps k < 1440 then some (u16At ps k) else none

/-! ### Whole parameter lists -/

/-- No parameters. -/
def parseNothing (_ : List Byte) : Option Unit := some ()

/-- One room. -/
def parseRoom (ps : List Byte) : Option RoomIx := roomAt ps 0

/-- One node. -/
def parseNode (ps : List Byte) : Option NodeAddr := nodeAt ps 0

/-- One line. -/
def parseLine (ps : List Byte) : Option LineIx := toFin? 16 (u8At ps 0)

/-- One folio. -/
def parseFolio (ps : List Byte) : Option FolioIx := some (folioAt ps 0)

/-- One card. -/
def parseCard (ps : List Byte) : Option CardId := some (cardAt ps 0)

/-- One profile number. -/
def parseProfileNumber (ps : List Byte) : Option (Fin 16) := toFin? 16 (u8At ps 0)

/-- One price class. -/
def parseClass (ps : List Byte) : Option (Fin 4) := toFin? 4 (u8At ps 0)

/-- One segment. -/
def parseSegment (ps : List Byte) : Option SegIx := toFin? 16 (u8At ps 0)

/-- One emergency slot. -/
def parseSlot (ps : List Byte) : Option (Fin 4) := toFin? 4 (u8At ps 0)

/-- A set of zones or segments that must not be empty (R89, R90, R149). -/
def parseSet (ps : List Byte) : Option Set16 := if word16At ps 0 = 0 then none else some (word16At ps 0)

/-- A sequence number or a hotel time. -/
def parseWord (ps : List Byte) : Option (BitVec 32) := some (u32At ps 0)

/-- CHECK IN: room, folio, stay note. -/
def parseCheckIn (ps : List Byte) : Option (RoomIx × Option FolioIx × BitVec 16) := do
  let r ← roomAt ps 0
  let f ← folioOptAt ps 2
  return (r, f, word16At ps 4)

/-- MOVE STAY: source, target. -/
def parseMoveStay (ps : List Byte) : Option (RoomIx × RoomIx) := do
  let source ← roomAt ps 0
  let target ← roomAt ps 2
  return (source, target)

/-- BLOCK ROOM: room, reason. -/
def parseBlockRoom (ps : List Byte) : Option (RoomIx × Byte) := (roomAt ps 0).map fun r => (r, byteAt ps 2)

/-- WRITE ROOM: room, label, door node, minibar node. -/
def parseWriteRoom (ps : List Byte) : Option (RoomIx × BitVec 16 × Option NodeAddr × Option NodeAddr) := do
  let r ← roomAt ps 0
  let door ← nodeOptAt ps 4
  let minibar ← nodeOptAt ps 6
  return (r, word16At ps 2, door, minibar)

/-- PAIR ROOMS: room, room, node. -/
def parsePairRooms (ps : List Byte) : Option (RoomIx × RoomIx × NodeAddr) := do
  let a ← roomAt ps 0
  let b ← roomAt ps 2
  let n ← nodeAt ps 4
  return (a, b, n)

/-- SET MAKEUP: room, clear 0 or set 1. -/
def parseSetMakeup (ps : List Byte) : Option (RoomIx × Bool) := do
  let r ← roomAt ps 0
  let v ← flagAt ps 2
  return (r, v)

/-- The parameters of ISSUE GUEST KEY. -/
structure GuestIssue where
  card : CardId
  new : Bool
  profile : Fin 16
  validFrom : HotelTime
  validUntil : HotelTime
  rooms : List RoomIx
deriving DecidableEq, Repr

/-- ISSUE GUEST KEY: card, mode (NEW 0, COPY 1), profile 0 to 3, from, until, room count 1 to 4, the rooms counted. -/
def parseGuestIssue (ps : List Byte) : Option GuestIssue := do
  let copy ← flagAt ps 8
  let profile ← toFin? 4 (u8At ps 9)
  let count ← countAt 1 4 ps 18
  let rooms ← (List.range count).mapM fun k => roomAt ps (19 + 2 * k)
  return { card := cardAt ps 0, new := !copy, profile := profile.castLE (by decide), validFrom := u32At ps 10,
           validUntil := u32At ps 14, rooms := rooms }

/-- The parameters of ISSUE STAFF KEY. -/
structure StaffIssue where
  card : CardId
  zones : Set16
  profile : Fin 16
  validFrom : HotelTime
  validUntil : HotelTime
deriving DecidableEq, Repr

/-- ISSUE STAFF KEY: card, zone set, profile 4 to 15, from, until. -/
def parseStaffIssue (ps : List Byte) : Option StaffIssue := do
  let profile ← toFin? 16 (u8At ps 10)
  if 4 ≤ profile.val then
    return { card := cardAt ps 0, zones := word16At ps 8, profile := profile, validFrom := u32At ps 11,
             validUntil := u32At ps 15 }
  else none

/-- EXTEND KEY: card, until. -/
def parseExtendKey (ps : List Byte) : Option (CardId × HotelTime) := some (cardAt ps 0, u32At ps 8)

/-- READ KEY: selector (identity 0, index 1), card or index in the last 2 bytes. -/
def parseReadKey (ps : List Byte) : Option (CardId ⊕ KeyIx) := do
  let byIndex ← flagAt ps 0
  if byIndex then (toFin? 2048 (u16At ps 7)).map Sum.inr else some (.inl (cardAt ps 1))

/-- A profile from its bytes (Table 12-5, Table 3-1 order). -/
def parseProfile (ps : List Byte) : Option (Fin 16 × Profile) := do
  let number ← toFin? 16 (u8At ps 0)
  let start ← minuteAt ps 4
  let stop ← minuteAt ps 6
  let kinds := byteAt ps 1
  let days := byteAt ps 3
  let flags := byteAt ps 8
  if kinds.toNat < 32 ∧ days.toNat < 128 ∧ flags.toNat < 128 then
    return (number,
      { kinds := kinds, classes := byteAt ps 2, days := days, windowFrom := start, windowUntil := stop,
        enterOccupied := flags.getLsbD 0, enterVacant := flags.getLsbD 1, makeupOnly := flags.getLsbD 2,
        overridePrivacy := flags.getLsbD 3, overrideBlock := flags.getLsbD 4, restock := flags.getLsbD 5,
        clockless := flags.getLsbD 6 })
  else none

/-- WATCH ADD: card, action. -/
def parseWatchAdd (ps : List Byte) : Option (CardId × WatchAction) :=
  (flagAt ps 8).map fun deny => (cardAt ps 0, if deny then .alertAndDeny else .alert)

/-- SET NODE MODE: node, mode NORMAL 0, PASSAGE 1 or SECURED 3 (R87). -/
def parseSetNodeMode (ps : List Byte) : Option (NodeAddr × KeptMode) := do
  let n ← nodeAt ps 0
  match u8At ps 2 with
  | 0 => return (n, .normal)
  | 1 => return (n, .passage)
  | 3 => return (n, .secured)
  | _ => none

/-- The parameters of WRITE NODE. -/
structure NodeWrite where
  node : NodeAddr
  config : NodeConfig
  zone : Fin 16
  heldOpenLimit : Nat
deriving DecidableEq, Repr

/-- A passage window of two minutes. -/
def windowAt (ps : List Byte) (k : Nat) : Option Window := do
  let start ← minuteAt ps k
  let stop ← minuteAt ps (k + 2)
  return ⟨start, stop⟩

/-- The configuration that a kind, a room field, a class field and passage windows make; none where a field is missing, or
given for another kind, or out of range (R94). -/
def configOf (kind room cls : Nat) (windows : List Window) : Option NodeConfig :=
  let plain := windows.isEmpty
  let noRoom := decide (room = 0xFFFF)
  let noClass := decide (cls = 0xFF)
  match kind with
  | 0 => if plain && noRoom && noClass then some .none else none
  | 1 => if plain && noClass then (toFin? 512 room).map .roomDoor else none
  | 2 => if plain && noClass then (toFin? 512 room).map .connectDoor else none
  | 3 => if noRoom then (toFin? 8 cls).map fun c => .commonDoor c windows else none
  | 4 => if plain && noRoom && noClass then some .staffDoor else none
  | 5 => if plain then (toFin? 512 room).bind fun r => (toFin? 4 cls).map fun c => .minibar r c else none
  | _ => none

/-- WRITE NODE: node, kind, room, zone, class, held-open limit 10 to 250, window count 0 to 2, the windows counted. -/
def parseWriteNode (ps : List Byte) : Option NodeWrite := do
  let n ← nodeAt ps 0
  let zone ← toFin? 16 (u8At ps 5)
  let limit ← countAt 10 250 ps 7
  let count ← countAt 0 2 ps 8
  let windows ← (List.range count).mapM fun k => windowAt ps (9 + 4 * k)
  let config ← configOf (u8At ps 2) (u16At ps 3) (u8At ps 6) windows
  return { node := n, config := config, zone := zone, heldOpenLimit := limit }

/-- SET ALLOWANCE: folio, allowance. -/
def parseSetAllowance (ps : List Byte) : Option (FolioIx × Nat) := some (folioAt ps 0, u16At ps 1)

/-- WRITE PRICES: class, first slot, count 1 to 32, prices. -/
def parseWritePrices (ps : List Byte) : Option (Fin 4 × Fin 32 × List Nat) := do
  let cls ← toFin? 4 (u8At ps 0)
  let first ← toFin? 32 (u8At ps 1)
  let count ← countAt 1 32 ps 2
  return (cls, first, (List.range count).map fun k => u16At ps (3 + 2 * k))

/-- READ SEGMENT WRAPPED: segment, start slot 0 to 511, count 1 to 16. -/
def parseReadWrapped (ps : List Byte) : Option (SegIx × Fin 512 × Nat) := do
  let g ← toFin? 16 (u8At ps 0)
  let start ← toFin? 512 (u16At ps 1)
  let count ← countAt 1 16 ps 3
  return (g, start, count)

/-- The three sets of WRITE LAMPS, in the order of R164. -/
inductive LampChoice where
  | primary | alternate | blinkSelect
deriving DecidableEq, Repr

/-- A lamp value: unlit 0, lit 1, unchanged 2. -/
def lampAt (ps : List Byte) (k : Nat) : Option (Option Bool) :=
  match u8At ps k with
  | 0 => some (some false)
  | 1 => some (some true)
  | 2 => some none
  | _ => none

/-- The parameters of WRITE LAMPS. A lamp that is none is left unchanged. -/
structure LampWrite where
  room : RoomIx
  choice : LampChoice
  privacy : Option Bool
  makeup : Option Bool
  call : Option Bool
  alarm : Option Bool
deriving DecidableEq, Repr

/-- WRITE LAMPS: room, selector, four lamp values. -/
def parseWriteLamps (ps : List Byte) : Option LampWrite := do
  let r ← roomAt ps 0
  let choice ← (match u8At ps 2 with
    | 0 => some LampChoice.primary
    | 1 => some LampChoice.alternate
    | 2 => some LampChoice.blinkSelect
    | _ => none)
  let privacy ← lampAt ps 3
  let makeup ← lampAt ps 4
  let call ← lampAt ps 5
  let alarm ← lampAt ps 6
  return { room := r, choice := choice, privacy := privacy, makeup := makeup, call := call, alarm := alarm }

/-- SET BLINK MODE: a mode of Table 8-2. -/
def parseBlinkMode (ps : List Byte) : Option BlinkMode :=
  match u8At ps 0 with
  | 0 => some .steady
  | 1 => some .blinkSelected
  | 2 => some .blinkAll
  | 3 => some .alternate
  | _ => none

/-- SET BLINK PERIOD: a multiplier of 1 to 8. -/
def parseBlinkPeriod (ps : List Byte) : Option Nat := countAt 1 8 ps 0

/-- SET DARK: clear 0 or set 1, as SET MAKEUP has them; Table 12-5 says only a value here, and the model's choice is log entry 9. -/
def parseDark (ps : List Byte) : Option Bool := flagAt ps 0

/-- A port from its code (R188). -/
def portAt (ps : List Byte) (k : Nat) : Option Port :=
  match u8At ps k with
  | 0 => some .front
  | 1 => some .charge
  | 2 => some .service
  | _ => none

/-- PEER NOTICE: target port, value. -/
def parsePeerNotice (ps : List Byte) : Option (Port × Byte) := (portAt ps 0).map fun p => (p, byteAt ps 1)

/-- A level: 0 to 7, or FFh unchanged. -/
def levelAt (ps : List Byte) (k : Nat) : Option (Option (Fin 8)) :=
  if byteAt ps k = 0xFF then some none else (toFin? 8 (u8At ps k)).map some

/-- WRITE EMERGENCY KEY: slot, card, zone set, which is not empty (R196). -/
def parseWriteEmergency (ps : List Byte) : Option (Fin 4 × CardId × Set16) :=
  if word16At ps 9 = 0 then none else (toFin? 4 (u8At ps 0)).map fun k => (k, cardAt ps 1, word16At ps 9)

end Sys2Proof.Machine
end

