-- ==== Sys2Proof/Machine/CommandIndex.lean ====
section
/-! DEFINITION. The command index (Table 12-5): the code, the parameter length and the ports of each command (Table 9-3). -/

namespace Sys2Proof

/-- Every command of the index, in its order. -/
def Command.all : List Command :=
  [.checkIn, .checkOut, .moveStay, .blockRoom, .unblockRoom, .writeRoom, .pairRooms, .unpairRooms,
   .setMakeup, .readRoom, .issueGuestKey, .issueStaffKey, .revokeKey, .reportLost, .suspendKey, .resumeKey,
   .extendKey, .revokeRoomKeys, .readKey, .keyCounts, .writeProfile, .readProfile, .watchAdd, .watchRemove,
   .readWatch, .clearAlarm, .setNodeMode, .releaseZones, .restoreZones, .unlatchNode, .writeNode, .readNode,
   .stopLine, .startLine, .restartLine, .readLine, .openFolio, .closeFolio, .readFolio, .setAllowance,
   .holdFolio, .releaseFolio, .writePrices, .readPrices, .peekCharges, .takeCharges, .readSessions, .flushJournal,
   .releaseGuards, .setGuards, .holdSegment, .clearHold, .setCursor, .readRecords, .readSegmentWrapped, .markCollected,
   .journalStatus, .writeLamps, .setBlinkMode, .setBlinkPeriod, .setDark, .clearAlternate, .clearBlinkSet, .readLamps,
   .vector, .setCauseLevels, .peerNotice, .setClock, .readClock, .writeEmergencyKey, .freezeEmergencyKey, .readEmergencyKey,
   .partStatus]

/-- Command codes (Table 12-5). -/
def Command.code : Command → Byte
  | .checkIn => 0x01
  | .checkOut => 0x02
  | .moveStay => 0x03
  | .blockRoom => 0x04
  | .unblockRoom => 0x05
  | .writeRoom => 0x06
  | .pairRooms => 0x07
  | .unpairRooms => 0x08
  | .setMakeup => 0x09
  | .readRoom => 0x0A
  | .issueGuestKey => 0x10
  | .issueStaffKey => 0x11
  | .revokeKey => 0x12
  | .reportLost => 0x13
  | .suspendKey => 0x14
  | .resumeKey => 0x15
  | .extendKey => 0x16
  | .revokeRoomKeys => 0x17
  | .readKey => 0x18
  | .keyCounts => 0x19
  | .writeProfile => 0x20
  | .readProfile => 0x21
  | .watchAdd => 0x22
  | .watchRemove => 0x23
  | .readWatch => 0x24
  | .clearAlarm => 0x28
  | .setNodeMode => 0x29
  | .releaseZones => 0x2A
  | .restoreZones => 0x2B
  | .unlatchNode => 0x2C
  | .writeNode => 0x30
  | .readNode => 0x31
  | .stopLine => 0x32
  | .startLine => 0x33
  | .restartLine => 0x34
  | .readLine => 0x35
  | .openFolio => 0x40
  | .closeFolio => 0x41
  | .readFolio => 0x42
  | .setAllowance => 0x43
  | .holdFolio => 0x44
  | .releaseFolio => 0x45
  | .writePrices => 0x46
  | .readPrices => 0x47
  | .peekCharges => 0x48
  | .takeCharges => 0x49
  | .readSessions => 0x4A
  | .flushJournal => 0x50
  | .releaseGuards => 0x51
  | .setGuards => 0x52
  | .holdSegment => 0x53
  | .clearHold => 0x54
  | .setCursor => 0x55
  | .readRecords => 0x56
  | .readSegmentWrapped => 0x57
  | .markCollected => 0x58
  | .journalStatus => 0x59
  | .writeLamps => 0x60
  | .setBlinkMode => 0x61
  | .setBlinkPeriod => 0x62
  | .setDark => 0x63
  | .clearAlternate => 0x64
  | .clearBlinkSet => 0x65
  | .readLamps => 0x66
  | .vector => 0x70
  | .setCauseLevels => 0x71
  | .peerNotice => 0x72
  | .setClock => 0x78
  | .readClock => 0x79
  | .writeEmergencyKey => 0x7A
  | .freezeEmergencyKey => 0x7B
  | .readEmergencyKey => 0x7C
  | .partStatus => 0x7D

/-- Parameter length in bytes (Table 12-5). WRITE PRICES has 3 bytes and two for each price of the count byte received. -/
def Command.needed (c : Command) (params : List Byte) : Nat :=
  match c with
  | .keyCounts | .readWatch | .readSessions | .flushJournal | .journalStatus | .clearAlternate | .clearBlinkSet
  | .vector | .readClock | .partStatus => 0
  | .readProfile | .stopLine | .startLine | .restartLine | .readLine | .openFolio | .closeFolio
  | .readFolio | .holdFolio | .releaseFolio | .readPrices | .peekCharges | .takeCharges | .holdSegment
  | .clearHold | .readRecords | .setBlinkMode | .setBlinkPeriod | .setDark | .freezeEmergencyKey | .readEmergencyKey => 1
  | .checkOut | .unblockRoom | .unpairRooms | .readRoom | .revokeRoomKeys | .clearAlarm | .releaseZones
  | .restoreZones | .unlatchNode | .readNode | .releaseGuards | .setGuards | .readLamps | .peerNotice => 2
  | .blockRoom | .setMakeup | .setNodeMode | .setAllowance => 3
  | .moveStay | .setCursor | .readSegmentWrapped | .markCollected | .setClock => 4
  | .checkIn | .pairRooms => 6
  | .writeLamps => 7
  | .writeRoom | .revokeKey | .reportLost | .suspendKey | .resumeKey | .watchRemove => 8
  | .readKey | .writeProfile | .watchAdd => 9
  | .writeEmergencyKey => 11
  | .extendKey => 12
  | .setCauseLevels => 14
  | .writeNode => 17
  | .issueStaffKey => 19
  | .issueGuestKey => 27
  | .writePrices => 3 + 2 * Machine.u8At params 2

/-- The ports on which a command is permitted (Table 9-3). -/
def Command.permitted (c : Command) (p : Port) : Bool :=
  match c with
  | .checkIn | .checkOut | .moveStay | .issueGuestKey | .extendKey | .revokeRoomKeys | .openFolio
  | .closeFolio => decide (p = .front)
  | .blockRoom | .unblockRoom | .writeRoom | .pairRooms | .unpairRooms | .setMakeup | .issueStaffKey
  | .suspendKey | .resumeKey | .writeProfile | .readProfile | .watchAdd | .watchRemove | .readWatch
  | .clearAlarm | .setNodeMode | .releaseZones | .restoreZones | .unlatchNode | .writeNode | .stopLine
  | .startLine | .restartLine | .readLine | .flushJournal | .releaseGuards | .setGuards | .holdSegment
  | .clearHold | .setCursor | .readRecords | .markCollected | .journalStatus | .writeLamps | .setBlinkMode
  | .setBlinkPeriod | .setDark | .clearAlternate | .clearBlinkSet | .setClock | .writeEmergencyKey | .freezeEmergencyKey
  | .readEmergencyKey => decide (p = .service)
  | .readRoom | .readKey | .keyCounts | .readNode | .readPrices | .readSessions | .readSegmentWrapped
  | .readLamps | .vector | .setCauseLevels | .peerNotice | .readClock | .partStatus => true
  | .revokeKey | .reportLost => decide (p = .front ∨ p = .service)
  | .readFolio => decide (p = .front ∨ p = .charge)
  | .setAllowance | .holdFolio | .releaseFolio | .writePrices | .peekCharges | .takeCharges => decide (p = .charge)

/-- The command of a code, none for a code that is not in the command index. -/
def Command.ofCode (code : Byte) : Option Command := Command.all.find? fun c => decide (c.code = code)

end Sys2Proof
end

