-- ==== Sys2Proof/Machine/Flags.lean ====
section
/-! DEFINITION. Derived flags and counts: what the manual defines as a function of the stored state. -/

namespace Sys2Proof.Machine

/-! ### Attention (Table 10-1, R185) -/

/-- The number of a cause on a port, none where the port does not have it (Table 10-1). -/
def Cause.number (p : Port) (c : Cause) : Option (Fin 14) :=
  match p, c with
  | _, .commandDone => some 0
  | .front, .scanDone => some 1
  | .front, .roomVacated => some 2
  | .front, .keyTableLow => some 3
  | .front, .folioDrained => some 4
  | .front, .peerNotice => some 5
  | .charge, .chargeWaiting => some 1
  | .charge, .folioHeld => some 2
  | .charge, .unbilled => some 3
  | .charge, .folioDrained => some 4
  | .charge, .peerNotice => some 5
  | .service, .doorAlarm => some 1
  | .service, .watchHit => some 2
  | .service, .nodeOffline => some 3
  | .service, .lineFault => some 4
  | .service, .journalJam => some 5
  | .service, .journalOverrun => some 6
  | .service, .stagingDrop => some 7
  | .service, .sweepDone => some 8
  | .service, .blinkPhase => some 9
  | .service, .powerReturn => some 10
  | .service, .clockUnset => some 11
  | .service, .tablesLost => some 12
  | .service, .peerNotice => some 13
  | _, _ => none

/-- How many causes a port has; its causes are numbered from 0 (Table 10-1). -/
def causeCount : Port → Nat
  | .front => 6
  | .charge => 6
  | .service => 14

/-- The default levels of a port's causes (Table 10-1). -/
def defaultLevels : Port → Vector (Fin 8) 14
  | .front => defaultLevelsFront
  | .charge => defaultLevelsCharge
  | .service => defaultLevelsService

/-- A cause is pending at a non-zero level. -/
def Attn.asserts (a : Attn) (k : Fin 14) : Bool := a.pending[k.val] && decide (a.levels[k.val] ≠ 0)

/-- The attention output of a port's state (R185). -/
def Attn.output (a : Attn) : Bool := (List.finRange 14).any a.asserts

/-- The number of causes pending at a non-zero level (R186). -/
def Attn.remaining (a : Attn) : Nat := (List.finRange 14).countP a.asserts

/-- A cause is pending on a port. -/
def State.isPending (s : State) (p : Port) (c : Cause) : Bool :=
  match c.number p with
  | some k => (s.att p).pending[k.val]
  | none => false

/-- The attention output of a port as a pin: released while the part is not in RUN (R185). -/
def State.attention (s : State) (p : Port) : Bool := s.inRun && (s.att p).output

/-! ### Journal (R137, R140, R141, R147) -/

/-- The FILLING segment, if one is. -/
def Journal.fillingAt (j : Journal) : Option SegIx :=
  tfind 16 j.segments fun g => match g.state with | .filling _ => true | _ => false

/-- The journal is JAMMED: no segment is FILLING (R140). -/
def Journal.jammed (j : Journal) : Bool := j.fillingAt.isNone

/-- The number of staged records in flight: those of the block program in progress (R142). -/
def Journal.inFlight (j : Journal) : Nat :=
  match j.program with
  | some (.block _ _ n) => n
  | _ => 0

/-- The waiting count: the staged count less the records in flight (R137). -/
def Journal.waiting (j : Journal) : Nat := j.staged.length - j.inFlight

/-- A block program is in progress. -/
def Journal.blockRunning (j : Journal) : Bool :=
  match j.program with
  | some (.block _ _ _) => true
  | _ => false

/-- A commit is requested (R141). -/
def Journal.commitRequested (j : Journal) : Bool :=
  !j.jammed && !j.blockRunning &&
    (decide (8 ≤ j.waiting) || j.commitDue || (j.flush.isSome && decide (1 ≤ j.waiting)))

/-- The array status (R147). That its states are coded IDLE 0, PROGRAM 1, ERASE 2, SUSPENDED 3, PROGRAM_IN_SUSPEND 4, in the order of
R147's words, is the model's choice, log entry 8: no table lists them. -/
def Journal.arrayStatus (j : Journal) : Nat :=
  match j.program, j.erase with
  | none, none => 0
  | some _, none => 1
  | none, some e => if e.suspended then 3 else 2
  | some _, some _ => 4

/-- A segment is eligible for erasure (R144). -/
def Segment.eligible (g : Segment) : Bool :=
  decide (g.state = .full) && !g.guard && decide (g.hold ≠ .held) && !g.holdPending

/-- A segment is DIRTY with hold state other than HELD (R144). -/
def Segment.erasable (g : Segment) : Bool := decide (g.state = .dirty) && decide (g.hold ≠ .held)

/-! ### Rooms and keys -/

/-- The standing of a room (R53): true when it is occupied for housekeeping purposes. -/
def Room.standsOccupied (rm : Room) : Bool :=
  match rm.phase with
  | .occupied => true
  | .closing => true
  | .blocked prior _ => rm.closing.isSome || decide (prior = .occupied)
  | .vacant => false

/-- The room is OCCUPIED, or BLOCKED with prior state OCCUPIED. -/
def Room.stayInProgress (rm : Room) : Bool :=
  match rm.phase with
  | .occupied => true
  | .blocked .occupied _ => true
  | _ => false

/-- The room is BLOCKED. -/
def Room.isBlocked (rm : Room) : Bool :=
  match rm.phase with
  | .blocked _ _ => true
  | _ => false

/-- The mark of a binding (R35, Table 12-9). -/
inductive BindingMark where
  | current | stale | heldForMove
deriving DecidableEq, Repr

/-- A binding is current (R2, R20). -/
def State.isCurrent (s : State) (b : Binding) : Bool := decide (b.generation = (s.room b.room).generation)

/-- A REBIND job in the Scan Queue records this binding (R20). -/
def State.inRebindJob (s : State) (b : Binding) : Bool :=
  s.keys.scanQueue.any fun j =>
    match j with
    | .rebind source _ g _ => decide (source = b.room ∧ g = b.generation)
    | _ => false

/-- The mark of a binding: current, held for a move, or stale (R20, R35). -/
def State.bindingMark (s : State) (b : Binding) : BindingMark :=
  if s.isCurrent b then .current else if s.inRebindJob b then .heldForMove else .stale

/-- The bindings of an entry: a staff key has none. -/
def KeyEntry.bindings (e : KeyEntry) : List Binding :=
  match e.body with
  | .guest bs => bs
  | .staff _ => []

/-- The entry is of kind GUEST. -/
def KeyEntry.isGuest (e : KeyEntry) : Bool :=
  match e.body with
  | .guest _ => true
  | .staff _ => false

/-- The principal room of a guest key that holds a binding (Table 2-1). -/
def KeyEntry.principal (e : KeyEntry) : Option RoomIx := e.bindings.head?.map Binding.room

/-- The entry is LIVE or SUSPENDED. -/
def Standing.inService : Standing → Bool
  | .live => true
  | .suspended => true
  | .retired _ _ _ => false

/-- The valid until of a key has passed (R20). -/
def State.untilPassed (s : State) (e : KeyEntry) : Bool :=
  s.supply.clockRunning && decide (e.validUntil ≤ s.supply.counter)

/-- The number of FREE entries. -/
def KeyRegister.freeCount (k : KeyRegister) : Nat := k.entries.count Option.isNone

/-- The sum of FREE and retired entries (R28). -/
def KeyRegister.sum (k : KeyRegister) : Nat := k.freeCount + k.retired.length

/-- The key entry that holds a card identity and is not FREE, with its index (R23, R44). -/
def State.findCard (s : State) (card : CardId) : Option (KeyIx × KeyEntry) :=
  (tfind 2048 s.keys.entries fun e => match e with | some e => decide (e.card = card) | none => false).bind
    fun k => (s.entry k).map fun e => (k, e)

/-- The watch entry of a card (R59). -/
def State.watchOf (s : State) (card : CardId) : Option WatchEntry := s.verdict.watch.find? fun w => decide (w.card = card)

/-- The emergency slot that holds a card in WRITTEN or FROZEN state; the lower-numbered of two (R64). -/
def State.emergencySlot (s : State) (card : CardId) : Option (Fin 4 × Set16) :=
  (tfind 4 s.emergency.slots fun x =>
    match x with | .written c _ => decide (c = card) | .frozen c _ => decide (c = card) | .blank => false).bind
    fun k => match tget s.emergency.slots k with
      | .written _ z => some (k, z)
      | .frozen _ z => some (k, z)
      | .blank => none

/-! ### Nodes and lines -/

/-- The room a node's configuration names (Table 5-1). -/
def NodeConfig.room : NodeConfig → Option RoomIx
  | .roomDoor r => some r
  | .connectDoor r => some r
  | .minibar r _ => some r
  | _ => Option.none

/-- The node is configured: its kind is not NONE (5.1). -/
def NodeConfig.configured : NodeConfig → Bool
  | .none => false
  | _ => true

/-- The node is a MINIBAR. -/
def NodeConfig.isMinibar : NodeConfig → Bool
  | .minibar _ _ => true
  | _ => false

/-- The node is a ROOM_DOOR, CONNECT_DOOR, COMMON_DOOR or STAFF_DOOR (R89). -/
def NodeConfig.isDoor : NodeConfig → Bool
  | .roomDoor _ => true
  | .connectDoor _ => true
  | .commonDoor _ _ => true
  | .staffDoor => true
  | _ => false

/-- The bit of a node's kind in a profile's set (Table 3-1 order, Table 12-1). -/
def NodeConfig.kindBit : NodeConfig → Option Nat
  | .none => Option.none
  | .roomDoor _ => some 0
  | .connectDoor _ => some 1
  | .commonDoor _ _ => some 2
  | .staffDoor => some 3
  | .minibar _ _ => some 4

/-- A RELEASED mode. -/
def Mode.isReleased : Mode → Bool
  | .released _ => true
  | _ => false

/-- The number of configured nodes of a line. -/
def State.configuredCount (s : State) (l : LineIx) : Nat := (tget s.nodes l).count fun nd => nd.config.configured

/-- A line's outstanding count (R62): its presentations, and the remote verdicts on its Verdict Queue. -/
def State.outstanding (s : State) (l : LineIx) : Nat :=
  s.verdict.queue.countP (fun x => decide (x.node.line = l)) + (s.line l).verdicts.countP (fun v => v.remote)

/-- A connecting node is the paired door of room A (R73): the paired room, none where the door is unpaired. -/
def State.pairedRoom (s : State) (n : NodeAddr) (roomA : RoomIx) : Option RoomIx :=
  match (s.room roomA).pairing with
  | some p => if p.node = n then some p.room else none
  | none => none

/-- The room that an event of a ROOM_DOOR node reaches: the room of its room field, where that room names it as door node
(R78, R85). -/
def State.ownRoom (s : State) (n : NodeAddr) : Option RoomIx :=
  match (s.node n).config with
  | .roomDoor r => if (s.room r).doorNode = some n then some r else none
  | _ => none

/-! ### Minibars and charges -/

/-- The reserved total (R120). -/
def ChargeUnit.reservedTotal (c : ChargeUnit) : Nat := (c.sessions.map Session.reserved).sum

/-- Free charge space (R120). -/
def ChargeUnit.freeSpace (c : ChargeUnit) : Nat := Config.chargeMax - c.queue.length - c.reservedTotal

/-- The session of a room (R122: no room has more than one). -/
def ChargeUnit.sessionOfRoom (c : ChargeUnit) (r : RoomIx) : Option Session := c.sessions.find? fun x => decide (x.room = r)

/-- The session at a node. -/
def ChargeUnit.sessionAt (c : ChargeUnit) (n : NodeAddr) : Option Session := c.sessions.find? fun x => decide (x.node = n)

/-- The number of sessions that name a folio (R112). -/
def ChargeUnit.sessionsOf (c : ChargeUnit) (f : FolioIx) : Nat := c.sessions.countP fun x => decide (x.folio = some f)

/-! ### Lamps (R84, R166) -/

/-- The derived ALARM lamp of a door condition and alarm latch (R84). -/
def alarmLit (door : DoorCond) (latch : Bool) : Bool := decide (door = .forced) || decide (door = .heldOpen) || latch

/-- The displayed lamps of an entry (Table 8-2). -/
def displayedOf (u : Indicator) (e : IndEntry) : LampSet :=
  if u.dark then .unlit
  else if u.phaseOn then e.primary
  else match u.mode with
    | .steady => e.primary
    | .blinkSelected =>
      { privacy := e.primary.privacy && !e.blinkSelect.privacy, makeup := e.primary.makeup && !e.blinkSelect.makeup,
        call := e.primary.call && !e.blinkSelect.call, alarm := false }
    | .blinkAll => .unlit
    | .alternate => { e.alternate with alarm := e.alternate.alarm && !e.primary.alarm }

/-- The displayed lamps of a room (R166). -/
def State.displayed (s : State) (r : RoomIx) : LampSet := displayedOf s.lamps (s.lamp r)

/-- The lamps a LAMPS frame to a node carries (R98, R166): unlit where no room names the node as its door node. -/
def State.lampsFor (s : State) (n : NodeAddr) : LampSet :=
  match s.doorRoom n with
  | some r => s.displayed r
  | none => .unlit

end Sys2Proof.Machine
end

