-- ==== Sys2Proof/Machine/Ops.lean ====
section
/-! DEFINITION. The operations the blocks share: causes, answers on a port, the offer of a journal record, and the claims that
rooms, keys, nodes, folios, sessions and lamps take from one another. -/

namespace Sys2Proof.Machine

/-! ### Attention (R184) -/

/-- An owner raises a cause on a port: its pending flag is set, whatever its level (R184). -/
def raise (p : Port) (c : Cause) (s : State) : State :=
  s.modAttn p fun a => match c.number p with
    | some k => { a with pending := a.pending.set k.val true }
    | none => a

/-- An owner withdraws a cause: its pending flag is cleared (R184). -/
def withdraw (p : Port) (c : Cause) (s : State) : State :=
  s.modAttn p fun a => match c.number p with
    | some k => { a with pending := a.pending.set k.val false }
    | none => a

/-! ### Taking and answering a command (R176 to R179) -/

/-- An owner's answer: result code and returned data. -/
structure Reply where
  code : ResultCode
  data : List Byte
deriving DecidableEq, Repr

/-- What an owner makes of a command: the state it leaves, and its answer, none while an operation that takes time runs (R179). -/
abbrev Owned := State × Option Reply

/-- The owner refuses: nothing changes. -/
def refuse (code : ResultCode) (s : State) : Owned := (s, some ⟨code, []⟩)

/-- The owner answers OK with returned data. -/
def accept (data : List Byte) (s : State) : Owned := (s, some ⟨.ok, data⟩)

/-- An answer is placed in a port's result record, the port goes to DONE (R176, R177). -/
def placeResult (p : Port) (command : Option Byte) (r : Reply) (s : State) : State :=
  s.modPort p fun q => { q with phase := .done, result := some ⟨command, r.code, r.data⟩ }

/-- An answer that ends a command: its result record and its COMMAND_DONE (R176, R177). -/
def answer (p : Port) (command : Option Byte) (r : Reply) (s : State) : State :=
  raise p .commandDone (placeResult p command r s)

/-- The owner of an operation that takes time answers the Service port, where the port still has the command WORKING; an
answer given in RETAIN, or after a restart has emptied the slot, is discarded (R174, R177, R179). -/
def answerLong (c : Command) (r : Reply) (s : State) : State :=
  if s.inRun = true ∧ (s.port .service).phase = .working c then answer .service (some c.code) r s else s

/-- A port takes frames: the part is in RUN and the port's reset input is released (R174, R182). -/
def State.listening (s : State) (p : Port) : Bool := s.inRun && !(s.port p).resetHeld

/-- The command slot of a port is in use. -/
def PortPhase.isWorking : PortPhase → Bool
  | .working _ => true
  | _ => false

/-- A command frame is taken: the tag increases and the result record becomes empty (R176). -/
def openCommand (p : Port) (s : State) : State := s.modPort p fun q => { q with tag := q.tag + 1, result := none }

/-- The command is placed in the command slot and the port goes to WORKING (R177). -/
def holdCommand (p : Port) (c : Command) (s : State) : State := s.modPort p fun q => { q with phase := .working c }

/-- A command frame whose select is released while the port is WORKING sets the refusal marker and nothing else (R178). -/
def discardFrame (p : Port) (s : State) : State := s.modPort p fun q => { q with refusal := true }

/-- The port's checks 1 to 4 on a command of the index (R176, R177): the refusal code, or the parameters. -/
def portChecks {α : Type} (c : Command) (p : Port) (params : List Byte) (parse : List Byte → Option α) :
    Except ResultCode α :=
  if params.length < c.needed params then .error .truncated
  else if c.permitted p = false then .error .notPermitted
  else match parse params with
    | none => .error .badParam
    | some a => .ok a

/-- A command frame on a port, with the parser of its parameters and its owner's claim (R175 to R179). A frame that the port
does not listen to is lost (R174, R182). -/
def takeCommand {α : Type} (c : Command) (p : Port) (params : List Byte) (parse : List Byte → Option α)
    (owner : α → State → Owned) (s : State) : State :=
  if s.listening p = false then s
  else if (s.port p).phase.isWorking then discardFrame p s
  else match portChecks c p params parse with
    | .error code => answer p (some c.code) ⟨code, []⟩ (openCommand p s)
    | .ok a =>
      match owner a (holdCommand p c (openCommand p s)) with
      | (t, some r) => answer p (some c.code) r t
      | (t, none) => t

/-! ### Offering a journal record (R136 to R139) -/

/-- A record as a block offers it, before it takes its sequence number (R136). Its detail is 0 where the rule gives none. -/
structure Offer where
  kind : RecordKind
  cls : RecordClass
  time : Stamp
  node : Option NodeAddr := none
  room : Option RoomIx := none
  card : Option CardId := none
  key : Option KeyIx := none
  reason : Option RecordReason := none
  detail : BitVec 16 := 0
deriving DecidableEq, Repr

/-- The record that an offer makes with its sequence number. -/
def Offer.record (o : Offer) (seq : Seq) : Record :=
  { seq := seq, time := o.time, cls := o.cls, kind := o.kind, node := o.node, room := o.room, card := o.card, key := o.key,
    reason := o.reason, detail := o.detail }

/-- A 32-bit journal count raised by a number (R139, R156); past the top it is a free value (log entry 12). -/
def raiseCount (count : BitVec 32) (by_ : Nat) : BitVec 32 :=
  if count.toNat + by_ < 4294967296 then BitVec.ofNat 32 (count.toNat + by_) else Config.countPastTop count.toNat by_

/-- The place in the Staging Queue of the oldest waiting ROUTINE record (R138). -/
def Journal.evictable (j : Journal) : Option Nat :=
  ((j.staged.drop j.inFlight).findIdx? fun r => decide (r.cls = .routine)).map (· + j.inFlight)

/-- A record taken into the Staging Queue, or dropped, or taken in place of an evicted one (R137, R138). -/
def Journal.stage (j : Journal) (r : Record) : Journal :=
  if j.staged.length < Config.stagingMax then { j with staged := j.staged ++ [r] }
  else if r.cls = .routine then { j with droppedRoutine := raiseCount j.droppedRoutine 1 }
  else match j.evictable with
    | some i => { j with staged := j.staged.eraseIdx i ++ [r], droppedRoutine := raiseCount j.droppedRoutine 1 }
    | none => { j with droppedPriority := raiseCount j.droppedPriority 1 }

/-- The test of a pending flush, made at each block program completion and at each eviction (R152): it ends with OK when no
record at or below its target remains in staging. -/
def settleFlush (s : State) : State :=
  match s.journal.flush with
  | some target =>
    if s.journal.staged.any (fun r => seqAtOrBelow r.seq target) then s
    else answerLong .flushJournal ⟨.ok, []⟩ { s with journal := { s.journal with flush := none } }
  | none => s

/-- The journal takes an offer: the next sequence number is assigned, the record is staged or dropped, the flush timer starts
where the waiting count rises from 0, and the drop notice is used up by a loss (R136 to R139, R141). -/
def Journal.taken (j : Journal) (o : Offer) (run : Bool) (elapsed : Nat) : Journal :=
  let full := decide (Config.stagingMax ≤ j.staged.length)
  let staged := ({ j with nextSeq := j.nextSeq + 1 } : Journal).stage (o.record j.nextSeq)
  { staged with
    noticeArmed := j.noticeArmed && !full
    flushAt := if !full && run && decide (j.waiting = 0) then some (elapsed + Config.flushPeriod) else j.flushAt }

/-- A block offers a record (R136 to R139). A loss raises STAGING_DROP while the drop notice is armed (R139), and an eviction
tests a pending flush (R152). -/
def offer (o : Offer) (s : State) : State :=
  let t := { s with journal := s.journal.taken o s.inRun s.supply.elapsed }
  if s.journal.staged.length < Config.stagingMax then t
  else settleFlush (if s.journal.noticeArmed then raise .service .stagingDrop t else t)

/-! ### Lamps (R163, R168, R170) -/

/-- The four lamps. -/
inductive LampName where
  | privacy | makeup | call | alarm
deriving DecidableEq, Repr

/-- A lamp set with one lamp written. -/
def LampSet.put (x : LampSet) (l : LampName) (v : Bool) : LampSet :=
  match l with
  | .privacy => { x with privacy := v }
  | .makeup => { x with makeup := v }
  | .call => { x with call := v }
  | .alarm => { x with alarm := v }

/-- A derived write of a primary lamp (R163). -/
def writePrimary (r : RoomIx) (l : LampName) (v : Bool) (s : State) : State :=
  s.modLamp r fun e => { e with primary := e.primary.put l v }

/-- A sweep start is requested (R168). -/
def requestSweep (k : SweepKind) (s : State) : State :=
  { s with lamps :=
      match s.lamps.sweep with
      | .idle => { s.lamps with sweep := .marking k 0 }
      | _ => { s.lamps with pendingStart :=
          match s.lamps.pendingStart with
          | none => some k
          | some .toggle => some k
          | some .full => some .full } }

/-- The running sweep is in DRAINING with nothing outstanding. -/
def Indicator.drained (u : Indicator) : Bool :=
  match u.sweep with
  | .draining _ => u.outstanding.isEmpty
  | _ => false

/-- The end of a sweep whose outstanding set is empty in DRAINING (R170): SWEEP_DONE is raised and a pending start begins. -/
def settleSweep (s : State) : State :=
  if s.lamps.drained then
    raise .service .sweepDone { s with lamps := { s.lamps with
      sweep := match s.lamps.pendingStart with | some k => .marking k 0 | none => .idle
      pendingStart := none } }
  else s

/-! ### Node marks (R99, R100) -/

/-- The mark of an exchange whose LAMPS frame's mark is set again or cleared meanwhile (R111). -/
def Line.remarkLamps (ln : Line) (which : Fin 64 → Bool) (again : Bool) : Line :=
  match ln.exchange with
  | some x =>
    match x.frame with
    | .lamps _ => if which x.addr then { ln with exchange := some { x with markAgain := again } } else ln
    | _ => ln
  | none => ln

/-- The mark of an exchange whose MODE frame's mark is set again or cleared meanwhile (R111). -/
def Line.remarkMode (ln : Line) (which : Fin 64 → Bool) (again : Bool) : Line :=
  match ln.exchange with
  | some x =>
    match x.frame with
    | .mode _ => if which x.addr then { ln with exchange := some { x with markAgain := again } } else ln
    | _ => ln
  | none => ln

/-- A node's lamp-pending mark is set (R99, R103). -/
def setLampMark (n : NodeAddr) (s : State) : State :=
  (s.modNode n fun nd => { nd with lampPending := true }).modLine n.line
    fun ln => ln.remarkLamps (fun a => decide (a = n.addr)) true

/-- A node's mode-pending mark is set (R100). -/
def setModeMark (n : NodeAddr) (s : State) : State :=
  (s.modNode n fun nd => { nd with modePending := true }).modLine n.line
    fun ln => ln.remarkMode (fun a => decide (a = n.addr)) true

/-- The lamp-pending marks of some nodes are cleared and reported to the Indicator Unit as cleared (R99, R170). -/
def clearLampMarks (which : NodeAddr → Bool) (s : State) : State :=
  settleSweep { s with
    nodes := mapNodes s.nodes fun n nd => if which n then { nd with lampPending := false } else nd
    lines := tmap 16 s.lines fun l ln => ln.remarkLamps (fun a => which ⟨l, a⟩) false
    lamps := { s.lamps with outstanding := s.lamps.outstanding.filter fun n => !which n } }

/-- The Line Controller keeps a lamp-pending mark of the node: it does not clear it at once (R99). -/
def State.servesLamps (s : State) (n : NodeAddr) : Bool :=
  decide ((s.line n.line).state ≠ .stopped) && (s.node n).config.configured && decide ((s.node n).link ≠ .offline)

/-! ### Rooms (R2, R3, R6, R14, R15) -/

/-- A room's generation increments and its live-key count becomes 0, in the same step (R2). -/
def bumpGeneration (r : RoomIx) (s : State) : State :=
  s.modRoom r fun rm => { rm with generation := rm.generation + 1, liveKeys := 0 }

/-- A room's live-key count increases by one (R3). -/
def addLive (r : RoomIx) (s : State) : State := s.modRoom r fun rm => { rm with liveKeys := rm.liveKeys + 1 }

/-- A room's live-key count decreases by one (R3). -/
def dropLive (r : RoomIx) (s : State) : State := s.modRoom r fun rm => { rm with liveKeys := rm.liveKeys - 1 }

/-- Privacy takes a value; a change is handed to the Indicator Unit (R14, R163). -/
def setPrivacy (r : RoomIx) (v : Bool) (s : State) : State :=
  if (s.room r).privacy = v then s
  else writePrimary r .privacy v (s.modRoom r fun rm => { rm with privacy := v })

/-- Make-up takes a value; a change is handed to the Indicator Unit (R15, R163). -/
def setMakeup (r : RoomIx) (v : Bool) (s : State) : State :=
  if (s.room r).makeup = v then s
  else writePrimary r .makeup v (s.modRoom r fun rm => { rm with makeup := v })

/-! ### Folios and sessions (R113, R116, R123) -/

/-- The test of a CLOSING folio for draining (R113). -/
def settleFolio (f : FolioIx) (s : State) : State :=
  if (s.folio f).state = .closing ∧ (s.folio f).rooms = [] ∧ (s.folio f).pendingLines = 0 ∧ s.charge.sessionsOf f = 0 then
    raise .front .folioDrained (raise .charge .folioDrained
      (s.modFolio f fun x => { x with state := .free, allowance := 0, spent := 0 }))
  else s

/-- The Remove claim of vacating: the room leaves its folio's list, and a CLOSING folio is tested (R116). -/
def removeFromFolio (f : Option FolioIx) (r : RoomIx) (s : State) : State :=
  match f with
  | some f => settleFolio f (s.modFolio f fun x => { x with rooms := x.rooms.erase r })
  | none => s

/-- A room is vacated (R6). That it always writes the primary PRIVACY and MAKEUP lamps unlit, even where the flag was clear already and a
command had lit the lamp, is the model's choice, log entry 44. -/
def vacate (r : RoomIx) (s : State) : State :=
  let vacated := s.modRoom r fun rm =>
    { rm with
      phase := match rm.phase with
        | .closing => .vacant
        | .blocked _ why => .blocked .vacant why
        | other => other
      closing := none, folio := none, privacy := false, makeup := false }
  raise .front .roomVacated
    (writePrimary r .privacy false (writePrimary r .makeup false (removeFromFolio (s.room r).folio r vacated)))

/-- The test of R6: a room whose closing is SCAN_DONE and which has no minibar session is vacated. -/
def settleRoom (r : RoomIx) (s : State) : State :=
  if (s.room r).closing = some .scanDone ∧ s.charge.sessionOfRoom r = none then vacate r s else s

/-- A session ends (R123): it leaves the table with its reservation, its room is tested, its folio is tested. -/
def endSession (x : Session) (s : State) : State :=
  let gone := { s with charge := { s.charge with sessions := s.charge.sessions.filter fun y => decide (y.room ≠ x.room) } }
  let roomed := settleRoom x.room gone
  match x.folio with
  | some f => settleFolio f roomed
  | none => roomed

/-- A session is ended as ABANDONED, with its ALARM record (R127). -/
def abandonSession (s : State) (x : Session) : State :=
  endSession x (offer
    { kind := .minibarAbandoned, cls := .alarm, time := s.now, node := some x.node, room := some x.room, key := some x.key,
      detail := BitVec.ofNat 16 x.linesMade } s)

/-- The sessions at some nodes are ended as ABANDONED, in the order of the table (R127). -/
def abandonSessions (which : NodeAddr → Bool) (s : State) : State :=
  (s.charge.sessions.filter fun x => which x.node).foldl abandonSession s

/-! ### Doors and modes (R82, R84, R86, R100) -/

/-- A node's door condition and alarm latch take values. A change of condition is handed to the Room Table (R16), and a
change of either to the Indicator Unit as the derived ALARM lamp (R84). -/
def setDoor (n : NodeAddr) (door : DoorCond) (latch : Bool) (s : State) : State :=
  let old := s.node n
  let noded := s.modNode n fun nd => { nd with door := door, latch := latch }
  match s.doorRoom n with
  | none => noded
  | some r =>
    let roomed := if old.door = door then noded else noded.modRoom r fun rm => { rm with door := door }
    if old.door = door ∧ old.latch = latch then roomed else writePrimary r .alarm (alarmLit door latch) roomed

/-- The door condition of a room's door node is handed to the Room Table (R16). -/
def handDoor (n : NodeAddr) (s : State) : State :=
  match s.doorRoom n with
  | some r => s.modRoom r fun rm => { rm with door := (s.node n).door }
  | none => s

/-- Some nodes leave service (R86): grants are cleared, held-open timers stopped, door conditions UNKNOWN. The rooms whose
door nodes they are are told (R16), and the derived ALARM lamp follows a changed condition (R84). -/
def leaveService (which : NodeAddr → Bool) (s : State) : State :=
  { s with
    nodes := mapNodes s.nodes fun n nd =>
      if which n then { nd with grant := none, heldOpen := none, door := .unknown } else nd
    rooms := tmap 512 s.rooms fun _ rm =>
      match rm.doorNode with
      | some n => if which n then { rm with door := .unknown } else rm
      | none => rm
    lamps := { s.lamps with entries := tmap 512 s.lamps.entries fun r e =>
      match (s.room r).doorNode with
      | some n =>
        if which n && decide ((s.node n).door ≠ .unknown) then
          { e with primary := e.primary.put .alarm (alarmLit .unknown (s.node n).latch) } else e
      | none => e } }

/-- A held-open timer started now with the node's limit (R82). -/
def startedTimer (elapsed : Nat) (nd : Node) : HeldOpenTimer :=
  { expiry := elapsed + nd.heldOpenLimit * Config.crystalHz, limit := nd.heldOpenLimit }

/-- A node takes a mode: the held-open timer starts anew where the mode becomes NORMAL with the door OPEN (R82), save at a
MINIBAR, where the session's own limit takes its place (R81). -/
def Node.withMode (nd : Node) (m : Mode) (elapsed : Nat) : Node :=
  { nd with
    mode := m
    modePending := true
    heldOpen :=
      if m = .normal ∧ nd.mode ≠ .normal ∧ nd.door = .opened ∧ nd.config.isMinibar = false then some (startedTimer elapsed nd)
      else nd.heldOpen }

/-- The nodes for which `choose` gives a mode take it, each with its mode-pending mark set (R87 to R90, R100). -/
def changeModes (choose : NodeAddr → Node → Option Mode) (s : State) : State :=
  { s with
    nodes := mapNodes s.nodes fun n nd =>
      match choose n nd with
      | some m => nd.withMode m s.supply.elapsed
      | none => nd
    lines := tmap 16 s.lines fun l ln => ln.remarkMode (fun a => (choose ⟨l, a⟩ (s.node ⟨l, a⟩)).isSome) true }

/-! ### Keys (R22, R23, R28, R36, R40) -/

/-- A job is appended to the Scan Queue (R36). -/
def pushJob (j : ScanJob) (s : State) : State := { s with keys := { s.keys with scanQueue := s.keys.scanQueue ++ [j] } }

/-- The Scan Queue holds 8 jobs (R36). -/
def State.scanFull (s : State) : Bool := decide (Config.scanQueueMax ≤ s.keys.scanQueue.length)

/-- The rooms to which a LIVE guest key holds a current binding, which its leaving LIVE uncounts (R3). -/
def State.countedRooms (s : State) (e : KeyEntry) : List RoomIx :=
  if e.standing = .live then (e.bindings.filter s.isCurrent).map Binding.room else []

/-- An entry joins the tail of the Retired List, and the KEY_TABLE_LOW alarm is armed again where the sum of R28 rises to 64
or more (R27, R28). -/
def appendRetired (k : KeyIx) (s : State) : State :=
  { s with keys := { s.keys with
      retired := s.keys.retired ++ [k]
      lowArmed := s.keys.lowArmed || decide (Config.keyTableLow ≤ s.keys.freeCount + s.keys.retired.length + 1) } }

/-- A LIVE or SUSPENDED entry becomes REVOKED or EXPIRED, with every effect of R22. `jobRoom` is the room of the job that left
a guest key without a binding (R38). -/
def retire (k : KeyIx) (how : RetiredAs) (reason : RetireReason) (jobRoom : Option RoomIx) (s : State) : State :=
  match s.entry k with
  | none => s
  | some e =>
    let retired := s.setEntry k { e with standing := .retired how reason s.nowOrZero }
    let uncounted := (s.countedRooms e).foldl (fun t r => dropLive r t) retired
    offer
      { kind := .keyRetired, cls := .notice, time := s.now, key := some k, card := some e.card,
        room := if e.isGuest then e.principal.or jobRoom else none, reason := some (.retirement reason) }
      (appendRetired k uncounted)

/-- The entry that will hold an issued key (R23): the retired entry of the same card, the lowest FREE entry, or the head of
the Retired List. -/
def State.findForIssue (s : State) (card : CardId) : Option KeyIx :=
  match s.findCard card with
  | some (k, _) => some k
  | none => (tfind 2048 s.keys.entries Option.isNone).or s.keys.retired.head?

/-- A claim whose entry an issue has rewritten is marked (R44). -/
def VeClaim.markRewritten (k : KeyIx) : VeClaim → VeClaim
  | .use k' c u a w => .use k' c u a (w || decide (k' = k))
  | .rebind k' c m t w => .rebind k' c m t (w || decide (k' = k))

/-- The entry found for an issue is rewritten whole (R23), with the KEY_TABLE_LOW test of R28. -/
def rewriteEntry (k : KeyIx) (e : KeyEntry) (s : State) : State :=
  let falls := decide (s.keys.sum = Config.keyTableLow)
  let written := { s with keys := { s.keys with
    entries := tset s.keys.entries k (some e)
    retired := s.keys.retired.erase k
    lowArmed := s.keys.lowArmed && !falls
    claims := s.keys.claims.map (VeClaim.markRewritten k) } }
  if falls && s.keys.lowArmed then raise .front .keyTableLow written else written

/-- The bindings of an entry rebound from a source binding to a target (R40): replaced in place, or removed where a binding to
the target is already held, which then takes the target's generation. -/
def rebound (bs : List Binding) (source target : Binding) : List Binding :=
  if bs.any (fun b => decide (b.room = target.room)) then
    (bs.filter fun b => decide (b ≠ source)).map fun b => if b.room = target.room then target else b
  else bs.map fun b => if b = source then target else b

/-- An entry that holds the binding (s, g) of a move is rebound to the target at its present generation; a LIVE entry is
counted there (R40, R43). -/
def rebindEntry (k : KeyIx) (e : KeyEntry) (source : Binding) (target : RoomIx) (s : State) : State :=
  let t := s.setEntry k { e with body := .guest (rebound e.bindings source ⟨target, (s.room target).generation⟩) }
  if e.standing = .live then addLive target t else t

/-! ### The Key Register's arbiter (R43 to R45) -/

/-- A count of an entry raised by one, up to 65,535 (R44). -/
def satCount (n : Nat) : Nat := min (n + 1) 65535

/-- A use report applied to the entry (R44). -/
def KeyEntry.reported (e : KeyEntry) (used : Bool) (arrival : Stamp) : KeyEntry :=
  { e with
    presentations := satCount e.presentations
    uses := if used then satCount e.uses else e.uses
    lastUse := if used then arrival.or e.lastUse else e.lastUse }

/-- A claim of the Verdict Engine taken whole: a use report (R44), or a rebind claim (R43). A claim on an entry that an issue has
rewritten, or that no longer holds the card, is discarded. -/
def takeClaim (c : VeClaim) (s : State) : State :=
  match c with
  | .use k card used arrival rewritten =>
    match s.entry k with
    | some e => if e.card = card ∧ rewritten = false then s.setEntry k (e.reported used arrival) else s
    | none => s
  | .rebind k card m target rewritten =>
    match s.entry k with
    | some e =>
      if e.card = card ∧ rewritten = false ∧ e.standing.inService ∧ e.bindings.contains ⟨m.source, m.generation⟩ then
        rebindEntry k e ⟨m.source, m.generation⟩ target s
      else s
    | none => s

/-- The Verdict Engine's waiting claims are served, oldest first, each whole: they go before a command's claim and before a scan step
(R45). -/
def serveWaiting (s : State) : State :=
  s.keys.claims.foldl (fun t c => takeClaim c t) { s with keys := { s.keys with claims := [] } }

/-- An owner whose command claims the key entries: the claims of the Verdict Engine that wait are served first (R45). -/
def arbitrated {α : Type} (owner : α → State → Owned) (a : α) (s : State) : Owned := owner a (serveWaiting s)

end Sys2Proof.Machine
end

