-- ==== Sys2Proof/Machine/Frames.lean ====
section
/-! DEFINITION. Lock-line frames (12.4): the check of R199, outbound frames as bytes, and the judgement of an answer (R96). -/

namespace Sys2Proof.Machine

/-- One bit shifted into the check register (R199). -/
def crcBit (reg : BitVec 16) (b : Bool) : BitVec 16 :=
  let shifted := reg <<< 1
  if xor (reg.getLsbD 15) b then shifted ^^^ 0x1021 else shifted

/-- One byte shifted in, most significant bit first (R199). -/
def crcByte (reg : BitVec 16) (b : Byte) : BitVec 16 :=
  [7, 6, 5, 4, 3, 2, 1, 0].foldl (fun r k => crcBit r (b.getLsbD k)) reg

/-- The 16-bit check over a run of bytes (R199). -/
def crc16 (bytes : List Byte) : BitVec 16 := bytes.foldl crcByte 0xFFFF

/-- The check of a run of bytes as two bytes, high byte first (R199). -/
def crcBytes (bytes : List Byte) : List Byte :=
  [(crc16 bytes).extractLsb' 8 8, (crc16 bytes).extractLsb' 0 8]

/-- A frame's bytes: address byte, type, length, payload, check (12.4). -/
def frameBytes (address type : Byte) (payload : List Byte) : List Byte :=
  let body := address :: type :: BitVec.ofNat 8 payload.length :: payload
  body ++ crcBytes body

/-- The payload bits of a lamp set: bits 0 to 3 PRIVACY, MAKEUP, CALL, ALARM (Table 12-6). -/
def LampSet.bits (x : LampSet) : Nat := bit 0 x.privacy + bit 1 x.makeup + bit 2 x.call + bit 3 x.alarm

/-- The payload of a VERDICT frame: bit 0 GRANT, bit 1 green, and the pulse is green for a GRANT alone (Table 12-6, R65). -/
def VerdictOutcome.bits : VerdictOutcome → Nat
  | .grant => 3
  | .deny => 0

/-- The bytes of an outbound frame to an address (Tables 12-6 and 5-3; bit 7 of the address byte is 0). -/
def OutFrame.bytes (addr : Fin 64) : OutFrame → List Byte
  | .poll => frameBytes (BitVec.ofNat 8 addr) 0x10 []
  | .lamps x => frameBytes (BitVec.ofNat 8 addr) 0x11 (u8 x.bits)
  | .mode m => frameBytes (BitVec.ofNat 8 addr) 0x12 (u8 m.code)
  | .verdict o => frameBytes (BitVec.ofNat 8 addr) 0x13 (u8 o.bits)
  | .busyReply => frameBytes (BitVec.ofNat 8 addr) 0x13 (u8 VerdictOutcome.deny.bits)

/-- What a valid answer reports (Table 5-3). -/
inductive Answer where
  | quiet
  | ack
  | present (side : Side) (card : CardId)
  | door (opened : Bool)
  | bolt (on : Bool)
  | button (which : Button)
  | tray (slot : TraySlot) (kind : TrayKind)
deriving DecidableEq, Repr

/-- The type and payload of an inbound frame (Table 12-6). -/
def Answer.payload : Answer → Byte × List Byte
  | .quiet => (0x20, [])
  | .ack => (0x21, [])
  | .present side card => (0x22, u8 (match side with | .a => 0 | .b => 1) ++ u64 card)
  | .door opened => (0x23, u8 (if opened then 0 else 1))
  | .bolt on => (0x24, u8 (if on then 0 else 1))
  | .button .makeup => (0x25, u8 0)
  | .button .call => (0x25, u8 1)
  | .button .cancel => (0x25, u8 2)
  | .tray slot kind => (0x26, u8 slot.val ++ u8 kind.code)

/-- The bytes with which a node at an address sends an answer: bit 7 of the address byte is 1 (12.4). -/
def Answer.bytes (addr : Fin 64) (a : Answer) : List Byte :=
  frameBytes (BitVec.ofNat 8 (128 + addr.val)) a.payload.1 a.payload.2

/-- The report of a two-valued payload byte. -/
def twoValued (b : Byte) : Option Bool :=
  if b = 0 then some true else if b = 1 then some false else none

/-- The report that a type and payload make, none where the type is no inbound type, the length is not the type's, or a
value lies out of range (R96, Table 12-6). -/
def answerOfPayload (type : Byte) (payload : List Byte) : Option Answer :=
  match type, payload with
  | 0x20, [] => some .quiet
  | 0x21, [] => some .ack
  | 0x22, [s, a, b, c, d, e, f, g, h] =>
    (twoValued s).map fun isA => .present (if isA then .a else .b) (cardAt [a, b, c, d, e, f, g, h] 0)
  | 0x23, [v] => (twoValued v).map .door
  | 0x24, [v] => (twoValued v).map .bolt
  | 0x25, [v] =>
    if v = 0 then some (.button .makeup) else if v = 1 then some (.button .call)
    else if v = 2 then some (.button .cancel) else none
  | 0x26, [k, v] =>
    (toFin? 32 k.toNat).bind fun slot => (twoValued v).map fun t => .tray slot (if t then .taken else .returned)
  | _, _ => none

/-- The judgement of a received frame as the answer of an addressed node (R96): its check, its address byte with the inbound
direction, its type, its length and its values. None where the frame is rejected. -/
def answerOf (addr : Fin 64) (frame : List Byte) : Option Answer :=
  match frame with
  | address :: type :: len :: rest =>
    let payload := rest.take (rest.length - 2)
    if 2 ≤ rest.length ∧ rest.drop (rest.length - 2) = crcBytes (address :: type :: len :: payload)
        ∧ address = BitVec.ofNat 8 (128 + addr.val) ∧ len.toNat = payload.length
    then answerOfPayload type payload
    else none
  | _ => none

end Sys2Proof.Machine
end

