-- ==== Sys2Proof/Machine/Records.lean ====
section
/-! DEFINITION. Returned data as bytes: the records of section 12.5, and the data of the other reading commands with the
fields in the order their rules list them (log entry 8). -/

namespace Sys2Proof.Machine

/-! ### Records of section 12.5 -/

/-- A journal record in its 32 bytes (Table 12-7). -/
def Record.bytes (r : Record) : List Byte :=
  let body := u32 r.seq ++ u32? r.time ++ u8 r.cls.code ++ u8 r.kind.code
    ++ u8 (bit 0 r.node.isSome + bit 1 r.room.isSome + bit 2 r.card.isSome + bit 3 r.key.isSome + bit 4 r.reason.isSome
      + bit 7 r.time.isNone)
    ++ u8 ((r.reason.map RecordReason.code).getD 0) ++ (r.node.map uNode).getD [0, 0] ++ u16 ((r.room.map Fin.val).getD 0)
    ++ u16 ((r.key.map Fin.val).getD 0) ++ u16 r.detail.toNat ++ u64 (r.card.getD 0) ++ [0, 0]
  body ++ crcBytes body

/-- The 32 bytes of a slot's content, most significant first. -/
def contentBytes (content : BitVec 256) : List Byte := (List.range 32).map fun i => content.extractLsb' (8 * (31 - i)) 8

/-- A slot as a read returns it: its record, or 32 bytes of FFh for a blank one (12.2). -/
def Slot.bytes : Slot → List Byte
  | .blank => List.replicate 32 0xFF
  | .written r => r.bytes
  | .other content => contentBytes content

/-- The judgement of a slot at the rebuild (R199). -/
inductive SlotReading where
  | blank | valid | unreadable
deriving DecidableEq, Repr

/-- A slot's 32 bytes judged (R199): all FFh is blank; the mark 0000h in bytes 28 and 29 with the check of bytes 0 to 29 in bytes 30
and 31 is a valid record; any other content is unreadable. -/
def readingOf (bytes : List Byte) : SlotReading :=
  if bytes = List.replicate 32 0xFF then .blank
  else if bytes.drop 28 = [0, 0] ++ crcBytes (bytes.take 30) then .valid
  else .unreadable

/-- A slot judged by its bytes (R199). -/
def Slot.reading (x : Slot) : SlotReading := readingOf x.bytes

/-- A charge line in its 14 bytes (Table 12-8). -/
def ChargeLine.bytes (c : ChargeLine) : List Byte :=
  u16 c.number.toNat ++ u8 c.folio ++ u16 c.room ++ u8 c.slot.val ++ u8 c.kind.code ++ u16 c.price ++ u32? c.time
    ++ u8 (bit 0 c.time.isNone)

/-- Code of the issuing port in READ KEY: Front 0, Service 1 (Table 12-9). -/
def issuerCode : Port → Nat
  | .front => 0
  | .service => 1
  | .charge => 0xFF

/-- One of the four binding places of READ KEY; an unused place reads FFFFh, 00h, FFh (log entry 8). -/
def State.bindingBytes (s : State) : Option Binding → List Byte
  | some b => u16 b.room ++ [b.generation] ++ u8 (s.bindingMark b).ctorIdx
  | none => [0xFF, 0xFF, 0, 0xFF]

/-- The retirement of an entry: its reason and time, in REVOKED and EXPIRED (Table 2-1). -/
def Standing.retirement : Standing → Option (RetireReason × HotelTime)
  | .retired _ reason time => some (reason, time)
  | _ => none

/-- The zone set of an entry, STAFF only (Table 2-1). -/
def KeyEntry.zones (e : KeyEntry) : Option Set16 :=
  match e.body with
  | .guest _ => none
  | .staff z => some z

/-- READ KEY in its 57 bytes (Table 12-9). A FREE entry has its absent fields marked and its others 0 (R21). -/
def State.keyRecord (s : State) (k : KeyIx) : List Byte :=
  let e := s.entry k
  let retirement := e.bind fun e => e.standing.retirement
  let zones := e.bind KeyEntry.zones
  let bindings := (e.map KeyEntry.bindings).getD []
  let position := s.keys.retired.findIdx? fun j => decide (j = k)
  let place := if retirement.isSome then position else none
  u16 k ++ u8 ((e.map fun e => e.standing.code).getD 0) ++ uEnum? (e.map fun e => if e.isGuest then 0 else 1)
    ++ u64 ((e.map KeyEntry.card).getD 0) ++ u8 ((e.map fun e => e.profile.val).getD 0)
    ++ u32 ((e.map KeyEntry.validFrom).getD 0) ++ u32 ((e.map KeyEntry.validUntil).getD 0)
    ++ u16 ((e.map KeyEntry.presentations).getD 0) ++ u16 ((e.map KeyEntry.uses).getD 0)
    ++ u32? (e.bind KeyEntry.lastUse) ++ uEnum? (e.map fun e => issuerCode e.issuer)
    ++ uEnum? (retirement.map fun r => r.1.code) ++ u32? (retirement.map Prod.snd) ++ u16 (place.getD 0)
    ++ u8 bindings.length ++ ([0, 1, 2, 3].map fun i => s.bindingBytes bindings[i]?).flatten
    ++ u16 ((zones.map BitVec.toNat).getD 0)
    ++ u8 (bit 0 e.isSome + bit 1 (e.bind KeyEntry.lastUse).isSome + bit 2 retirement.isSome + bit 3 place.isSome
      + bit 4 zones.isSome)

/-- READ ROOM in its 29 bytes (Table 12-10). That byte 22, the generation of moved-from, reads 00h while moved-from is absent is the
model's choice, log entry 41. -/
def State.roomRecord (s : State) (r : RoomIx) : List Byte :=
  let rm := s.room r
  let blocked : Option (PriorState × Byte) := match rm.phase with | .blocked p why => some (p, why) | _ => none
  u16 r ++ u8 rm.phase.code ++ uEnum? (blocked.map fun b => b.1.code) ++ [(blocked.map Prod.snd).getD 0]
    ++ uEnum? (rm.closing.map Closing.code) ++ [rm.generation] ++ u8 rm.liveKeys ++ u16 rm.label.toNat
    ++ uNode? rm.doorNode ++ uNode? rm.minibarNode ++ u16? (rm.pairing.map fun p => p.room.val)
    ++ uNode? (rm.pairing.map Pairing.node) ++ u16? (rm.folio.map Fin.val)
    ++ u16? (rm.movedFrom.map fun m => m.source.val) ++ [(rm.movedFrom.map MovedFrom.generation).getD 0]
    ++ u8 (bit 0 rm.privacy + bit 1 rm.makeup + bit 2 (s.charge.sessionOfRoom r).isSome + bit 3 rm.lastEntry.isSome
      + bit 4 blocked.isSome)
    ++ u8 rm.door.code ++ u32? rm.lastEntry

/-- READ FOLIO in its 18 bytes (Table 12-11). -/
def State.folioRecord (s : State) (f : FolioIx) : List Byte :=
  let x := s.folio f
  u8 f ++ u8 x.state.code ++ u8 x.rooms.length ++ ([0, 1, 2, 3].map fun i => u16? (x.rooms[i]?.map Fin.val)).flatten
    ++ u16 x.allowance ++ u16 x.spent ++ u8 x.pendingLines ++ uEnum? (x.state.cause.map HoldCause.code)
    ++ u8 (s.charge.sessionsOf f)

/-- The class of a node (Table 5-1). -/
def NodeConfig.cls : NodeConfig → Option Nat
  | .commonDoor c _ => some c.val
  | .minibar _ c => some c.val
  | _ => Option.none

/-- The passage windows of a node (Table 5-1). -/
def NodeConfig.windows : NodeConfig → List Window
  | .commonDoor _ ws => ws
  | _ => []

/-- One of the two window places of READ NODE; an unused window reads 0. -/
def windowBytes : Option Window → List Byte
  | some w => u16 w.start ++ u16 w.stop
  | none => [0, 0, 0, 0]

/-- Whole seconds until an expiry, rounded up (Table 12-12). -/
def secondsUntil (elapsed expiry : Nat) : Nat := (expiry - elapsed + (Config.crystalHz - 1)) / Config.crystalHz

/-- The holder of a grant: its kind and its number (Table 12-12). -/
def Holder.bytes : Holder → List Byte
  | .key k => u8 0 ++ u16 k
  | .slot k => u8 1 ++ u16 k
  | .none => [2, 0xFF, 0xFF]

/-- READ NODE in its 33 bytes (Table 12-12). -/
def State.nodeRecord (s : State) (n : NodeAddr) : List Byte :=
  let nd := s.node n
  let windows := nd.config.windows
  uNode n ++ u8 nd.config.code ++ u16? (nd.config.room.map Fin.val) ++ u8 nd.zone.val ++ uEnum? nd.config.cls
    ++ u8 nd.heldOpenLimit ++ u8 windows.length ++ windowBytes windows[0]? ++ windowBytes windows[1]?
    ++ u8 nd.link.code ++ u8 nd.missed
    ++ u8 (bit 0 nd.modePending + bit 1 nd.lampPending + bit 2 nd.inside + bit 3 nd.latch + bit 4 nd.grant.isSome
      + bit 5 nd.heldOpen.isSome)
    ++ u8 nd.mode.name.code ++ uEnum? (nd.mode.kept.map fun k => k.mode.name.code) ++ u8 nd.door.code
    ++ u32? (nd.grant.map Grant.time) ++ (nd.grant.map fun g => g.holder.bytes).getD [0xFF, 0xFF, 0xFF]
    ++ u16 ((nd.heldOpen.map fun t => secondsUntil s.supply.elapsed t.expiry).getD 0)
    ++ u8 (s.line n.line).state.code

/-- A profile's flags byte: bits 0 to 6 in Table 3-1 order. -/
def Profile.flags (p : Profile) : Nat :=
  bit 0 p.enterOccupied + bit 1 p.enterVacant + bit 2 p.makeupOnly + bit 3 p.overridePrivacy + bit 4 p.overrideBlock
    + bit 5 p.restock + bit 6 p.clockless

/-- READ PROFILE in its 9 bytes (12.5). -/
def Profile.bytes (k : Fin 16) (p : Profile) : List Byte :=
  u8 k.val ++ [p.kinds, p.classes, p.days] ++ u16 p.windowFrom ++ u16 p.windowUntil ++ u8 p.flags

/-! ### Other returned data (log entry 8) -/

/-- A presence byte and four bytes. -/
def uPresent (w : Option (BitVec 32)) : List Byte := uFlag w.isSome ++ u32? w

/-- A time that may be absent and may carry the clock-unset mark. That it is a mask byte, bit 0 present and bit 7 the mark, before four
bytes, which read 0 where the time is absent or marked, is the model's choice, log entry 8. -/
def uStamp? (t : Option Stamp) : List Byte :=
  u8 (bit 0 t.isSome + bit 7 (decide (t = some none))) ++ u32? (t.bind id)

/-- READ WATCH: each entry's identity, action and origin, then the number held (R58). -/
def watchBytes (ws : List WatchEntry) : List Byte :=
  (ws.map fun w => u64 w.card ++ u8 w.action.code ++ u8 w.origin.code).flatten ++ u16 ws.length

/-- A session's fields in the order of R122. -/
def Session.bytes (x : Session) : List Byte :=
  u8 x.state.code ++ u16 x.room ++ uNode x.node ++ u16 x.key ++ u16? (x.folio.map Fin.val) ++ uFlag x.folio.isNone
    ++ u16 x.reserved ++ u16 x.linesMade ++ u32 x.time ++ uFlag x.limitNoticed

/-- READ SESSIONS: the sessions, their number, the reserved total (R122). That the sessions come in the order of their creation is the
model's choice, log entry 41. -/
def sessionsBytes (c : ChargeUnit) : List Byte :=
  (c.sessions.map Session.bytes).flatten ++ u16 c.sessions.length ++ u16 c.reservedTotal

/-- Code of a scan job's kind (Table 2-3). -/
def ScanJob.code : ScanJob → Nat
  | .revokeRoom _ _ _ => 0
  | .replace _ _ => 1
  | .rebind _ _ _ _ => 2
  | .expiry => 3

/-- The rooms of a job as KEY COUNTS gives them (R35). -/
def ScanJob.rooms : ScanJob → Option RoomIx × Option RoomIx
  | .revokeRoom r _ _ => (some r, none)
  | .replace r _ => (some r, none)
  | .rebind source target _ _ => (some source, some target)
  | .expiry => (none, none)

/-- The running job: the head of the Scan Queue while a walk runs (R36, R37). -/
def KeyRegister.running (k : KeyRegister) : Option ScanJob := if k.walk.isSome then k.scanQueue.head? else none

/-- The number of entries in a state, by its code (Table 2-1). -/
def KeyRegister.countOf (k : KeyRegister) (code : Nat) : Nat :=
  k.entries.count fun e => decide ((e.map fun e => e.standing.code).getD 0 = code)

/-- KEY COUNTS (R35). That the next index reads FFFFh while no walk runs, and that the running job's rooms always take two places, an
unused one FFFFh, is the model's choice, log entry 8: Table 12-1 has no absent form of a key index. -/
def keyCountsBytes (k : KeyRegister) : List Byte :=
  ([0, 1, 2, 3, 4].map fun c => u16 (k.countOf c)).flatten ++ u16 k.retired.length ++ u16 k.sum ++ uFlag k.lowArmed
    ++ u16 k.scanQueue.length ++ uEnum? (k.running.map ScanJob.code)
    ++ u16? ((k.running.bind fun j => j.rooms.1).map Fin.val) ++ u16? ((k.running.bind fun j => j.rooms.2).map Fin.val)
    ++ u16? (k.walk.map Fin.val)

/-- The number of a line's configured nodes in a link state (R109). -/
def State.linkCount (s : State) (l : LineIx) (k : Link) : Nat :=
  (tget s.nodes l).count fun nd => nd.config.configured && decide (nd.link = k)

/-- READ LINE (R109). That the rotation position, a bare address, is one byte is the model's choice, log entry 8. -/
def State.lineBytes (s : State) (l : LineIx) : List Byte :=
  let ln := s.line l
  u8 ln.state.code ++ u16 ln.verdicts.length ++ u16 (s.outstanding l) ++ uFlag ln.busy.isSome ++ u16 (s.configuredCount l)
    ++ u16 (s.linkCount l .unpolled) ++ u16 (s.linkCount l .online) ++ u16 (s.linkCount l .offline)
    ++ u8 ln.rotation.val ++ u16 ln.silent ++ u16 ln.missedTotal ++ u16 ln.badTotal

/-- READ LAMPS (R171). That a lamp set is one byte with the bits of the LAMPS payload, an absent last sent FFh, the half-period its
multiplier in one byte, the sweep state coded IDLE 0, MARKING 1, DRAINING 2 and the sweep kind TOGGLE 0, FULL 1, and that the
lamp-pending mark of a room without a door node reads FFh in its one byte, is the model's choice, log entry 8. -/
def State.lampsBytes (s : State) (r : RoomIx) : List Byte :=
  let u := s.lamps
  let e := s.lamp r
  let sweep : Nat × Option SweepKind := match u.sweep with
    | .idle => (0, none)
    | .marking k _ => (1, some k)
    | .draining k => (2, some k)
  u8 e.primary.bits ++ u8 e.alternate.bits ++ u8 e.blinkSelect.bits ++ uEnum? (e.lastSent.map LampSet.bits)
    ++ u8 (s.displayed r).bits ++ uEnum? ((s.room r).doorNode.map fun n => (s.node n).lampPending.toNat)
    ++ u8 u.mode.code ++ u8 u.multiplier ++ uFlag u.dark ++ uFlag (!u.phaseOn)
    ++ u8 sweep.1 ++ uEnum? (sweep.2.map SweepKind.code) ++ u16 u.outstanding.length
    ++ u8 (match u.pendingStart with | none => 0 | some .toggle => 1 | some .full => 2)

/-- The next block of a FILLING segment (Table 7-4). -/
def SegState.next : SegState → Option Nat
  | .filling n => some n
  | _ => none

/-- A directory entry in JOURNAL STATUS (R157). -/
def Segment.bytes (g : Segment) : List Byte :=
  u8 g.state.code ++ uFlag g.guard ++ u8 g.hold.code ++ uFlag g.holdPending ++ uPresent g.first ++ uPresent g.last

/-- JOURNAL STATUS (R157). That JAMMED stands as FFh in place of the FILLING segment and of its next block, and that without an erase its
segment reads FFh and its count 0, is the model's choice, log entry 8. -/
def journalBytes (j : Journal) : List Byte :=
  uEnum? (j.fillingAt.map Fin.val) ++ uEnum? (j.fillingAt.bind fun g => (tget j.segments g).state.next)
    ++ (j.segments.toList.map Segment.bytes).flatten
    ++ u8 j.arrayStatus ++ uEnum? (j.erase.map fun e => e.segment.val) ++ u16 ((j.erase.map Erase.suspensions).getD 0)
    ++ u16 j.staged.length ++ u16 j.waiting ++ uFlag j.flush.isSome ++ u16 j.marks.length
    ++ u32 j.droppedRoutine ++ u32 j.droppedPriority ++ u32 j.overrun ++ u32 j.nextSeq ++ uPresent j.collected
    ++ u32 j.cursor ++ uFlag j.cursorLost

/-- READ CLOCK: state, value, clock-unset mark, minute-of-day and day number while RUNNING (R191). That the clock state is coded UNSET 0,
RUNNING 1, and that the minute reads FFFFh and the day FFh while the clock is UNSET, is the model's choice, log entry 8. -/
def clockBytes (c : Supply) : List Byte :=
  uFlag c.clockRunning ++ u32 c.counter ++ uFlag (!c.clockRunning)
    ++ u16? (if c.clockRunning then some (minuteOfDay c.counter) else none)
    ++ uEnum? (if c.clockRunning then some (dayNumber c.counter) else none)

/-- READ EMERGENCY KEY (R197): a slot being programmed is still BLANK. -/
def EmergencySlot.bytes : EmergencySlot → List Byte
  | .blank => u8 0
  | .written card zones => u8 1 ++ u64 card ++ u16 zones.toNat
  | .frozen card zones => u8 2 ++ u16 zones.toNat ++ u16 (card.toNat % 65536) ++ uFlag true

/-- The journal summary as PART STATUS returns it, in the order of R180: JAMMED, staged count, overrun above 0. That it is laid out by
12.2, and not as the status block of Table 12-2 packs the same items, is the model's choice, log entry 8. -/
def journalSummary (j : Journal) : List Byte := uFlag j.jammed ++ u16 j.staged.length ++ uFlag (decide (j.overrun ≠ 0))

/-- PART STATUS (R198). That the power state, the condition of the cell and the kind of the last start are coded in the order of R198's
words (RUN 0; GOOD 0, LOW 1; COLD 0, WARM 1) and the clock state UNSET 0, RUNNING 1, and the mask bytes before the two times (uStamp?), is
the model's choice, log entry 8. -/
def State.partBytes (s : State) : List Byte :=
  u8 s.supply.power.ctorIdx ++ u8 s.supply.cell.ctorIdx ++ u8 s.supply.lastStart.ctorIdx ++ u16 s.supply.warmRestarts
    ++ uStamp? s.supply.lastLoss ++ uStamp? s.supply.lastReturn
    ++ uFlag s.supply.clockRunning ++ u32 s.supply.counter ++ uFlag (!s.supply.clockRunning)
    ++ (s.emergency.slots.toList.map fun x => u8 x.code).flatten
    ++ (s.lines.toList.map fun ln => u8 ln.state.code).flatten
    ++ u16 s.keys.scanQueue.length ++ u16 s.verdict.queue.length ++ u16 s.charge.sessions.length ++ u16 s.charge.queue.length
    ++ journalSummary s.journal

/-! ### Answers of status and result frames -/

/-- Code of a port state (Table 12-2). -/
def PortPhase.code : PortPhase → Nat
  | .idle => 0
  | .working _ => 1
  | .done => 2

/-- The status block (Table 12-2). -/
def State.statusBlock (s : State) (p : Port) : List Byte :=
  let q := s.port p
  u8 q.phase.code
    ++ u8 (bit 0 q.refusal + 2 * q.restart.ctorIdx + bit 3 (s.att p).output + bit 4 s.supply.clockRunning
      + bit 5 s.journal.jammed + bit 6 (decide (s.journal.overrun ≠ 0)))
    ++ [q.tag] ++ uEnum? (q.result.map fun r => r.code.code) ++ u8 s.journal.staged.length

/-- The result frame's answer (Table 12-3). -/
def PortRec.resultBytes (q : PortRec) : List Byte :=
  match q.result with
  | some r => [q.tag, r.command.getD 0xFF] ++ u8 r.code.code ++ u16 r.data.length ++ r.data
  | none => [q.tag, 0xFF, 0xFF, 0, 0]

end Sys2Proof.Machine
end

