-- ==== Sys2Proof/Machine/Charges.lean ====
section
/-! DEFINITION. The Charge Unit (chapter 6): folios, minibar sessions, prices and the Charge Queue. -/

namespace Sys2Proof.Machine

/-! ### Folios (R112 to R118) -/

/-- OPEN FOLIO (R114). -/
def openFolio (f : FolioIx) (s : State) : Owned :=
  if (s.folio f).state ≠ .free then refuse .state s
  else accept [] (s.modFolio f fun _ => { state := .opened, rooms := [], allowance := 0, spent := 0, pendingLines := 0 })

/-- OPEN FOLIO. -/
def execOpenFolio (port : Port) (params : List Byte) (s : State) : Host.Outcome State Fault Refusal :=
  .next (takeCommand .openFolio port params parseFolio openFolio s)

/-- A folio is OPEN or HELD. -/
def FolioState.inUse : FolioState → Bool
  | .opened => true
  | .held _ => true
  | _ => false

/-- CLOSE FOLIO (R115). -/
def closeFolio (f : FolioIx) (s : State) : Owned :=
  if (s.folio f).state.inUse = false ∨ (s.folio f).rooms.any fun r => (s.room r).stayInProgress then refuse .state s
  else accept [] (settleFolio f (s.modFolio f fun x => { x with state := .closing }))

/-- CLOSE FOLIO. -/
def execCloseFolio (port : Port) (params : List Byte) (s : State) : Host.Outcome State Fault Refusal :=
  .next (takeCommand .closeFolio port params parseFolio closeFolio s)

/-- READ FOLIO (R112). -/
def readFolio (f : FolioIx) (s : State) : Owned := accept (s.folioRecord f) s

/-- READ FOLIO. -/
def execReadFolio (port : Port) (params : List Byte) (s : State) : Host.Outcome State Fault Refusal :=
  .next (takeCommand .readFolio port params parseFolio readFolio s)

/-- The state of a folio whose allowance becomes `allowance` (R117). -/
def Folio.withAllowance (x : Folio) (allowance : Nat) : FolioState :=
  match x.state with
  | .opened => if allowance ≤ x.spent then .held .allowance else .opened
  | .held .allowance => if x.spent < allowance then .opened else .held .allowance
  | other => other

/-- SET ALLOWANCE (R117). -/
def setAllowance (a : FolioIx × Nat) (s : State) : Owned :=
  let (f, allowance) := a
  let x := s.folio f
  if x.state.inUse = false then refuse .state s
  else
    let set := s.modFolio f fun x => { x with allowance := allowance, state := x.withAllowance allowance }
    accept [] (if x.state = .opened ∧ allowance ≤ x.spent then raise .charge .folioHeld set else set)

/-- SET ALLOWANCE. -/
def execSetAllowance (port : Port) (params : List Byte) (s : State) : Host.Outcome State Fault Refusal :=
  .next (takeCommand .setAllowance port params parseSetAllowance setAllowance s)

/-- HOLD FOLIO (R118). -/
def holdFolio (f : FolioIx) (s : State) : Owned :=
  if (s.folio f).state.inUse = false then refuse .state s
  else accept [] (s.modFolio f fun x => { x with state := .held .manual })

/-- HOLD FOLIO. -/
def execHoldFolio (port : Port) (params : List Byte) (s : State) : Host.Outcome State Fault Refusal :=
  .next (takeCommand .holdFolio port params parseFolio holdFolio s)

/-- RELEASE FOLIO (R118). -/
def releaseFolio (f : FolioIx) (s : State) : Owned :=
  if (s.folio f).state.cause = none then refuse .state s
  else accept [] (s.modFolio f fun x => { x with state := .opened })

/-- RELEASE FOLIO. -/
def execReleaseFolio (port : Port) (params : List Byte) (s : State) : Host.Outcome State Fault Refusal :=
  .next (takeCommand .releaseFolio port params parseFolio releaseFolio s)

/-! ### Opening a minibar (R119 to R122) -/

/-- Conditions 1 to 4 of R120 on a guest key at the minibar of room r. -/
def State.guestMinibarTest (s : State) (e : KeyEntry) (r : RoomIx) : Option Reason :=
  let rm := s.room r
  if !e.bindings.any fun b => decide (b.room = r) && s.isCurrent b then some .stale
  else if rm.isBlocked then some .blocked
  else if rm.phase ≠ .occupied then some .roomState
  else match rm.folio.map s.folio with
    | none => some .folio
    | some x =>
      match x.state with
      | .held .allowance => some .allowance
      | .opened => if x.spent < x.allowance then none else some .allowance
      | _ => some .folio

/-- Conditions 5 and 6 of R120, which are those of R121: no session for the room, and fewer than 16 sessions. -/
def ChargeUnit.sessionTest (c : ChargeUnit) (r : RoomIx) : Option Reason :=
  if (c.sessionOfRoom r).isSome then some .sessionOpen
  else if Config.sessionMax ≤ c.sessions.length then some .sessionsFull
  else none

/-- A session created by a GRANT, in OPENING state (R122). A charged session has the room's folio and a reservation of 4. -/
def State.newSession (s : State) (r : RoomIx) (n : NodeAddr) (k : KeyIx) (restock : Bool) : Session :=
  { state := .opening, room := r, node := n, key := k, folio := if restock then none else (s.room r).folio,
    reserved := if restock then 0 else Config.reservation, linesMade := 0, time := s.nowOrZero, limitNoticed := false,
    limitAt := none }

/-- A session joins the Minibar Session Table. -/
def addSession (x : Session) (s : State) : State :=
  { s with charge := { s.charge with sessions := s.charge.sessions ++ [x] } }

/-- The reason for which the Charge Unit denies a key at a minibar, none where it grants (R119 to R121). `restock` is the
restock flag of a staff key's profile. -/
def State.minibarRefusal (s : State) (n : NodeAddr) (r : RoomIx) (e : KeyEntry) (restock : Bool) : Option Reason :=
  if (s.room r).minibarNode ≠ some n then some .kind
  else if e.isGuest then
    ((s.guestMinibarTest e r).or (s.charge.sessionTest r)).or
      (if s.charge.freeSpace < Config.reservation then some .chargesFull else none)
  else if restock then s.charge.sessionTest r
  else some .kind

/-! ### The life of a session (R124 to R126) -/

/-- A session's row is replaced by a new form of it. -/
def putSession (x : Session) (s : State) : State :=
  { s with charge := { s.charge with sessions := s.charge.sessions.map fun y => if y.room = x.room then x else y } }

/-- The detail of MINIBAR_OPEN: the folio number, or FFFFh for a restock session (R124). -/
def folioDetail : Option FolioIx → BitVec 16
  | some f => BitVec.ofNat 16 f.val
  | none => 0xFFFF

/-- A session once opened: OPEN, with the opening's arrival time and the open limit of 600 s started (R124). -/
def Session.openedAt (x : Session) (arrival : Stamp) (elapsed : Nat) : Session :=
  { x with state := .opened, time := arrival.getD 0, limitAt := some (elapsed + Config.openLimit) }

/-- A session in OPENING state becomes OPEN, with its MINIBAR_OPEN record; an OPEN session stands (R124). -/
def openSession (x : Session) (arrival : Stamp) (s : State) : State :=
  if x.state = .opened then s
  else offer
    { kind := .minibarOpen, cls := .routine, time := arrival, node := some x.node, room := some x.room, key := some x.key,
      detail := folioDetail x.folio }
    (putSession (x.openedAt arrival s.supply.elapsed) s)

/-- An OPENED event at a minibar node, as the Charge Unit takes it (R124). -/
def minibarOpened (n : NodeAddr) (arrival : Stamp) (s : State) : State :=
  match s.charge.sessionAt n with
  | some x => openSession x arrival s
  | none => s

/-- A CLOSED event at a minibar node, as the Charge Unit takes it (R125). -/
def minibarClosed (n : NodeAddr) (arrival : Stamp) (s : State) : State :=
  match s.charge.sessionAt n with
  | some x => endSession x (offer
      { kind := .minibarClose, cls := .routine, time := arrival, node := some n, room := some x.room, key := some x.key,
        detail := BitVec.ofNat 16 x.linesMade } s)
  | none => s

/-- The grant window at a minibar node has expired unused (R126): a session in OPENING state is discarded. -/
def minibarUnused (n : NodeAddr) (s : State) : State :=
  match s.charge.sessionAt n with
  | some x => if x.state = .opening then endSession x s else s
  | none => s

/-- The open limit of the session at a node expires (R124). -/
def expireOpenLimit (n : NodeAddr) (s : State) : State :=
  match s.charge.sessionAt n with
  | some x =>
    let stopped := putSession { x with limitAt := none, limitNoticed := true } s
    if x.state = .opened ∧ x.limitNoticed = false then
      offer { kind := .minibarHeld, cls := .notice, time := s.now, node := some n, room := some x.room } stopped
    else stopped
  | none => s

/-! ### Tray events (R128 to R130) -/

/-- The detail of a tray record: slot in bits 0 to 4, kind in bit 8 (Table 12-7). -/
def trayDetail (slot : TraySlot) (kind : TrayKind) : BitVec 16 := BitVec.ofNat 16 (slot.val + 256 * kind.code)

/-- The price of a slot at the minibar class of a node (R128, R131). -/
def State.priceAt (s : State) (n : NodeAddr) (slot : TraySlot) : Nat :=
  match (s.node n).config with
  | .minibar _ c => tget (tget s.charge.prices c) slot
  | _ => 0

/-- Spent after a line (R129): it stops at 65,535 and at 0. -/
def spentAfter (spent price : Nat) : TrayKind → Nat
  | .taken => min (spent + price) 65535
  | .returned => spent - price

/-- A folio after one of its lines is made (R128, R129). -/
def Folio.charged (x : Folio) (price : Nat) (kind : TrayKind) : Folio :=
  let spent := spentAfter x.spent price kind
  { x with
    pendingLines := x.pendingLines + 1
    spent := spent
    state := if kind = .taken ∧ x.state = .opened ∧ x.allowance ≤ spent then .held .allowance else x.state }

/-- A session after one of its lines or, for restock, tray events (R128, R130). -/
def Session.counted (x : Session) : Session :=
  { x with reserved := x.reserved - 1, linesMade := min (x.linesMade + 1) 65535 }

/-- A charge line is appended with the next line number (R132). -/
def appendLine (f : FolioIx) (x : Session) (slot : TraySlot) (kind : TrayKind) (price : Nat) (arrival : Stamp) (s : State) :
    State :=
  { s with charge := { s.charge with
    queue := s.charge.queue ++
      [{ number := s.charge.nextLine, folio := f, room := x.room, slot := slot, kind := kind, price := price, time := arrival }]
    nextLine := s.charge.nextLine + 1 } }

/-- A charge line is made (R128, R129, R132). -/
def makeLine (f : FolioIx) (x : Session) (slot : TraySlot) (kind : TrayKind) (arrival : Stamp) (s : State) : State :=
  let price := s.priceAt x.node slot
  let old := s.folio f
  let lined := (putSession x.counted (appendLine f x slot kind price arrival s)).modFolio f fun y => y.charged price kind
  let waited := if s.charge.queue = [] then raise .charge .chargeWaiting lined else lined
  if (lined.folio f).state = old.state then waited else raise .charge .folioHeld waited

/-- A tray event that finds no charge space (R128 step 3). -/
def unbilled (f : FolioIx) (x : Session) (slot : TraySlot) (kind : TrayKind) (arrival : Stamp) (s : State) : State :=
  raise .charge .unbilled
    ((offer
      { kind := .unbilled, cls := .alarm, time := arrival, node := some x.node, room := some x.room, key := some x.key,
        detail := trayDetail slot kind } s).modFolio f fun y =>
      { y with state := if y.state.inUse then .held .unbilled else y.state })

/-- A tray event of a session that is OPEN (R128, R130). -/
def sessionTray (x : Session) (slot : TraySlot) (kind : TrayKind) (arrival : Stamp) (s : State) : State :=
  match x.folio with
  | some f =>
    if 0 < x.reserved ∨ 0 < s.charge.freeSpace then makeLine f x slot kind arrival s
    else unbilled f x slot kind arrival s
  | none =>
    offer
      { kind := .restock, cls := .routine, time := arrival, node := some x.node, room := some x.room, key := some x.key,
        detail := trayDetail slot kind } (putSession x.counted s)

/-- A TRAY event at a MINIBAR node (R124, R128, R130). -/
def minibarTray (n : NodeAddr) (slot : TraySlot) (kind : TrayKind) (arrival : Stamp) (s : State) : State :=
  match s.charge.sessionAt n with
  | some x =>
    let openX := if x.state = .opened then x else x.openedAt arrival s.supply.elapsed
    sessionTray openX slot kind arrival (openSession x arrival s)
  | none =>
    offer
      { kind := .trayUnexpected, cls := .alarm, time := arrival, node := some n, room := (s.node n).config.room,
        detail := trayDetail slot kind } s

/-! ### Prices, the Charge Queue and sessions by command (R122, R131 to R134) -/

/-- A row of prices written from a first slot on (R131). -/
def writeRow (row : Table Nat 5) (first : Nat) (prices : List Nat) : Table Nat 5 :=
  tmap 32 row fun k old => if first ≤ k.val then (prices[k.val - first]?).getD old else old

/-- WRITE PRICES (R131). -/
def writePrices (a : Fin 4 × Fin 32 × List Nat) (s : State) : Owned :=
  let (cls, first, prices) := a
  if 32 < first.val + prices.length then refuse .badParam s
  else accept [] { s with charge := { s.charge with
    prices := tmod s.charge.prices cls fun row => writeRow row first prices } }

/-- WRITE PRICES. -/
def execWritePrices (port : Port) (params : List Byte) (s : State) : Host.Outcome State Fault Refusal :=
  .next (takeCommand .writePrices port params parseWritePrices writePrices s)

/-- READ PRICES (R131). -/
def readPrices (cls : Fin 4) (s : State) : Owned := accept ((tget s.charge.prices cls).toList.map u16).flatten s

/-- READ PRICES. -/
def execReadPrices (port : Port) (params : List Byte) (s : State) : Host.Outcome State Fault Refusal :=
  .next (takeCommand .readPrices port params parseClass readPrices s)

/-- PEEK CHARGES (R133). -/
def peekCharges (count : Nat) (s : State) : Owned :=
  accept (((s.charge.queue.take count).map ChargeLine.bytes).flatten ++ u16 s.charge.queue.length
    ++ u16 s.charge.reservedTotal ++ u16 s.charge.freeSpace) s

/-- PEEK CHARGES: a count of 1 to 8. -/
def execPeekCharges (port : Port) (params : List Byte) (s : State) : Host.Outcome State Fault Refusal :=
  .next (takeCommand .peekCharges port params (fun ps => countAt 1 8 ps 0) peekCharges s)

/-- A line leaves the Charge Queue: its folio's pending lines fall by one, and a CLOSING folio is tested (R134). -/
def lineTaken (s : State) (c : ChargeLine) : State :=
  settleFolio c.folio (s.modFolio c.folio fun x => { x with pendingLines := x.pendingLines - 1 })

/-- The line numbers of the first and the last line removed, when one was (R134). -/
def takenNumbers (lines : List ChargeLine) : List Byte :=
  match lines.head?, lines.getLast? with
  | some a, some b => u16 a.number.toNat ++ u16 b.number.toNat
  | _, _ => []

/-- TAKE CHARGES (R134). -/
def takeCharges (count : Nat) (s : State) : Owned :=
  let lines := s.charge.queue.take count
  let rest := s.charge.queue.drop count
  let taken := lines.foldl lineTaken { s with charge := { s.charge with queue := rest } }
  accept (u16 lines.length ++ takenNumbers lines)
    (if rest = [] ∧ lines ≠ [] then withdraw .charge .chargeWaiting taken else taken)

/-- TAKE CHARGES: a count of 1 to 128. -/
def execTakeCharges (port : Port) (params : List Byte) (s : State) : Host.Outcome State Fault Refusal :=
  .next (takeCommand .takeCharges port params (fun ps => countAt 1 128 ps 0) takeCharges s)

/-- READ SESSIONS (R122). -/
def readSessions (_ : Unit) (s : State) : Owned := accept (sessionsBytes s.charge) s

/-- READ SESSIONS. -/
def execReadSessions (port : Port) (params : List Byte) (s : State) : Host.Outcome State Fault Refusal :=
  .next (takeCommand .readSessions port params parseNothing readSessions s)

end Sys2Proof.Machine
end

