-- ==== Sys2Proof/Machine/Keys.lean ====
section
/-! DEFINITION. The Key Register (chapter 2): commands on keys, scans, the lookup service and the claims of the Verdict Engine. -/

namespace Sys2Proof.Machine

/-! ### Issuing keys (R23 to R26) -/

/-- The card is held by a LIVE or SUSPENDED entry (R24, R26). -/
def State.heldInService (s : State) (card : CardId) : Bool := (s.findCard card).any fun x => x.2.standing.inService

/-- Check 1 of R24: a room appears twice, or valid until is not greater than valid from. -/
def GuestIssue.inconsistent (a : GuestIssue) : Bool := !decide a.rooms.Nodup || !decide (a.validFrom < a.validUntil)

/-- Check 2 of R24 on one room: OCCUPIED, with no moved-from. -/
def Room.takesKeys (rm : Room) : Bool := decide (rm.phase = .occupied) && rm.movedFrom.isNone

/-- Check 4 of R24: no listed room would have more than 6 live keys. A NEW key's principal room is reckoned with a count of 1. -/
def State.issueWithinLimit (s : State) (a : GuestIssue) : Bool :=
  (if a.new then a.rooms.drop 1 else a.rooms).all fun r => decide ((s.room r).liveKeys + 1 ≤ Config.liveKeyMax)

/-- The refusal of ISSUE GUEST KEY, none where it is taken (R24). -/
def State.issueRefusal (s : State) (a : GuestIssue) : Option ResultCode :=
  if a.inconsistent then some .badParam
  else if !a.rooms.all fun r => (s.room r).takesKeys then some .state
  else if s.heldInService a.card then some .duplicate
  else if !s.issueWithinLimit a then some .limit
  else if (s.findForIssue a.card).isNone then some .tableFull
  else if a.new && s.scanFull then some .scanFull
  else none

/-- The start of a new set of keys by a NEW issue: the principal room's generation increments and a REPLACE job is queued
(R25). -/
def startNewSet (principal : RoomIx) (s : State) : State := pushJob (.replace principal .front) (bumpGeneration principal s)

/-- The entry that an issue writes, LIVE with both counts 0 and nothing of the previous key (R23). -/
def freshEntry (card : CardId) (body : KeyBody) (profile : Fin 16) (validFrom validUntil : HotelTime) (issuer : Port) :
    KeyEntry :=
  { card := card, body := body, standing := .live, profile := profile, validFrom := validFrom, validUntil := validUntil,
    presentations := 0, uses := 0, lastUse := none, issuer := issuer }

/-- ISSUE GUEST KEY once it has passed its checks, with the entry found and the principal room (R25). -/
def cutGuestKey (a : GuestIssue) (k : KeyIx) (principal : RoomIx) (s : State) : Owned :=
  let started := if a.new then startNewSet principal s else s
  let bindings := a.rooms.map fun r => (⟨r, (started.room r).generation⟩ : Binding)
  let written := rewriteEntry k (freshEntry a.card (.guest bindings) a.profile a.validFrom a.validUntil .front) started
  let counted := a.rooms.foldl (fun t r => addLive r t) written
  let generation := (started.room principal).generation
  accept (u16 k ++ [generation]) (offer
    { kind := .keyIssued, cls := .notice, time := s.now, key := some k, card := some a.card, room := some principal,
      detail := generation.setWidth 16 } counted)

/-- ISSUE GUEST KEY (R24, R25). -/
def issueGuestKey (a : GuestIssue) (s : State) : Owned :=
  match s.issueRefusal a, s.findForIssue a.card, a.rooms.head? with
  | none, some k, some principal => cutGuestKey a k principal s
  | some code, _, _ => refuse code s
  | none, _, _ => refuse .badParam s

/-- ISSUE GUEST KEY. -/
def execIssueGuestKey (port : Port) (params : List Byte) (s : State) : Host.Outcome State Fault Refusal :=
  .next (takeCommand .issueGuestKey port params parseGuestIssue (arbitrated issueGuestKey) s)

/-- ISSUE STAFF KEY (R26). -/
def issueStaffKey (a : StaffIssue) (s : State) : Owned :=
  if !decide (a.validFrom < a.validUntil) then refuse .badParam s
  else if s.heldInService a.card then refuse .duplicate s
  else match s.findForIssue a.card with
    | none => refuse .tableFull s
    | some k =>
      accept (u16 k) (offer
        { kind := .keyIssued, cls := .notice, time := s.now, key := some k, card := some a.card,
          detail := BitVec.ofNat 16 a.profile.val }
        (rewriteEntry k (freshEntry a.card (.staff a.zones) a.profile a.validFrom a.validUntil .service) s))

/-- ISSUE STAFF KEY. -/
def execIssueStaffKey (port : Port) (params : List Byte) (s : State) : Host.Outcome State Fault Refusal :=
  .next (takeCommand .issueStaffKey port params parseStaffIssue (arbitrated issueStaffKey) s)

/-! ### Changing a key's standing (R29 to R33) -/

/-- A command on the Front port finds an entry issued on the Service port (R29, R30). -/
def foreignKey (p : Port) (e : KeyEntry) : Bool := decide (p = .front) && decide (e.issuer = .service)

/-- REVOKE KEY (R29). -/
def revokeKey (p : Port) (card : CardId) (s : State) : Owned :=
  match s.findCard card with
  | none => refuse .noEntry s
  | some (k, e) =>
    if foreignKey p e ∨ e.standing.inService = false then refuse .state s
    else accept [] (retire k .revoked .manual none s)

/-- REVOKE KEY. -/
def execRevokeKey (port : Port) (params : List Byte) (s : State) : Host.Outcome State Fault Refusal :=
  .next (takeCommand .revokeKey port params parseCard (arbitrated (revokeKey port)) s)

/-- The Watch List can take the card: it is listed, or fewer than 8 entries are held (R30, R56). -/
def State.canWatch (s : State) (card : CardId) : Bool :=
  (s.watchOf card).isSome || decide (s.verdict.watch.length < Config.watchMax)

/-- A watch entry joins the list. -/
def joinWatch (w : WatchEntry) (s : State) : State :=
  { s with verdict := { s.verdict with watch := s.verdict.watch ++ [w] } }

/-- The card is watched with action ALERT and origin LOST, unless it is listed already (R30, R56). -/
def watchLost (card : CardId) (s : State) : State :=
  if (s.watchOf card).isSome then s else joinWatch ⟨card, .alert, .lost⟩ s

/-- REPORT LOST (R30). -/
def reportLost (p : Port) (card : CardId) (s : State) : Owned :=
  match s.findCard card with
  | none => if s.canWatch card then (watchLost card s, some ⟨.noEntry, []⟩) else refuse .watchFull s
  | some (k, e) =>
    if foreignKey p e then refuse .state s
    else
      let revoked := if e.standing.inService then retire k .revoked .lost none s else s
      if s.canWatch card then accept [] (watchLost card revoked) else (revoked, some ⟨.watchFull, []⟩)

/-- REPORT LOST. -/
def execReportLost (port : Port) (params : List Byte) (s : State) : Host.Outcome State Fault Refusal :=
  .next (takeCommand .reportLost port params parseCard (arbitrated (reportLost port)) s)

/-- SUSPEND KEY (R31). -/
def suspendKey (card : CardId) (s : State) : Owned :=
  match s.findCard card with
  | none => refuse .noEntry s
  | some (k, e) =>
    if e.standing ≠ .live then refuse .state s
    else accept [] ((s.countedRooms e).foldl (fun t r => dropLive r t) (s.setEntry k { e with standing := .suspended }))

/-- SUSPEND KEY. -/
def execSuspendKey (port : Port) (params : List Byte) (s : State) : Host.Outcome State Fault Refusal :=
  .next (takeCommand .suspendKey port params parseCard (arbitrated suspendKey) s)

/-- The target of the move for which a binding is held (R20, R32). -/
def State.moveTarget (s : State) (b : Binding) : Option RoomIx :=
  s.keys.scanQueue.findSome? fun j =>
    match j with
    | .rebind source target g _ => if source = b.room ∧ g = b.generation then some target else none
    | _ => none

/-- The number of LIVE entries that hold a binding (R32). -/
def State.liveHolders (s : State) (b : Binding) : Nat :=
  s.keys.entries.count fun e =>
    match e with
    | some e => decide (e.standing = .live) && e.bindings.contains b
    | none => false

/-- A binding does not stop a resume: a current binding's room has space for one more live key, and so has the target of the
move for which a binding is held, the LIVE holders of that binding included. Other stale bindings do not limit (R32). -/
def State.resumable (s : State) (b : Binding) : Bool :=
  match s.bindingMark b with
  | .current => decide ((s.room b.room).liveKeys + 1 ≤ Config.liveKeyMax)
  | .heldForMove =>
    (s.moveTarget b).all fun t => decide ((s.room t).liveKeys + s.liveHolders b + 1 ≤ Config.liveKeyMax)
  | .stale => true

/-- RESUME KEY (R32). -/
def resumeKey (card : CardId) (s : State) : Owned :=
  match s.findCard card with
  | none => refuse .noEntry s
  | some (k, e) =>
    if e.standing ≠ .suspended then refuse .state s
    else if !e.bindings.all s.resumable then refuse .limit s
    else
      let live := { e with standing := .live }
      accept [] ((s.countedRooms live).foldl (fun t r => addLive r t) (s.setEntry k live))

/-- RESUME KEY. -/
def execResumeKey (port : Port) (params : List Byte) (s : State) : Host.Outcome State Fault Refusal :=
  .next (takeCommand .resumeKey port params parseCard (arbitrated resumeKey) s)

/-- EXTEND KEY (R33). -/
def extendKey (a : CardId × HotelTime) (s : State) : Owned :=
  match s.findCard a.1 with
  | none => refuse .noEntry s
  | some (k, e) =>
    if e.issuer = .service ∨ e.standing.inService = false then refuse .state s
    else if !decide (e.validFrom < a.2) then refuse .badParam s
    else accept [] (s.setEntry k { e with validUntil := a.2 })

/-- EXTEND KEY. -/
def execExtendKey (port : Port) (params : List Byte) (s : State) : Host.Outcome State Fault Refusal :=
  .next (takeCommand .extendKey port params parseExtendKey (arbitrated extendKey) s)

/-! ### Room revocation and reading (R34, R35) -/

/-- REVOKE ROOM KEYS (R34). -/
def revokeRoomKeys (r : RoomIx) (s : State) : Owned :=
  if (s.room r).stayInProgress = false then refuse .state s
  else if s.scanFull then refuse .scanFull s
  else accept [] (pushJob (.revokeRoom r .manual .front) s)

/-- REVOKE ROOM KEYS. -/
def execRevokeRoomKeys (port : Port) (params : List Byte) (s : State) : Host.Outcome State Fault Refusal :=
  .next (takeCommand .revokeRoomKeys port params parseRoom (arbitrated revokeRoomKeys) s)

/-- READ KEY (R35). -/
def readKey (a : CardId ⊕ KeyIx) (s : State) : Owned :=
  match a with
  | .inr k => accept (s.keyRecord k) s
  | .inl card =>
    match s.findCard card with
    | some (k, _) => accept (s.keyRecord k) s
    | none => refuse .noEntry s

/-- READ KEY. -/
def execReadKey (port : Port) (params : List Byte) (s : State) : Host.Outcome State Fault Refusal :=
  .next (takeCommand .readKey port params parseReadKey (arbitrated readKey) s)

/-- KEY COUNTS (R35). -/
def keyCounts (_ : Unit) (s : State) : Owned := accept (keyCountsBytes s.keys) s

/-- KEY COUNTS. -/
def execKeyCounts (port : Port) (params : List Byte) (s : State) : Host.Outcome State Fault Refusal :=
  .next (takeCommand .keyCounts port params parseNothing (arbitrated keyCounts) s)

/-! ### Scans (R36 to R41) -/

/-- Where an entry stands in service, a judgement is made of it; FREE and retired entries are passed over (R37). -/
def judgeInService (k : KeyIx) (f : KeyEntry → State → State) (s : State) : State :=
  match s.entry k with
  | some e => if e.standing.inService then f e s else s
  | none => s

/-- An entry's bindings are replaced. -/
def setBindings (k : KeyIx) (e : KeyEntry) (bs : List Binding) (s : State) : State :=
  s.setEntry k { e with body := .guest bs }

/-- One step of a REVOKE_ROOM job (R38). -/
def judgeRevokeRoom (r : RoomIx) (reason : RetireReason) (k : KeyIx) (e : KeyEntry) (s : State) : State :=
  let removed := e.bindings.filter fun b => decide (b.room = r)
  let kept := e.bindings.filter fun b => decide (b.room ≠ r)
  if removed = [] then s
  else
    let cut := setBindings k e kept s
    let counted := if e.standing = .live ∧ removed.any s.isCurrent then dropLive r cut else cut
    if kept = [] then retire k .revoked reason (some r) counted else counted

/-- One step of a REPLACE job (R39). -/
def judgeReplace (r : RoomIx) (k : KeyIx) (e : KeyEntry) (s : State) : State :=
  let spent (b : Binding) : Bool := decide (s.bindingMark b = .stale)
  if !e.bindings.any fun b => decide (b.room = r) then s
  else if e.bindings.all spent then retire k .revoked .replaced none s
  else setBindings k e (e.bindings.filter fun b => !(decide (b.room = r) && spent b)) s

/-- One step of a REBIND job (R40). -/
def judgeRebind (source target : RoomIx) (g : BitVec 8) (k : KeyIx) (e : KeyEntry) (s : State) : State :=
  let kept := e.bindings.filter fun b => decide (b.room ≠ source)
  if e.bindings.contains ⟨source, g⟩ then rebindEntry k e ⟨source, g⟩ target s
  else if !e.bindings.any fun b => decide (b.room = source) then s
  else
    let cut := setBindings k e kept s
    if kept = [] then retire k .revoked .replaced none cut else cut

/-- One step of an EXPIRY job (R41). -/
def judgeExpiry (k : KeyIx) (e : KeyEntry) (s : State) : State :=
  if s.untilPassed e then retire k .expired .expired none s else s

/-- One step of a job (R37 to R41). -/
def judgeEntry (j : ScanJob) (k : KeyIx) (s : State) : State :=
  judgeInService k (fun e t =>
    match j with
    | .revokeRoom r reason _ => judgeRevokeRoom r reason k e t
    | .replace r _ => judgeReplace r k e t
    | .rebind source target g _ => judgeRebind source target g k e t
    | .expiry => judgeExpiry k e t) s

/-- The Room Table is told that a room's scan has completed (R6, R8). -/
def scanDoneAt (r : RoomIx) (s : State) : State := settleRoom r (s.modRoom r fun rm => { rm with closing := some .scanDone })

/-- A job completes: it leaves the queue, SCAN_DONE is raised for jobs other than EXPIRY, the Room Table is told (R37). -/
def finishJob (j : ScanJob) (s : State) : State :=
  let left := { s with keys := { s.keys with scanQueue := s.keys.scanQueue.drop 1, walk := none } }
  match j with
  | .revokeRoom r .checkout p => scanDoneAt r (raise p .scanDone left)
  | .revokeRoom _ _ p => raise p .scanDone left
  | .replace _ p => raise p .scanDone left
  | .rebind source target _ p =>
    scanDoneAt source ((raise p .scanDone left).modRoom target fun rm => { rm with movedFrom := none })
  | .expiry => left

/-- The walk goes on to an index. -/
def walkTo (k : Option KeyIx) (s : State) : State := { s with keys := { s.keys with walk := k } }

/-- SCAN JOB START (R37): an idle engine starts the job at the head. -/
def scanJobStart (s : State) : State :=
  if s.inRun ∧ s.keys.walk = none ∧ s.keys.scanQueue ≠ [] then walkTo (some 0) s else s

/-- SCAN JOB START. -/
def execScanJobStart (s : State) : Host.Outcome State Fault Refusal := .next (scanJobStart s)

/-- SCAN STEP (R37): one entry is judged, and the step at index 2,047 completes the job. The Verdict Engine's waiting claims are served
first (R45). -/
def scanStep (s : State) : State :=
  match s.inRun, s.keys.walk, s.keys.scanQueue with
  | true, some k, j :: _ =>
    let judged := judgeEntry j k (serveWaiting s)
    if h : k.val + 1 < 2048 then walkTo (some ⟨k.val + 1, h⟩) judged else finishJob j judged
  | _, _, _ => s

/-- SCAN STEP. -/
def execScanStep (s : State) : Host.Outcome State Fault Refusal := .next (scanStep s)

/-- The request for an EXPIRY job at a minute tick (R36): merged, appended or discarded. -/
def requestExpiry (s : State) : State :=
  if s.keys.scanQueue.contains .expiry ∨ s.scanFull then s else pushJob .expiry s

/-! ### The lookup service and the claims of the Verdict Engine (R42 to R45) -/

/-- The corrections of R42 on the entry found. -/
def correctEntry (k : KeyIx) (e : KeyEntry) (s : State) : State :=
  if e.standing = .live ∧ s.untilPassed e then retire k .expired .expired none s
  else if e.isGuest ∧ e.standing.inService ∧ (e.bindings.all fun b => decide (s.bindingMark b = .stale)) then
    retire k .revoked .replaced none s
  else s

/-- The lookup service (R44): the state its corrections leave, and the entry that holds the card, corrected, with its index. -/
def lookup (card : CardId) (s : State) : State × Option (KeyIx × KeyEntry) :=
  match s.findCard card with
  | none => (s, none)
  | some (k, e) =>
    let corrected := correctEntry k e s
    (corrected, (corrected.entry k).map fun e => (k, e))

/-- A claim is a use report. -/
def VeClaim.isUse : VeClaim → Bool
  | .use _ _ _ _ _ => true
  | .rebind _ _ _ _ _ => false

/-- The oldest waiting claim of a kind is served (R45, log entry 16). -/
def serveClaim (kind : VeClaim → Bool) (s : State) : State :=
  match s.inRun, s.keys.claims.find? kind with
  | true, some c => takeClaim c { s with keys := { s.keys with claims := s.keys.claims.eraseP kind } }
  | _, _ => s

/-- USE REPORT (R44). -/
def execUseReport (s : State) : Host.Outcome State Fault Refusal := .next (serveClaim VeClaim.isUse s)

/-- REBIND CLAIM (R43). -/
def execRebindClaim (s : State) : Host.Outcome State Fault Refusal := .next (serveClaim (fun c => !c.isUse) s)

end Sys2Proof.Machine
end

