-- ==== Sys2Proof/Machine/Profiles.lean ====
section
/-! DEFINITION. Profiles and the Watch List (chapter 3): their commands, and the tests made of a profile. -/

namespace Sys2Proof.Machine

/-! ### Commands (R48, R49, R57, R58) -/

/-- A guest profile that names STAFF_DOOR or sets a staff-profile field (R48). -/
def Profile.staffOnly (p : Profile) : Bool :=
  p.kinds.getLsbD 3 || p.enterOccupied || p.enterVacant || p.makeupOnly || p.overridePrivacy || p.overrideBlock || p.restock

/-- WRITE PROFILE (R48). -/
def writeProfile (a : Fin 16 × Profile) (s : State) : Owned :=
  if a.1.val < 4 ∧ a.2.staffOnly then refuse .badParam s
  else accept [] { s with verdict := { s.verdict with profiles := tset s.verdict.profiles a.1 a.2 } }

/-- WRITE PROFILE. -/
def execWriteProfile (port : Port) (params : List Byte) (s : State) : Host.Outcome State Fault Refusal :=
  .next (takeCommand .writeProfile port params parseProfile writeProfile s)

/-- READ PROFILE (R49). -/
def readProfile (k : Fin 16) (s : State) : Owned := accept ((s.profile k).bytes k) s

/-- READ PROFILE. -/
def execReadProfile (port : Port) (params : List Byte) (s : State) : Host.Outcome State Fault Refusal :=
  .next (takeCommand .readProfile port params parseProfileNumber readProfile s)

/-- WATCH ADD (R57). -/
def watchAdd (a : CardId × WatchAction) (s : State) : Owned :=
  if (s.watchOf a.1).isSome then refuse .duplicate s
  else if Config.watchMax ≤ s.verdict.watch.length then refuse .watchFull s
  else accept [] (joinWatch ⟨a.1, a.2, .service⟩ s)

/-- WATCH ADD. -/
def execWatchAdd (port : Port) (params : List Byte) (s : State) : Host.Outcome State Fault Refusal :=
  .next (takeCommand .watchAdd port params parseWatchAdd watchAdd s)

/-- WATCH REMOVE (R58). -/
def watchRemove (card : CardId) (s : State) : Owned :=
  if (s.watchOf card).isNone then refuse .noEntry s
  else accept [] { s with verdict := { s.verdict with watch := s.verdict.watch.filter fun w => decide (w.card ≠ card) } }

/-- WATCH REMOVE. -/
def execWatchRemove (port : Port) (params : List Byte) (s : State) : Host.Outcome State Fault Refusal :=
  .next (takeCommand .watchRemove port params parseCard watchRemove s)

/-- READ WATCH (R58). -/
def readWatch (_ : Unit) (s : State) : Owned := accept (watchBytes s.verdict.watch) s

/-- READ WATCH. -/
def execReadWatch (port : Port) (params : List Byte) (s : State) : Host.Outcome State Fault Refusal :=
  .next (takeCommand .readWatch port params parseNothing readWatch s)

/-! ### Tests of a profile (R50 to R54). A test answers the reason of its denial, none where it passes. -/

/-- The node-kind test and, at a COMMON_DOOR, the class test (R50). -/
def Profile.kindTest (p : Profile) (c : NodeConfig) : Option Reason :=
  match c.kindBit with
  | none => some .kind
  | some b =>
    if p.kinds.getLsbD b = false then some .kind
    else match c with
      | .commonDoor k _ => if p.classes.getLsbD k then none else some .kind
      | _ => none

/-- The zone test of a staff key; a guest key is not zone-tested (R50). -/
def zoneTest (e : KeyEntry) (zone : Fin 16) : Option Reason :=
  match e.zones with
  | some z => if inSet z zone then none else some .zone
  | none => none

/-- The day test and the window test on an arrival time (R51); they count as passed for an arrival with the clock-unset mark
(R52). -/
def Profile.timeTest (p : Profile) (arrival : Stamp) : Option Reason :=
  match arrival with
  | none => none
  | some t =>
    if p.days.getLsbD (dayNumber t) && inWindow p.windowFrom p.windowUntil (minuteOfDay t) then none else some .time

/-- A staff key's permission to enter a room (R53): the reason of its denial, or whether it is entered under make-up only. -/
def Profile.roomPermission (p : Profile) (rm : Room) : Except Reason Bool :=
  if rm.standsOccupied then
    if p.enterOccupied then .ok false
    else if p.makeupOnly then (if rm.makeup then .ok true else .error .makeup)
    else .error .roomState
  else if p.enterVacant then .ok false
  else .error .roomState

/-- The block and privacy tests (R54). -/
def Profile.overrideTest (p : Profile) (rm : Room) : Option Reason :=
  if rm.isBlocked && !p.overrideBlock then some .blocked
  else if rm.privacy && !p.overridePrivacy then some .privacy
  else none

end Sys2Proof.Machine
end

