-- ==== Sys2Proof/Machine/Verdicts.lean ====
section
/-! DEFINITION. The Verdict Engine's judgements (4.2 to 4.6): admission, the order of checks, and what a verdict does. -/

namespace Sys2Proof.Machine

/-! ### The Presentation Queue (R62) -/

/-- An offered presentation is admitted (R62). -/
def State.admits (s : State) (l : LineIx) : Bool :=
  decide (s.verdict.queue.length < Config.presentationMax) && decide (s.outstanding l < Config.outstandingMax)

/-- A presentation is offered (R62): admitted at the tail as WAITING, or refused with its record and a busy reply owed (R102). -/
def offerPresentation (n : NodeAddr) (side : Side) (card : CardId) (arrival : Stamp) (s : State) : State :=
  if s.admits n.line then
    { s with verdict := { s.verdict with
      queue := s.verdict.queue ++ [{ node := n, side := side, card := card, arrival := arrival, verdict := none }] } }
  else
    offer
      { kind := .entryDenied, cls := .routine, time := arrival, node := some n, card := some card,
        reason := some (.verdict .busy) }
      (s.modLine n.line fun ln => { ln with busy := some n.addr })

/-! ### What a judgement gathers and decides (R64 to R68) -/

/-- What a judgement has gathered (R64): the presentation, the node's record, the watch entry, the key entry found and corrected,
and the emergency slot consulted when none was found. -/
structure Gathered where
  seen : Presentation
  record : Node
  watch : Option WatchEntry
  found : Option (KeyIx × KeyEntry)
  slot : Option (Fin 4 × Set16)
deriving DecidableEq, Repr

/-- One side of a connecting door: its room and whether its test passed (R73 to R75). -/
structure SideTest where
  room : RoomIx
  passed : Bool
deriving DecidableEq, Repr

/-- A decided verdict with what follows from it: whether it counts a use (R44, R76), the two side tests of a paired connecting
door (R79), the move under which it was granted (R69), whether it was entered under make-up only (R53), and the minibar
session it makes (R72). -/
structure Decision where
  verdict : Verdict
  used : Bool
  sides : Option (SideTest × SideTest) := none
  move : Option (MovedFrom × RoomIx) := none
  makeupOnly : Bool := false
  session : Option Session := none
deriving DecidableEq, Repr

/-- A denial. -/
def deny (r : Reason) : Decision := { verdict := ⟨.deny, r⟩, used := false }

/-- A grant. -/
def grant (r : Reason) : Decision := { verdict := ⟨.grant, r⟩, used := true }

/-- The step at which a node's mode decides (R66), none where it does not. -/
def Gathered.modeVerdict (x : Gathered) : Option Decision :=
  match x.record.mode with
  | .normal => none
  | .passage => some (grant .passage)
  | .released _ => some (grant .released)
  | .secured => if x.slot.isSome then none else some (deny .secured)

/-- Step 4: the state of the entry (R67). -/
def KeyEntry.stateTest (e : KeyEntry) : Option Reason :=
  match e.standing with
  | .live => none
  | .suspended => some .suspended
  | .retired .revoked _ _ => some .revoked
  | .retired .expired _ _ => some .expired

/-- Steps 5 and 6: validity and clock (R67). -/
def KeyEntry.validityTest (e : KeyEntry) (p : Profile) (arrival : Stamp) : Option Reason :=
  match arrival with
  | some t => if t < e.validFrom then some .notYet else none
  | none => if p.clockless then none else some .clock

/-! ### Rules by node kind (R69 to R72) -/

/-- The entry holds a current binding to a room. -/
def State.boundTo (s : State) (e : KeyEntry) (r : RoomIx) : Bool :=
  e.bindings.any fun b => decide (b.room = r) && s.isCurrent b

/-- The move under which a key without a current binding passes at the target's door (R69). -/
def State.moveOf (s : State) (e : KeyEntry) (r : RoomIx) : Option MovedFrom :=
  match (s.room r).movedFrom with
  | some m => if !s.boundTo e r && e.bindings.contains ⟨m.source, m.generation⟩ then some m else none
  | none => none

/-- A guest key at a ROOM_DOOR of room r (R69). -/
def State.guestAtDoor (s : State) (e : KeyEntry) (r : RoomIx) : Decision :=
  let rm := s.room r
  let move := s.moveOf e r
  if !s.boundTo e r && move.isNone then deny .stale
  else if !(rm.stayInProgress && (decide (rm.phase = .occupied) || rm.closing.isNone)) then deny .roomState
  else if rm.isBlocked then deny .blocked
  else if rm.privacy then deny .privacy
  else { grant .key with move := move.map fun m => (m, r) }

/-- A staff key at a ROOM_DOOR of room r (R70). -/
def State.staffAtDoor (s : State) (p : Profile) (r : RoomIx) : Decision :=
  match p.roomPermission (s.room r), p.overrideTest (s.room r) with
  | .error why, _ => deny why
  | .ok _, some why => deny why
  | .ok makeupOnly, none => { grant .key with makeupOnly := makeupOnly }

/-- A binding admits its guest key at common doors (R71). -/
def State.commonBinding (s : State) (b : Binding) : Bool :=
  match s.bindingMark b with
  | .current => (s.room b.room).stayInProgress
  | .heldForMove => true
  | .stale => false

/-- A key at a COMMON_DOOR (R71). -/
def State.atCommonDoor (s : State) (e : KeyEntry) : Decision :=
  if e.isGuest && !e.bindings.any s.commonBinding then deny .stale else grant .key

/-- A key at the MINIBAR of room r (R72): the Charge Unit's answer, with the session its GRANT makes. -/
def State.atMinibar (s : State) (n : NodeAddr) (r : RoomIx) (k : KeyIx) (e : KeyEntry) (p : Profile) : Decision :=
  match s.minibarRefusal n r e p.restock with
  | some why => deny why
  | none => { grant .key with session := some (s.newSession r n k (!e.isGuest)) }

/-! ### Connecting doors (R73 to R76) -/

/-- The near and far rooms of a side at a CONNECT_DOOR (R73). -/
def State.nearFar (s : State) (n : NodeAddr) (roomA : RoomIx) (side : Side) : Option RoomIx × Option RoomIx :=
  match s.pairedRoom n roomA, side with
  | some roomB, .a => (some roomA, some roomB)
  | some roomB, .b => (some roomB, some roomA)
  | none, .a => (some roomA, none)
  | none, .b => (none, none)

/-- The near test of a key (R74). -/
def State.nearTest (s : State) (e : KeyEntry) (p : Profile) (near : RoomIx) : Bool :=
  if e.isGuest then s.boundTo e near
  else match p.roomPermission (s.room near) with
    | .ok _ => true
    | .error _ => false

/-- Two rooms have the same folio (R75). -/
def State.sharedFolio (s : State) (a b : RoomIx) : Bool :=
  (s.room a).folio.isSome && decide ((s.room a).folio = (s.room b).folio)

/-- The far test of a key (R75). -/
def State.farTest (s : State) (e : KeyEntry) (p : Profile) (near far : RoomIx) : Bool :=
  let rm := s.room far
  if e.isGuest then
    decide (rm.phase = .occupied) && !rm.privacy && (s.boundTo e far || (s.boundTo e near && s.sharedFolio near far))
  else match p.roomPermission rm with
    | .ok _ => (p.overrideTest rm).isNone
    | .error _ => false

/-- The verdict of the side tests: at a paired door both must pass (R76). -/
def sidesVerdict (near far : SideTest) (granted : Reason) : Decision :=
  { (if !near.passed then deny .nearSide else if !far.passed then deny .farSide else grant granted) with
    used := near.passed || far.passed
    sides := some (near, far) }

/-- A key at a CONNECT_DOOR (R73 to R76). -/
def State.atConnectDoor (s : State) (n : NodeAddr) (roomA : RoomIx) (side : Side) (e : KeyEntry) (p : Profile) : Decision :=
  match s.nearFar n roomA side with
  | (some near, some far) => sidesVerdict ⟨near, s.nearTest e p near⟩ ⟨far, s.farTest e p near far⟩ .key
  | (some near, none) => if s.nearTest e p near then grant .key else deny .nearSide
  | (none, _) => deny .nearSide

/-- An emergency card at a CONNECT_DOOR passes both tests (R68, R74 to R76). -/
def State.emergencyAtConnectDoor (s : State) (n : NodeAddr) (roomA : RoomIx) (side : Side) : Decision :=
  match s.nearFar n roomA side with
  | (some near, some far) => sidesVerdict ⟨near, true⟩ ⟨far, true⟩ .emergency
  | _ => grant .emergency

/-! ### The order of checks (R65) -/

/-- Step 8: the rule of the node's kind (4.4, 4.5). -/
def State.atNode (s : State) (x : Gathered) (k : KeyIx) (e : KeyEntry) (p : Profile) : Decision :=
  let n := x.seen.node
  match x.record.config with
  | .none => deny .kind
  | .roomDoor r => if e.isGuest then s.guestAtDoor e r else s.staffAtDoor p r
  | .connectDoor r => s.atConnectDoor n r x.seen.side e p
  | .commonDoor _ _ => s.atCommonDoor e
  | .staffDoor => if e.isGuest then deny .kind else grant .key
  | .minibar r _ => s.atMinibar n r k e p

/-- Steps 4 to 8 on a key entry (R67, R50 to R52, step 8). -/
def State.judgeKey (s : State) (x : Gathered) (k : KeyIx) (e : KeyEntry) : Decision :=
  let p := s.profile e.profile
  match e.stateTest.or ((e.validityTest p x.seen.arrival).or
    ((p.kindTest x.record.config).or ((zoneTest e x.record.zone).or (p.timeTest x.seen.arrival)))) with
  | some why => deny why
  | none => s.atNode x k e p

/-- An emergency card reaching step 3 (R68). -/
def State.judgeEmergency (s : State) (x : Gathered) (zones : Set16) : Decision :=
  if x.record.config.isMinibar then deny .kind
  else if inSet zones x.record.zone = false then deny .zone
  else match x.record.config with
    | .connectDoor r => s.emergencyAtConnectDoor x.seen.node r x.seen.side
    | _ => grant .emergency

/-- Step 3 and what follows it (R65). -/
def State.judgeCard (s : State) (x : Gathered) : Decision :=
  match x.found, x.slot with
  | some (k, e), _ => s.judgeKey x k e
  | none, some (_, zones) => s.judgeEmergency x zones
  | none, none => deny .unknown

/-- The verdict on what has been gathered (R64, R65). That a node of kind NONE gives KIND even for a card listed ALERT_AND_DENY, whose hit
is recorded all the same, is the model's choice, log entry 45. -/
def State.judge (s : State) (x : Gathered) : Decision :=
  if x.record.config.configured = false then deny .kind
  else match x.modeVerdict with
    | some d => d
    | none =>
      if x.watch.map WatchEntry.action = some .alertAndDeny then deny .watched else s.judgeCard x

/-! ### Records of a verdict (R59, R79) -/

/-- The WATCH_HIT record and cause of a listed card (R59). -/
def watchHit (x : Gathered) (s : State) : State :=
  match x.watch with
  | none => s
  | some w =>
    raise .service .watchHit (offer
      { kind := .watchHit, cls := .alarm, time := x.seen.arrival, node := some x.seen.node, room := x.record.config.room,
        card := some x.seen.card, key := x.found.map Prod.fst,
        detail := BitVec.ofNat 16 (w.action.code + 2 * w.origin.code) } s)

/-- The detail of an entry record: the slot of an emergency card that is granted, the retirement reason of a retired entry that
is denied in its state (R67, R79). -/
def Gathered.entryDetail (x : Gathered) (v : Verdict) : BitVec 16 :=
  match v.outcome, x.slot, (x.found.bind fun f => f.2.standing.retirement) with
  | .grant, some (k, _), _ => BitVec.ofNat 16 k.val
  | .deny, _, some (reason, _) =>
    if v.reason = .revoked ∨ v.reason = .expired then BitVec.ofNat 16 reason.code else 0
  | _, _, _ => 0

/-- The room an entry record carries: at a ROOM_DOOR, a MINIBAR or an unpaired CONNECT_DOOR (R79). -/
def State.entryRoom (s : State) (x : Gathered) : Option RoomIx :=
  match x.record.config with
  | .connectDoor r => if (s.pairedRoom x.seen.node r).isSome then none else some r
  | c => c.room

/-- The class of a verdict's records (R79). -/
def VerdictOutcome.recordClass : VerdictOutcome → RecordClass
  | .grant => .routine
  | .deny => .notice

/-- The one entry record of a verdict (R79). -/
def offerEntry (x : Gathered) (d : Decision) (s : State) : State :=
  offer
    { kind := match d.verdict.outcome with | .grant => .entryGranted | .deny => .entryDenied
      cls := d.verdict.outcome.recordClass, time := x.seen.arrival, node := some x.seen.node, room := s.entryRoom x,
      card := some x.seen.card, key := x.found.map Prod.fst, reason := some (.verdict d.verdict.reason),
      detail := x.entryDetail d.verdict } s

/-- A CONNECT_SIDE record: bit 0 far, bit 1 passed, bits 2 and 3 the slot of an emergency card (R79, Table 12-7). -/
def offerSide (x : Gathered) (d : Decision) (far : Bool) (t : SideTest) (s : State) : State :=
  offer
    { kind := .connectSide, cls := d.verdict.outcome.recordClass, time := x.seen.arrival, node := some x.seen.node,
      room := some t.room, card := some x.seen.card, key := x.found.map Prod.fst,
      reason := some (.verdict d.verdict.reason),
      detail := BitVec.ofNat 16
        (bit 0 far + bit 1 t.passed + 4 * ((x.slot.map fun k => k.1.val).getD 0)) } s

/-- The records of a verdict (R79). -/
def offerVerdict (x : Gathered) (d : Decision) (s : State) : State :=
  match d.sides with
  | some (near, far) => offerSide x d true far (offerSide x d false near s)
  | none => offerEntry x d s

/-! ### What a verdict does (R77, R78, R80) -/

/-- The claims sent to the Key Register: the use report, and the rebind claim of a grant made under the move (R78). -/
def sendClaims (x : Gathered) (d : Decision) (s : State) : State :=
  match x.found with
  | none => s
  | some (k, e) =>
    { s with keys := { s.keys with
      claims := s.keys.claims ++ [.use k e.card d.used x.seen.arrival false]
        ++ (match d.move with | some (m, r) => [.rebind k e.card m r false] | none => []) } }

/-- A stamp taken as a room's last entry time; the clock-unset mark leaves the time as it stands (R17). -/
def noteEntry (r : RoomIx) (t : Stamp) (s : State) : State := s.modRoom r fun rm => { rm with lastEntry := t.or rm.lastEntry }

/-- The room claims of a GRANT at a room's own door (R78): the last entry time, and the clearing of make-up. -/
def claimRoom (x : Gathered) (d : Decision) (s : State) : State :=
  match s.ownRoom x.seen.node with
  | none => s
  | some r =>
    let entered := noteEntry r x.seen.arrival s
    if d.makeupOnly then setMakeup r false entered else entered

/-- A node's grant outstanding is set, or replaced (R80). -/
def setGrant (n : NodeAddr) (holder : Holder) (s : State) : State :=
  s.modNode n fun nd => { nd with grant := some { time := s.nowOrZero, holder := holder, since := s.supply.elapsed } }

/-- The holder of a grant (R80). -/
def Gathered.holder (x : Gathered) : Holder :=
  match x.found, x.slot with
  | some (k, _), _ => .key k
  | none, some (k, _) => .slot k
  | none, none => .none

/-- The effects of a GRANT on room, node and session (R72, R78, R80). -/
def applyGrant (x : Gathered) (d : Decision) (s : State) : State :=
  let sessioned := match d.session with | some y => addSession y s | none => s
  setGrant x.seen.node x.holder (claimRoom x d sessioned)

/-- A verdict is placed in the Presentation Queue entry at a place, which becomes JUDGED (R77). -/
def markJudged (i : Nat) (v : Verdict) (s : State) : State :=
  { s with verdict := { s.verdict with queue := s.verdict.queue.modify i fun y => { y with verdict := some v } } }

/-- A verdict is appended to the tail of its line's Verdict Queue (R77, R91). -/
def appendVerdict (l : LineIx) (v : QueuedVerdict) (s : State) : State :=
  s.modLine l fun ln => { ln with verdicts := ln.verdicts ++ [v] }

/-- The verdict is placed in the presentation's entry and on its line's Verdict Queue (R77). -/
def queueVerdict (i : Nat) (x : Gathered) (d : Decision) (s : State) : State :=
  appendVerdict x.seen.node.line
    { addr := x.seen.node.addr, verdict := d.verdict, card := some x.seen.card, key := x.found.map Prod.fst, remote := false }
    (markJudged i d.verdict s)

/-- A presentation is WAITING (Table 4-2). -/
def Presentation.waiting (x : Presentation) : Bool := x.verdict.isNone

/-- What a judgement of a presentation gathers, with the state that the lookup's corrections leave (R64). -/
def gather (p : Presentation) (s : State) : Gathered × State :=
  let watch := s.watchOf p.card
  let (looked, found) := lookup p.card s
  ({ seen := p, record := s.node p.node, watch := watch, found := found,
     slot := if found.isNone then s.emergencySlot p.card else none }, looked)

/-- The judgement of a presentation that stands at a place of the queue (R64 to R80). -/
def judgePresentation (i : Nat) (p : Presentation) (s : State) : State :=
  let (x, looked) := gather p s
  let hit := watchHit x looked
  let d := hit.judge x
  let claimed := sendClaims x d hit
  let applied := match d.verdict.outcome with | .grant => applyGrant x d claimed | .deny => claimed
  queueVerdict i x d (offerVerdict x d applied)

/-- PRESENTATION JUDGEMENT (R63, R64): the oldest WAITING entry is judged. -/
def presentationJudgement (s : State) : State :=
  match s.inRun, s.verdict.queue.findIdx? Presentation.waiting with
  | true, some i =>
    match s.verdict.queue[i]? with
    | some p => judgePresentation i p s
    | none => s
  | _, _ => s

/-- PRESENTATION JUDGEMENT. -/
def execPresentationJudgement (s : State) : Host.Outcome State Fault Refusal := .next (presentationJudgement s)

/-- A verdict has left the line: its presentation, the line's oldest JUDGED one, leaves the Presentation Queue (R63). -/
def releasePresentation (l : LineIx) (s : State) : State :=
  { s with verdict := { s.verdict with
    queue := s.verdict.queue.eraseP fun x => decide (x.node.line = l) && !x.waiting } }

end Sys2Proof.Machine
end

