-- ==== Sys2Proof/Machine/Doors.lean ====
section
/-! DEFINITION. Door, bolt and button events, the timers of a node, and node modes (4.7, 4.8). -/

namespace Sys2Proof.Machine

/-! ### Door events (R81, R83) -/

/-- An opening that leaves the door OPEN: a grant outstanding is consumed, and the held-open timer starts, save at a MINIBAR
(R81). -/
def openDoor (n : NodeAddr) (s : State) : State :=
  (setDoor n .opened (s.node n).latch s).modNode n fun nd =>
    { nd with
      grant := none
      heldOpen := if nd.config.isMinibar then nd.heldOpen else some (startedTimer s.supply.elapsed nd) }

/-- A forced opening (R81): door condition FORCED, alarm latch set, held-open timer stopped, record and cause. -/
def forceDoor (n : NodeAddr) (arrival : Stamp) (s : State) : State :=
  let nd := s.node n
  raise .service .doorAlarm (offer
    { kind := .forced, cls := .alarm, time := arrival, node := some n, room := nd.config.room,
      detail := BitVec.ofNat 16 nd.mode.name.code }
    ((setDoor n .forced true s).modNode n fun nd => { nd with heldOpen := none }))

/-- An opening is taken as OPEN: a grant is outstanding, or the mode suppresses the alarm (R81). -/
def Node.opensFreely (nd : Node) : Bool :=
  nd.grant.isSome || match nd.mode with | .passage => true | .released _ => true | _ => false

/-- A node's DOOR event at a MINIBAR is handed on to the Charge Unit (R97). -/
def handToCharge (n : NodeAddr) (f : State → State) (s : State) : State := if (s.node n).config.isMinibar then f s else s

/-- An OPENED event (R81). -/
def takeOpened (n : NodeAddr) (arrival : Stamp) (s : State) : State :=
  let taken := if (s.node n).opensFreely then openDoor n s else forceDoor n arrival s
  handToCharge n (minibarOpened n arrival) (handDoor n taken)

/-- A CLOSED event (R83). -/
def takeClosed (n : NodeAddr) (arrival : Stamp) (s : State) : State :=
  let taken := (setDoor n .closed (s.node n).latch s).modNode n fun nd => { nd with heldOpen := none }
  handToCharge n (minibarClosed n arrival) (handDoor n taken)

/-! ### Bolt and button events (R85) -/

/-- A BOLT event (R85, R14): discarded unless the node is the door node of its room. -/
def takeBolt (n : NodeAddr) (on : Bool) (arrival : Stamp) (s : State) : State :=
  match s.ownRoom n with
  | none => s
  | some r =>
    offer { kind := .bolt, cls := .notice, time := arrival, node := some n, room := some r } (setPrivacy r on s)

/-- A BUTTON event (R85, R15, R163): discarded unless the node is the door node of its room. -/
def takeButton (n : NodeAddr) (which : Button) (s : State) : State :=
  match s.ownRoom n, which with
  | none, _ => s
  | some r, .makeup => setMakeup r true s
  | some r, .cancel => setMakeup r false s
  | some r, .call => writePrimary r .call true s

/-! ### Timers of a node (R80, R82) -/

/-- The held-open timer of a node expires (R82). -/
def expireHeldOpen (n : NodeAddr) (s : State) : State :=
  let nd := s.node n
  let stopped := s.modNode n fun nd => { nd with heldOpen := none }
  match nd.heldOpen with
  | none => s
  | some t =>
    if nd.mode = .normal ∧ nd.door = .opened then
      raise .service .doorAlarm (offer
        { kind := .heldOpen, cls := .alarm, time := s.now, node := some n, room := nd.config.room,
          detail := BitVec.ofNat 16 t.limit }
        (handDoor n (setDoor n .heldOpen nd.latch stopped)))
    else stopped

/-- The grant window of a node expires unused (R80, R126). -/
def expireGrant (n : NodeAddr) (s : State) : State :=
  handToCharge n (minibarUnused n) (s.modNode n fun nd => { nd with grant := none })

/-! ### Commands on nodes (R84, R87 to R91) -/

/-- CLEAR ALARM (R84). -/
def clearAlarm (n : NodeAddr) (s : State) : Owned :=
  let nd := s.node n
  if nd.config.configured = false then refuse .conflict s
  else if nd.latch = false then refuse .state s
  else accept [] (offer { kind := .alarmCleared, cls := .notice, time := s.now, node := some n } (setDoor n nd.door false s))

/-- CLEAR ALARM. -/
def execClearAlarm (port : Port) (params : List Byte) (s : State) : Host.Outcome State Fault Refusal :=
  .next (takeCommand .clearAlarm port params parseNode clearAlarm s)

/-- SET NODE MODE (R87). -/
def setNodeMode (a : NodeAddr × KeptMode) (s : State) : Owned :=
  let (n, m) := a
  let nd := s.node n
  if nd.config.configured = false ∨ (nd.config.isMinibar ∧ m = .passage) then refuse .conflict s
  else if nd.mode.isReleased then accept [] (s.modNode n fun nd => { nd with mode := .released m })
  else accept [] (setModeMark n (s.modNode n fun nd => nd.withMode m.mode s.supply.elapsed))

/-- SET NODE MODE. -/
def execSetNodeMode (port : Port) (params : List Byte) (s : State) : Host.Outcome State Fault Refusal :=
  .next (takeCommand .setNodeMode port params parseSetNodeMode setNodeMode s)

/-- The RELEASE and RESTORE records carry the zone set as detail (R89, R90). -/
def offerZones (kind : RecordKind) (zones : Set16) (s : State) : State :=
  offer { kind := kind, cls := .notice, time := s.now, detail := zones } s

/-- The mode to which RELEASE ZONES takes a node, if it does (R89). -/
def releaseChoice (zones : Set16) (nd : Node) : Option Mode :=
  if nd.config.isDoor && inSet zones nd.zone then
    match nd.mode with
    | .normal => some (.released .normal)
    | .passage => some (.released .passage)
    | .secured => some (.released .secured)
    | .released _ => none
  else none

/-- RELEASE ZONES (R89). -/
def releaseZones (zones : Set16) (s : State) : Owned :=
  accept [] (offerZones .release zones (changeModes (fun _ nd => releaseChoice zones nd) s))

/-- RELEASE ZONES. -/
def execReleaseZones (port : Port) (params : List Byte) (s : State) : Host.Outcome State Fault Refusal :=
  .next (takeCommand .releaseZones port params parseSet releaseZones s)

/-- The mode to which RESTORE ZONES returns a node, if it does (R90). -/
def restoreChoice (zones : Set16) (nd : Node) : Option Mode :=
  if inSet zones nd.zone then nd.mode.kept.map KeptMode.mode else none

/-- RESTORE ZONES (R90). -/
def restoreZones (zones : Set16) (s : State) : Owned :=
  accept [] (offerZones .restore zones (changeModes (fun _ nd => restoreChoice zones nd) s))

/-- RESTORE ZONES. -/
def execRestoreZones (port : Port) (params : List Byte) (s : State) : Host.Outcome State Fault Refusal :=
  .next (takeCommand .restoreZones port params parseSet restoreZones s)

/-- The CONFLICT cases of UNLATCH NODE (R91). -/
def State.unlatchConflict (s : State) (n : NodeAddr) : Bool :=
  match (s.node n).config with
  | .none => true
  | .minibar _ _ => true
  | .connectDoor r => (s.pairedRoom n r).isSome
  | _ => false

/-- The present time as the last entry of the room whose door node is unlatched (R17, R91). -/
def noteRemoteEntry (n : NodeAddr) (s : State) : State :=
  match s.ownRoom n with
  | some r => noteEntry r s.now s
  | none => s

/-- UNLATCH NODE (R91). -/
def unlatchNode (n : NodeAddr) (s : State) : Owned :=
  if s.unlatchConflict n then refuse .conflict s
  else if (s.line n.line).state = .stopped then refuse .state s
  else if Config.outstandingMax ≤ s.outstanding n.line then refuse .limit s
  else
    let queued := appendVerdict n.line { addr := n.addr, verdict := ⟨.grant, .remote⟩, card := none, key := none, remote := true } s
    accept [] (offer
      { kind := .entryGranted, cls := .routine, time := s.now, node := some n, reason := some (.verdict .remote) }
      (noteRemoteEntry n (setGrant n .none queued)))

/-- UNLATCH NODE. -/
def execUnlatchNode (port : Port) (params : List Byte) (s : State) : Host.Outcome State Fault Refusal :=
  .next (takeCommand .unlatchNode port params parseNode unlatchNode s)

/-! ### Passage windows (R88) -/

/-- The window compare of a node at a minute-of-day: none where the node has no passage window (R88). -/
def Node.compare (nd : Node) (minute : Nat) : Option Bool :=
  match nd.config with
  | .commonDoor _ ws => if ws.isEmpty then none else some (ws.any fun w => inWindow w.start w.stop minute)
  | _ => none

/-- The window edge of a node at a minute-of-day: the new window state where it differs (R88). -/
def Node.edge (nd : Node) (minute : Nat) : Option Bool :=
  match nd.compare minute with
  | some inside => if inside = nd.inside then none else some inside
  | none => none

/-- The mode a window edge gives a NORMAL or PASSAGE node (R88). -/
def edgeMode (inside : Bool) : Mode → Option Mode
  | .normal => if inside then some .passage else none
  | .passage => if inside then none else some .normal
  | _ => none

/-- The kept mode of a RELEASED node after a window edge (R88). -/
def edgeKept (inside : Bool) : Mode → Mode
  | .released .normal => .released (if inside then .passage else .normal)
  | .released .passage => .released (if inside then .passage else .normal)
  | m => m

/-- A node's window state and kept mode after a minute's compare (R88). -/
def Node.windowed (nd : Node) (minute : Nat) : Node :=
  match nd.edge minute with
  | some inside => { nd with inside := inside, mode := edgeKept inside nd.mode }
  | none => nd

/-- The window compares of a minute tick while the clock is RUNNING (R88). -/
def compareWindows (s : State) : State :=
  if s.supply.clockRunning then
    let minute := minuteOfDay s.supply.counter
    let moved := changeModes (fun _ nd => (nd.edge minute).bind fun inside => edgeMode inside nd.mode) s
    { moved with nodes := mapNodes moved.nodes fun _ nd => nd.windowed minute }
  else s

end Sys2Proof.Machine
end

