-- ==== Sys2Proof/Machine/Journals.lean ====
section
/-! DEFINITION. The Journal (chapter 7): commits, erases, guards, holds, flushing, reading, and the rebuild of the directory. -/

namespace Sys2Proof.Machine

/-- Change the journal. -/
def State.modJournal (s : State) (f : Journal → Journal) : State := { s with journal := f s.journal }

/-! ### Committed records and their order (R136, R153) -/

/-- The record of a slot. -/
def Slot.record? : Slot → Option Record
  | .blank => none
  | .written r => some r
  | .other _ => none

/-- A segment's records can be read: it is FILLING or FULL (7.9). -/
def SegState.readable : SegState → Bool
  | .filling _ => true
  | .full => true
  | _ => false

/-- The records in a segment's slots, in order of slot. -/
def Segment.content (g : Segment) : List Record := g.slots.toList.filterMap Slot.record?

/-- The committed records of a segment (R142, R145). -/
def Segment.records (g : Segment) : List Record := if g.state.readable then g.content else []

/-- The committed records. -/
def Journal.committed (j : Journal) : List Record := (j.segments.toList.map Segment.records).flatten

/-- The lowest in sequence of some records (R136). -/
def oldest (rs : List Record) : Option Record :=
  rs.foldl (fun best r => match best with
    | none => some r
    | some b => if seqBelow r.seq b.seq then some r else some b) none

/-- The highest in sequence of some records (R136). -/
def newest (rs : List Record) : Option Record :=
  rs.foldl (fun best r => match best with
    | none => some r
    | some b => if seqBelow b.seq r.seq then some r else some b) none

/-- The place of the read cursor for a sequence c among some records: the oldest at or above c, or the next sequence number
(R153). -/
def cursorFor (rs : List Record) (next c : Seq) : Seq :=
  match oldest (rs.filter fun r => seqAtOrBelow c r.seq) with
  | some r => r.seq
  | none => next

/-- Up to n records at or above a sequence, in increasing order (R154). -/
def readFrom (rs : List Record) : Nat → Seq → List Record
  | 0, _ => []
  | n + 1, c =>
    match oldest (rs.filter fun r => seqAtOrBelow c r.seq) with
    | some r => r :: readFrom rs n (r.seq + 1)
    | none => []

/-! ### Commands that read and mark (R153 to R157) -/

/-- SET CURSOR (R153). -/
def setCursor (c : Seq) (s : State) : Owned :=
  accept [] (s.modJournal fun j => { j with cursor := cursorFor j.committed j.nextSeq c, cursorLost := false })

/-- SET CURSOR. -/
def execSetCursor (port : Port) (params : List Byte) (s : State) : Host.Outcome State Fault Refusal :=
  .next (takeCommand .setCursor port params parseWord setCursor s)

/-- READ RECORDS (R154). -/
def readRecords (count : Nat) (s : State) : Owned :=
  let j := s.journal
  let rs := readFrom j.committed count j.cursor
  let cursor := match rs.getLast? with | some r => r.seq + 1 | none => j.cursor
  (s.modJournal fun j => { j with cursor := cursor, cursorLost := false },
    some ⟨if j.cursorLost then .cursorLost else .ok, (rs.map Record.bytes).flatten⟩)

/-- READ RECORDS: a count of 1 to 16. -/
def execReadRecords (port : Port) (params : List Byte) (s : State) : Host.Outcome State Fault Refusal :=
  .next (takeCommand .readRecords port params (fun ps => countAt 1 16 ps 0) readRecords s)

/-- A slot of a segment as READ SEGMENT WRAPPED returns it: every slot of a DIRTY segment reads blank (R155). -/
def Segment.shown (g : Segment) (i : Nat) : Slot := if g.state = .dirty then .blank else g.slots.get (i % 512)

/-- READ SEGMENT WRAPPED (R155). -/
def readWrapped (a : SegIx × Fin 512 × Nat) (s : State) : Owned :=
  let (k, start, count) := a
  let g := s.segment k
  accept (((List.range count).map fun i => (g.shown (start.val + i)).bytes).flatten ++ u8 g.state.code ++ u8 g.hold.code) s

/-- READ SEGMENT WRAPPED. -/
def execReadSegmentWrapped (port : Port) (params : List Byte) (s : State) : Host.Outcome State Fault Refusal :=
  .next (takeCommand .readSegmentWrapped port params parseReadWrapped readWrapped s)

/-- MARK COLLECTED (R156). -/
def markCollected (m : Seq) (s : State) : Owned :=
  if s.journal.collected.any (seqBelow m) ∨ seqAtOrBelow s.journal.nextSeq m then refuse .badParam s
  else accept [] (s.modJournal fun j => { j with collected := some m })

/-- MARK COLLECTED. -/
def execMarkCollected (port : Port) (params : List Byte) (s : State) : Host.Outcome State Fault Refusal :=
  .next (takeCommand .markCollected port params parseWord markCollected s)

/-- JOURNAL STATUS (R157). It arms the drop notice (R139). -/
def journalStatus (_ : Unit) (s : State) : Owned :=
  accept (journalBytes s.journal) (s.modJournal fun j => { j with noticeArmed := true })

/-- JOURNAL STATUS. -/
def execJournalStatus (port : Port) (params : List Byte) (s : State) : Host.Outcome State Fault Refusal :=
  .next (takeCommand .journalStatus port params parseNothing journalStatus s)

/-! ### Guards, holds and flushing (R149 to R152) -/

/-- The guards of the segments of a set take a value (R149). -/
def writeGuards (v : Bool) (segments : Set16) (s : State) : State :=
  s.modJournal fun j => { j with
    segments := tmap 16 j.segments fun k g => if inSet segments k then { g with guard := v } else g }

/-- RELEASE GUARDS (R149). -/
def releaseGuards (segments : Set16) (s : State) : Owned := accept [] (writeGuards false segments s)

/-- RELEASE GUARDS. -/
def execReleaseGuards (port : Port) (params : List Byte) (s : State) : Host.Outcome State Fault Refusal :=
  .next (takeCommand .releaseGuards port params parseSet releaseGuards s)

/-- SET GUARDS (R149). -/
def setGuards (segments : Set16) (s : State) : Owned := accept [] (writeGuards true segments s)

/-- SET GUARDS. -/
def execSetGuards (port : Port) (params : List Byte) (s : State) : Host.Outcome State Fault Refusal :=
  .next (takeCommand .setGuards port params parseSet setGuards s)

/-- A claim joins the mark queue (R147). -/
def queueMark (c : MarkClaim) (s : State) : State := s.modJournal fun j => { j with marks := j.marks ++ [c] }

/-- The segments that are HELD or have a hold pending (R150). -/
def Journal.heldCount (j : Journal) : Nat := j.segments.count fun g => decide (g.hold = .held) || g.holdPending

/-- HOLD SEGMENT (R150). The answer comes when the hold mark is programmed. -/
def holdSegment (k : SegIx) (s : State) : Owned :=
  let g := s.segment k
  if g.state ≠ .full ∨ g.hold ≠ .none ∨ g.holdPending then refuse .state s
  else if Config.heldMax < s.journal.heldCount + 1 then refuse .holdLimit s
  else (queueMark (.hold k) (s.modJournal fun j => j.modSegment k fun g => { g with holdPending := true }), none)

/-- HOLD SEGMENT. -/
def execHoldSegment (port : Port) (params : List Byte) (s : State) : Host.Outcome State Fault Refusal :=
  .next (takeCommand .holdSegment port params parseSegment holdSegment s)

/-- CLEAR HOLD (R151). The answer comes when the release mark is programmed. -/
def clearHold (k : SegIx) (s : State) : Owned :=
  if (s.segment k).hold ≠ .held then refuse .state s else (queueMark (.release k) s, none)

/-- CLEAR HOLD. -/
def execClearHold (port : Port) (params : List Byte) (s : State) : Host.Outcome State Fault Refusal :=
  .next (takeCommand .clearHold port params parseSegment clearHold s)

/-- FLUSH JOURNAL (R152). -/
def flushJournal (_ : Unit) (s : State) : Owned :=
  match s.journal.staged.getLast? with
  | none => accept [] s
  | some r =>
    if s.journal.jammed then refuse .jammed s
    else (s.modJournal fun j => { j with flush := some r.seq }, none)

/-- FLUSH JOURNAL. -/
def execFlushJournal (port : Port) (params : List Byte) (s : State) : Host.Outcome State Fault Refusal :=
  .next (takeCommand .flushJournal port params parseNothing flushJournal s)

/-! ### The array arbiter (R144, R147, R148) -/

/-- The first segment in ring order after a segment that meets a test; the segment itself comes last. -/
def Journal.ringFind (j : Journal) (after : SegIx) (p : Segment → Bool) : Option SegIx :=
  ((List.range 16).map fun i => after + Fin.ofNat 16 (i + 1)).find? fun k => p (tget j.segments k)

/-- Some segment is BLANK. -/
def Journal.hasBlank (j : Journal) : Bool := (tfind 16 j.segments fun g => decide (g.state = .blank)).isSome

/-- The eligible segment with the lowest first sequence (R144). -/
def Journal.oldestEligible (j : Journal) : Option SegIx :=
  (List.finRange 16).foldl (fun best k =>
    let g := tget j.segments k
    if g.eligible then
      match best, g.first with
      | none, _ => some k
      | some b, some f =>
        match (tget j.segments b).first with
        | some fb => if seqBelow f fb then some k else some b
        | none => some b
      | some b, none => some b
    else best) none

/-- The segment that the erase claim names, none where no claim stands (R144). -/
def Journal.eraseTarget (j : Journal) : Option SegIx :=
  if j.erase.isSome then none
  else (j.ringFind (j.fillingAt.getD 0) Segment.erasable).or (if j.hasBlank then none else j.oldestEligible)

/-- The array takes a program: it is IDLE, or an erase is suspended with no program running (R147, R148). -/
def Journal.takesProgram (j : Journal) : Bool := decide (j.arrayStatus = 0) || decide (j.arrayStatus = 3)

/-- A mark or a commit waits (R147). -/
def Journal.programWaits (j : Journal) : Bool := !j.marks.isEmpty || j.commitRequested

/-- BLOCK PROGRAM START (R141, R142): the commit is the arbiter's choice. -/
def blockProgramStart (s : State) : State :=
  let j := s.journal
  match j.fillingAt with
  | some k =>
    match (tget j.segments k).state with
    | .filling blk =>
      if s.inRun && j.takesProgram && j.marks.isEmpty && j.commitRequested then
        let n := min Config.blockRecords j.waiting
        s.modJournal fun j => { j with
          program := some (.block k blk n), commitDue := false,
          flushAt := if n < j.waiting then some (s.supply.elapsed + Config.flushPeriod) else none }
      else s
    | _ => s
  | none => s

/-- BLOCK PROGRAM START. -/
def execBlockProgramStart (s : State) : Host.Outcome State Fault Refusal := .next (blockProgramStart s)

/-- The mark program of a claim. -/
def MarkClaim.program : MarkClaim → Program
  | .first k seq => .firstMark k seq
  | .hold k => .holdMark k
  | .release k => .releaseMark k

/-- MARK PROGRAM START (R147): the mark at the head of the mark queue. -/
def markProgramStart (s : State) : State :=
  match s.journal.marks with
  | [] => s
  | c :: rest =>
    if s.inRun && s.journal.takesProgram then s.modJournal fun j => { j with program := some c.program, marks := rest } else s

/-- MARK PROGRAM START. -/
def execMarkProgramStart (s : State) : Host.Outcome State Fault Refusal := .next (markProgramStart s)

/-- The segment as its erase starts: DIRTY at once, its sequences absent, its array content no longer valid (R145). -/
def Segment.erasing (g : Segment) : Segment := { g with state := .dirty, first := none, last := none, interrupted := true }

/-- The records of an erased segment that count as overrun: those above the collected mark (R145). -/
def Journal.overrunOf (j : Journal) (rs : List Record) : Nat :=
  rs.countP fun r => match j.collected with | some m => seqBelow m r.seq | none => true

/-- The cursor after an erase has started: lost where it stood at or below the last of the records erased (R145, R154). -/
def Journal.cursorErased (j : Journal) (last : Option Seq) : Journal :=
  if last.any (seqAtOrBelow j.cursor) then
    { j with cursor := ((oldest j.committed).map Record.seq).getD j.nextSeq, cursorLost := true }
  else j

/-- An erase of a segment starts (R145). -/
def beginErase (k : SegIx) (s : State) : State :=
  let g := s.segment k
  let rs := g.records
  let lost := s.journal.overrunOf rs
  let dirtied := s.modJournal fun j =>
    ({ j.modSegment k Segment.erasing with
       erase := some { segment := k, suspensions := 0, suspended := false }
       overrun := if lost = 0 then j.overrun else raiseCount j.overrun lost }).cursorErased (if rs = [] then none else g.last)
  if lost = 0 then dirtied else raise .service .journalOverrun dirtied

/-- ERASE START (R144, R145, R147): the arbiter reaches the erase, for no mark and no commit waits. With the array IDLE an erase of
the claimed segment starts; a suspended erase is resumed. -/
def eraseStart (s : State) : State :=
  if !s.inRun || s.journal.programWaits || s.journal.program.isSome then s
  else match s.journal.erase with
    | some e => if e.suspended then s.modJournal fun j => { j with erase := some { e with suspended := false } } else s
    | none =>
      match s.journal.eraseTarget with
      | some k => beginErase k s
      | none => s

/-- ERASE START. -/
def execEraseStart (s : State) : Host.Outcome State Fault Refusal := .next (eraseStart s)

/-- ERASE SUSPEND (R148): a mark or commit waits while an erase runs that has been suspended fewer than 4 times. -/
def eraseSuspend (s : State) : State :=
  match s.inRun, s.journal.program, s.journal.erase with
  | true, none, some e =>
    if !e.suspended && s.journal.programWaits && decide (e.suspensions < Config.suspensionMax) then
      s.modJournal fun j => { j with erase := some { e with suspended := true, suspensions := e.suspensions + 1 } }
    else s
  | _, _, _ => s

/-- ERASE SUSPEND. -/
def execEraseSuspend (s : State) : Host.Outcome State Fault Refusal := .next (eraseSuspend s)

/-! ### Completions (R142, R143, R146, R150, R151) -/

/-- A program has ended: the array is free of it, and a suspended erase resumes (R148). -/
def Journal.programEnded (j : Journal) : Journal :=
  { j with program := none, erase := j.erase.map fun e => { e with suspended := false } }

/-- The slots of a table with records written from an index on. -/
def writeSlots (slots : Table Slot 9) (base : Nat) : List Record → Table Slot 9
  | [] => slots
  | r :: rs => writeSlots (slots.set base (.written r)) (base + 1) rs

/-- A segment once a block of records is programmed into it (R142). -/
def Segment.programmed (g : Segment) (blk : Nat) (rs : List Record) : Segment :=
  { g with
    slots := writeSlots g.slots (8 * blk) rs
    last := (rs.getLast?.map Record.seq).or g.last
    first := if blk = 0 then rs.head?.map Record.seq else g.first
    state := .filling (blk + 1) }

/-- The first-sequence mark claim of a segment's first block (R142). -/
def firstClaim (k : SegIx) (blk : Nat) (rs : List Record) : List MarkClaim :=
  match blk, rs with
  | 0, r :: _ => [.first k r.seq]
  | _, _ => []

/-- A pending flush ends with JAMMED (R143, R152). -/
def jamFlush (s : State) : State :=
  if s.journal.flush.isSome then
    answerLong .flushJournal ⟨.jammed, []⟩ (s.modJournal fun j => { j with flush := none })
  else s

/-- The journal has become JAMMED (R143). -/
def becomeJammed (s : State) : State := raise .service .journalJam (jamFlush s)

/-- A journal whose head segment is full: the first BLANK segment in ring order becomes FILLING, if one is (R143). -/
def Journal.advanced (j : Journal) (k : SegIx) : Journal :=
  let full := j.modSegment k fun g => { g with state := .full }
  match full.ringFind k fun g => decide (g.state = .blank) with
  | some b => full.modSegment b fun g => { g with state := .filling 0 }
  | none => full

/-- The head advances from a segment (R143). -/
def advanceHead (k : SegIx) (s : State) : State :=
  let advanced := s.modJournal fun j => j.advanced k
  if advanced.journal.jammed then becomeJammed advanced else advanced

/-- A block program completes (R142). -/
def completeBlock (k : SegIx) (blk n : Nat) (s : State) : State :=
  let rs := s.journal.staged.take n
  let programmed := settleFlush (s.modJournal fun j =>
    { (j.modSegment k fun g => g.programmed blk rs).programEnded with
      staged := j.staged.drop n, marks := j.marks ++ firstClaim k blk rs })
  if 63 ≤ blk then advanceHead k programmed else programmed

/-- BLOCK PROGRAM COMPLETE. -/
def blockProgramComplete (s : State) : State :=
  match s.inRun, s.journal.program with
  | true, some (.block k blk n) => completeBlock k blk n s
  | _, _ => s

/-- BLOCK PROGRAM COMPLETE. -/
def execBlockProgramComplete (s : State) : Host.Outcome State Fault Refusal := .next (blockProgramComplete s)

/-- A first-sequence mark program completes (R142). -/
def completeFirst (k : SegIx) (seq : Seq) (s : State) : State :=
  s.modJournal fun j => (j.modSegment k fun g => { g with headerFirst := some seq }).programEnded

/-- FIRST SEQUENCE MARK PROGRAMMED. -/
def execFirstSequenceMarkProgrammed (s : State) : Host.Outcome State Fault Refusal :=
  .next (match s.inRun, s.journal.program with
    | true, some (.firstMark k seq) => completeFirst k seq s
    | _, _ => s)

/-- A hold mark program completes (R150). -/
def completeHold (k : SegIx) (s : State) : State :=
  answerLong .holdSegment ⟨.ok, []⟩ (s.modJournal fun j =>
    (j.modSegment k fun g => { g with holdMark := true, hold := .held, holdPending := false }).programEnded)

/-- HOLD MARK PROGRAMMED. -/
def execHoldMarkProgrammed (s : State) : Host.Outcome State Fault Refusal :=
  .next (match s.inRun, s.journal.program with
    | true, some (.holdMark k) => completeHold k s
    | _, _ => s)

/-- A release mark program completes (R151). -/
def completeRelease (k : SegIx) (s : State) : State :=
  answerLong .clearHold ⟨.ok, []⟩ (s.modJournal fun j =>
    (j.modSegment k fun g => { g with releaseMark := true, hold := .released }).programEnded)

/-- RELEASE MARK PROGRAMMED. -/
def execReleaseMarkProgrammed (s : State) : Host.Outcome State Fault Refusal :=
  .next (match s.inRun, s.journal.program with
    | true, some (.releaseMark k) => completeRelease k s
    | _, _ => s)

/-- A segment once erased: every block and header mark blank, its guard kept (R146). -/
def Segment.erased (g : Segment) (jammed : Bool) : Segment :=
  { Segment.new with state := if jammed then .filling 0 else .blank, guard := g.guard }

/-- SEGMENT ERASE COMPLETE (R146): where the journal is JAMMED the segment becomes FILLING and ends the jam (R143). -/
def segmentEraseComplete (s : State) : State :=
  match s.inRun, s.journal.program, s.journal.erase with
  | true, none, some e =>
    if e.suspended then s
    else s.modJournal fun j =>
      { j.modSegment e.segment fun g => g.erased j.jammed with erase := none }
  | _, _, _ => s

/-- SEGMENT ERASE COMPLETE. -/
def execSegmentEraseComplete (s : State) : Host.Outcome State Fault Refusal := .next (segmentEraseComplete s)

/-- The flush timer expires (R141): a commit is due. -/
def expireFlush (s : State) : State := s.modJournal fun j => { j with flushAt := none, commitDue := true }

/-! ### Programs that the hold-up did not cover (R160) -/

/-- The slots of a table from an index on, as a program cut short leaves them (R160, log entry 40). -/
def tearSlots (k : SegIx) (elapsed : Nat) (slots : Table Slot 9) (base : Nat) : Nat → Table Slot 9
  | 0 => slots
  | n + 1 => (tearSlots k elapsed slots base n).set (base + n) (.other (Config.tornContent k (base + n) elapsed))

/-- A segment whose block program was cut short: its slots hold no valid records, and it reads DIRTY (R160). -/
def Segment.blockTorn (g : Segment) (k : SegIx) (blk n elapsed : Nat) : Segment :=
  { g with slots := tearSlots k elapsed g.slots (8 * blk) n, interrupted := true }

/-- A segment one of whose header marks was being programmed: whether the mark reads programmed and the header can be read is a free
value (log entry 40). -/
def Segment.markTorn (g : Segment) (k : SegIx) (elapsed : Nat) (program : Segment → Segment) : Segment :=
  let torn := if (Config.tornMark k elapsed).1 then program g else g
  { torn with interrupted := torn.interrupted || !(Config.tornMark k elapsed).2 }

/-- The journal of a part that has lost its supply and its retention domain without the hold-up: the array is left as the program in
flight stood (R160, log entry 18). -/
def Journal.torn (j : Journal) (elapsed : Nat) : Journal :=
  match j.program with
  | some (.block k blk n) => j.modSegment k fun g => g.blockTorn k blk n elapsed
  | some (.firstMark k seq) => j.modSegment k fun g => g.markTorn k elapsed fun g => { g with headerFirst := some seq }
  | some (.holdMark k) => j.modSegment k fun g => g.markTorn k elapsed fun g => { g with holdMark := true }
  | some (.releaseMark k) => j.modSegment k fun g => g.markTorn k elapsed fun g => { g with releaseMark := true }
  | none => j

/-! ### The journal through power loss (R158 to R160) -/

/-- A program in flight at entry to RETAIN completes under the hold-up (R158). -/
def completeProgram (s : State) : State :=
  match s.journal.program with
  | some (.block k blk n) => completeBlock k blk n s
  | some (.firstMark k seq) => completeFirst k seq s
  | some (.holdMark k) => completeHold k s
  | some (.releaseMark k) => completeRelease k s
  | none => s

/-- A first-sequence mark claim. -/
def MarkClaim.isFirst : MarkClaim → Bool
  | .first _ _ => true
  | _ => false

/-- The journal's entry to RETAIN (R158). -/
def journalRetain (s : State) : State :=
  (completeProgram s).modJournal fun j =>
    { j with
      erase := none
      marks := j.marks.filter MarkClaim.isFirst
      segments := tmap 16 j.segments fun _ g => { g with holdPending := false }
      flush := none
      flushAt := none
      commitDue := false }

/-- The journal's warm restart (R159): every guard set, and a commit requested at once for any waiting record. -/
def journalRestart (s : State) : State :=
  s.modJournal fun j =>
    { j with
      segments := tmap 16 j.segments fun _ g => { g with guard := true }
      commitDue := decide (0 < j.waiting) }

/-- The hold state of header marks (R140). -/
def holdOf (holdMark releaseMark : Bool) : HoldState :=
  if holdMark then (if releaseMark then .released else .held) else .none

/-- A segment's header marks as the rebuild reads them. Where an erase of a RELEASED segment was interrupted, what its marks read
is a free value (log entry 13). -/
def Segment.marksRead (g : Segment) (k : SegIx) (elapsed : Nat) : Bool × Bool :=
  if g.interrupted && g.holdMark && g.releaseMark then Config.marksAfterInterruptedErase k elapsed
  else (g.holdMark, g.releaseMark)

/-- A slot of the segment cannot be read (R199). -/
def Segment.unreadable (g : Segment) : Bool := decide (0 < g.slots.count fun x => decide (x.reading = .unreadable))

/-- One segment as the rebuild decides it from the array (R160): DIRTY where a program or an erase of it was cut short or a slot of it
cannot be read. -/
def Segment.rebuilt (g : Segment) (k : SegIx) (elapsed : Nat) : Segment :=
  let rs := g.content
  let (h, r) := g.marksRead k elapsed
  let base := { g with guard := true, holdPending := false, holdMark := h, releaseMark := r, hold := holdOf h r }
  if g.interrupted || g.unreadable then { base with state := .dirty, first := none, last := none }
  else if rs.isEmpty && g.headerFirst.isNone then { base with state := .blank, first := none, last := none }
  else { base with state := .full, first := (oldest rs).map Record.seq, last := (newest rs).map Record.seq }

/-- A segment holds a record of a sequence. -/
def Segment.holds (g : Segment) (seq : Seq) : Bool := g.records.any fun r => decide (r.seq = seq)

/-- One block after the last programmed block of a segment (R160). -/
def Segment.nextBlock (g : Segment) : Nat :=
  ((List.range 64).filter fun b =>
    (List.range 8).any fun i => (g.slots.get (8 * b + i)).record?.isSome).foldl (fun _ b => b + 1) 0

/-- The head found by the rebuild (R160), from directory entries already decided: the segment of the highest committed sequence
goes on filling or, full, hands the head on; without a committed record the first BLANK segment from segment 0 fills. -/
def Journal.headFound (j : Journal) (highest : Option Record) : Journal :=
  match highest.bind fun r => tfind 16 j.segments fun g => g.holds r.seq with
  | some k =>
    let blk := (tget j.segments k).nextBlock
    if blk < 64 then j.modSegment k fun g => { g with state := .filling blk } else j.advanced k
  | none =>
    match j.ringFind 15 fun g => decide (g.state = .blank) with
    | some b => j.modSegment b fun g => { g with state := .filling 0 }
    | none => j

/-- The journal of a cold start (R160): initial contents, and the directory rebuilt from the array. -/
def Journal.rebuilt (j : Journal) (elapsed : Nat) : Journal :=
  let segments := tmap 16 j.segments fun k g => g.rebuilt k elapsed
  let base : Journal :=
    { nextSeq := 0, staged := [], droppedRoutine := 0, droppedPriority := 0, noticeArmed := true, flushAt := none,
      commitDue := false, flush := none, segments := segments, program := none, erase := none, marks := [], cursor := 0,
      cursorLost := false, collected := none, overrun := 0 }
  let rs := base.committed
  let next := ((newest rs).map fun r => r.seq + 1).getD 0
  { base.headFound (newest rs) with nextSeq := next, cursor := ((oldest rs).map Record.seq).getD next }

end Sys2Proof.Machine
end

