-- ==== Sys2Proof/Machine/Lamps.lean ====
section
/-! DEFINITION. The Indicator Unit (chapter 8): its commands, the blink generator, sweeps and the clearing walks. -/

namespace Sys2Proof.Machine

/-- Change the Indicator Unit. -/
def State.modLamps (s : State) (f : Indicator → Indicator) : State := { s with lamps := f s.lamps }

/-- An indicator command reaches the Indicator Unit: SWEEP_DONE and BLINK_PHASE are withdrawn before its effects (R171). -/
def indicatorTaken (s : State) : State := withdraw .service .blinkPhase (withdraw .service .sweepDone s)

/-! ### Writing the lamps (R164, R166) -/

/-- A lamp set with the lamps given lit or unlit (R164). -/
def LampWrite.apply (a : LampWrite) (x : LampSet) : LampSet :=
  { privacy := a.privacy.getD x.privacy, makeup := a.makeup.getD x.makeup, call := a.call.getD x.call,
    alarm := a.alarm.getD x.alarm }

/-- The chosen set of an entry is written (R164). -/
def LampWrite.write (a : LampWrite) (e : IndEntry) : IndEntry :=
  match a.choice with
  | .primary => { e with primary := a.apply e.primary }
  | .alternate => { e with alternate := a.apply e.alternate }
  | .blinkSelect => { e with blinkSelect := a.apply e.blinkSelect }

/-- WRITE LAMPS (R164). -/
def writeLamps (a : LampWrite) (s : State) : Owned := accept [] ((indicatorTaken s).modLamp a.room a.write)

/-- WRITE LAMPS. -/
def execWriteLamps (port : Port) (params : List Byte) (s : State) : Host.Outcome State Fault Refusal :=
  .next (takeCommand .writeLamps port params parseWriteLamps writeLamps s)

/-- SET DARK (R166). -/
def setDark (v : Bool) (s : State) : Owned := accept [] ((indicatorTaken s).modLamps fun u => { u with dark := v })

/-- SET DARK. -/
def execSetDark (port : Port) (params : List Byte) (s : State) : Host.Outcome State Fault Refusal :=
  .next (takeCommand .setDark port params parseDark setDark s)

/-- READ LAMPS (R171). -/
def readLamps (r : RoomIx) (s : State) : Owned := accept (s.lampsBytes r) s

/-- READ LAMPS. -/
def execReadLamps (port : Port) (params : List Byte) (s : State) : Host.Outcome State Fault Refusal :=
  .next (takeCommand .readLamps port params parseRoom readLamps s)

/-! ### Blinking (R165) -/

/-- A half-period in crystal periods (R165). -/
def Indicator.halfPeriod (u : Indicator) : Nat := u.multiplier * Config.blinkUnit

/-- SET BLINK MODE on the unit (R165): the generator starts, goes on or stops. -/
def Indicator.withMode (u : Indicator) (m : BlinkMode) (elapsed : Nat) : Indicator :=
  if m = .steady then { u with mode := m, phaseOn := true, toggleAt := none }
  else if u.mode = .steady then { u with mode := m, phaseOn := true, toggleAt := some (elapsed + u.halfPeriod) }
  else { u with mode := m }

/-- SET BLINK MODE (R165). -/
def setBlinkMode (m : BlinkMode) (s : State) : Owned :=
  let taken := indicatorTaken s
  let set := taken.modLamps fun u => u.withMode m s.supply.elapsed
  accept [] (if m = .steady ∧ s.lamps.mode ≠ .steady ∧ s.lamps.phaseOn = false then requestSweep .toggle set else set)

/-- SET BLINK MODE. -/
def execSetBlinkMode (port : Port) (params : List Byte) (s : State) : Host.Outcome State Fault Refusal :=
  .next (takeCommand .setBlinkMode port params parseBlinkMode setBlinkMode s)

/-- SET BLINK PERIOD (R165): the half-period already running ends at its old length. -/
def setBlinkPeriod (k : Nat) (s : State) : Owned :=
  accept [] ((indicatorTaken s).modLamps fun u => { u with multiplier := k })

/-- SET BLINK PERIOD. -/
def execSetBlinkPeriod (port : Port) (params : List Byte) (s : State) : Host.Outcome State Fault Refusal :=
  .next (takeCommand .setBlinkPeriod port params parseBlinkPeriod setBlinkPeriod s)

/-- The blink generator toggles the phase at the end of a half-period, at a given time (R165). -/
def toggleBlink (at_ : Nat) (s : State) : State :=
  requestSweep .toggle (raise .service .blinkPhase
    (s.modLamps fun u => { u with phaseOn := !u.phaseOn, toggleAt := some (at_ + u.halfPeriod) }))

/-! ### Clearing walks (R167) -/

/-- A clearing walk begins; the command is answered when it ends (R167). -/
def beginWalk (k : ClearKind) (s : State) : Owned :=
  ((indicatorTaken s).modLamps fun u => { u with clearing := some (k, 0) }, none)

/-- CLEAR ALTERNATE. -/
def execClearAlternate (port : Port) (params : List Byte) (s : State) : Host.Outcome State Fault Refusal :=
  .next (takeCommand .clearAlternate port params parseNothing (fun _ => beginWalk .alternate) s)

/-- CLEAR BLINK SET. -/
def execClearBlinkSet (port : Port) (params : List Byte) (s : State) : Host.Outcome State Fault Refusal :=
  .next (takeCommand .clearBlinkSet port params parseNothing (fun _ => beginWalk .blinkSet) s)

/-- An entry once a walk has cleared it (R167). -/
def IndEntry.cleared (e : IndEntry) : ClearKind → IndEntry
  | .alternate => { e with alternate := .unlit }
  | .blinkSet => { e with blinkSelect := .unlit }

/-- The command that a walk answers (R167). -/
def ClearKind.command : ClearKind → Command
  | .alternate => .clearAlternate
  | .blinkSet => .clearBlinkSet

/-- CLEAR WALK STEP (R167): one entry is cleared, and the step at entry 511 ends the walk and answers the command. -/
def clearWalkStep (s : State) : State :=
  match s.inRun, s.lamps.clearing with
  | true, some (k, r) =>
    let cleared := s.modLamp r fun e => e.cleared k
    if h : r.val + 1 < 512 then cleared.modLamps fun u => { u with clearing := some (k, ⟨r.val + 1, h⟩) }
    else answerLong k.command ⟨.ok, []⟩ (cleared.modLamps fun u => { u with clearing := none })
  | _, _ => s

/-- CLEAR WALK STEP. -/
def execClearWalkStep (s : State) : Host.Outcome State Fault Refusal := .next (clearWalkStep s)

/-! ### Sweeps (R168 to R170) -/

/-- A sweep of a kind marks a room (R169). -/
def State.sweepMarks (s : State) (k : SweepKind) (r : RoomIx) : Bool :=
  match k with
  | .full => true
  | .toggle => decide ((s.lamp r).lastSent ≠ some (s.displayed r))

/-- A room's door node is marked (R169): its lamp-pending mark is set and it joins the outstanding set, unless the Line Controller
clears the mark at once. -/
def markNode (n : NodeAddr) (s : State) : State :=
  if s.servesLamps n then
    (setLampMark n s).modLamps fun u =>
      { u with outstanding := if u.outstanding.contains n then u.outstanding else u.outstanding ++ [n] }
  else s

/-- The visit of a sweep to one room (R169). -/
def visitRoom (k : SweepKind) (r : RoomIx) (s : State) : State :=
  match (s.room r).doorNode with
  | some n => if s.sweepMarks k r then markNode n s else s
  | none => s

/-- SWEEP VISIT (R169): one room is visited, and after room 511 the sweep drains. -/
def sweepVisit (s : State) : State :=
  match s.inRun, s.lamps.sweep with
  | true, .marking k r =>
    let visited := visitRoom k r s
    if h : r.val + 1 < 512 then visited.modLamps fun u => { u with sweep := .marking k ⟨r.val + 1, h⟩ }
    else settleSweep (visited.modLamps fun u => { u with sweep := .draining k })
  | _, _ => s

/-- SWEEP VISIT. -/
def execSweepVisit (s : State) : Host.Outcome State Fault Refusal := .next (sweepVisit s)

/-! ### Indicators through power loss (R172) -/

/-- The Indicator Unit's entry to RETAIN (R172). -/
def Indicator.retained (u : Indicator) : Indicator :=
  { u with sweep := .idle, outstanding := [], pendingStart := none, clearing := none, toggleAt := none, phaseOn := true }

/-- The Indicator Unit's warm restart (R172), its full-refresh request apart. -/
def Indicator.restarted (u : Indicator) (elapsed : Nat) : Indicator :=
  { u with
    entries := tmap 512 u.entries fun _ e => { e with lastSent := none }
    phaseOn := true
    toggleAt := if u.mode = .steady then none else some (elapsed + u.halfPeriod) }

end Sys2Proof.Machine
end

