-- ==== Sys2Proof/Machine/Lines.lean ====
section
/-! DEFINITION. The Line Controllers (chapter 5): node configuration, the line arbiter, exchanges and their answers, link states and
line states. -/

namespace Sys2Proof.Machine

/-! ### Configuring nodes (R94, R95) -/

/-- The configuration fields of a node are written (R94). -/
def configureNode (a : NodeWrite) (s : State) : State :=
  s.modNode a.node fun nd => { nd with config := a.config, zone := a.zone, heldOpenLimit := a.heldOpenLimit }

/-- A node's fields that a change of kind returns to their first values (R94): mode NORMAL, window state outside, alarm latch
clear, door condition UNKNOWN, held-open timer stopped. -/
def resetNodeFields (n : NodeAddr) (s : State) : State :=
  handDoor n ((setDoor n .unknown false s).modNode n fun nd => { nd with mode := .normal, inside := false, heldOpen := none })

/-- A node becomes UNPOLLED with missed answers 0 (R94, R108, R110). -/
def Node.unpolled (nd : Node) : Node := { nd with link := .unpolled, missed := 0 }

/-- A node written to kind NONE has both marks cleared, the lamp mark with its report (R94). -/
def dropMarks (n : NodeAddr) (s : State) : State :=
  clearLampMarks (fun m => decide (m = n))
    ((s.modNode n fun nd => { nd with modePending := false }).modLine n.line fun ln =>
      ln.remarkMode (fun a => decide (a = n.addr)) false)

/-- The further effects of WRITE NODE by the change of kind (R94). -/
def applyKindChange (n : NodeAddr) (old new : NodeConfig) (s : State) : State :=
  if old.code = new.code then s
  else if old.configured = false then (resetNodeFields n s).modNode n Node.unpolled
  else if new.configured then setModeMark n (resetNodeFields n s)
  else dropMarks n ((resetNodeFields n s).modNode n Node.unpolled)

/-- WRITE NODE (R94). -/
def writeNode (a : NodeWrite) (s : State) : Owned :=
  if (s.node a.node).grant.isSome ∨ (s.charge.sessionAt a.node).isSome then refuse .conflict s
  else accept [] (applyKindChange a.node (s.node a.node).config a.config (configureNode a s))

/-- WRITE NODE. -/
def execWriteNode (port : Port) (params : List Byte) (s : State) : Host.Outcome State Fault Refusal :=
  .next (takeCommand .writeNode port params parseWriteNode writeNode s)

/-- READ NODE (R95). -/
def readNode (n : NodeAddr) (s : State) : Owned := accept (s.nodeRecord n) s

/-- READ NODE. -/
def execReadNode (port : Port) (params : List Byte) (s : State) : Host.Outcome State Fault Refusal :=
  .next (takeCommand .readNode port params parseNode readNode s)

/-! ### The line arbiter (R98 to R102) -/

/-- What the arbiter of a line may choose (R98). -/
inductive LineChoice where
  | busyReply (addr : Fin 64)
  | verdict (v : QueuedVerdict)
  | mode (addr : Fin 64)
  | rotation (addr : Fin 64)
deriving DecidableEq, Repr

/-- The lowest address whose mode-pending mark is to be served (R98). -/
def State.modeOwed (s : State) (l : LineIx) : Option (Fin 64) :=
  tfind 64 (tget s.nodes l) fun nd => nd.modePending && decide (nd.link ≠ .offline)

/-- The first configured node at or after the rotation position, wrapping from 63 to 0 (R99). -/
def State.rotationNode (s : State) (l : LineIx) : Option (Fin 64) :=
  ((List.range 64).map fun i => (s.line l).rotation + Fin.ofNat 64 i).find? fun a =>
    (s.node ⟨l, a⟩).config.configured

/-- The arbiter's choice on a line (R98); none on a line that begins no exchange. -/
def State.lineChoice (s : State) (l : LineIx) : Option LineChoice :=
  let ln := s.line l
  if s.inRun = false ∨ ln.state = .stopped ∨ ln.exchange ≠ none then none
  else match ln.busy, ln.verdicts.head?, s.modeOwed l with
    | some a, _, _ => some (.busyReply a)
    | none, some v, _ => some (.verdict v)
    | none, none, some a => some (.mode a)
    | none, none, none => (s.rotationNode l).map .rotation

/-- An exchange begins with a frame to an address (R96). -/
def beginExchange (l : LineIx) (addr : Fin 64) (frame : OutFrame) (s : State) : State :=
  s.modLine l fun ln => { ln with exchange := some { addr := addr, frame := frame, markAgain := false } }

/-- The frame of a rotation turn to a node (R99). -/
def State.turnFrame (s : State) (n : NodeAddr) : OutFrame :=
  if (s.node n).lampPending then .lamps (s.lampsFor n) else .poll

/-- ROTATION TURN (R99). -/
def rotationTurn (l : LineIx) (s : State) : State :=
  match s.lineChoice l with
  | some (.rotation a) =>
    (beginExchange l a (s.turnFrame ⟨l, a⟩) s).modLine l fun ln => { ln with rotation := a + 1 }
  | _ => s

/-- ROTATION TURN. -/
def execRotationTurn (line : LineIx) (s : State) : Host.Outcome State Fault Refusal := .next (rotationTurn line s)

/-- VERDICT FRAME (R101). -/
def verdictFrame (l : LineIx) (s : State) : State :=
  match s.lineChoice l with
  | some (.verdict v) => beginExchange l v.addr (.verdict v.verdict.outcome) s
  | _ => s

/-- VERDICT FRAME. -/
def execVerdictFrame (line : LineIx) (s : State) : Host.Outcome State Fault Refusal := .next (verdictFrame line s)

/-- BUSY REPLY (R102). -/
def busyReply (l : LineIx) (s : State) : State :=
  match s.lineChoice l with
  | some (.busyReply a) => beginExchange l a .busyReply s
  | _ => s

/-- BUSY REPLY. -/
def execBusyReply (line : LineIx) (s : State) : Host.Outcome State Fault Refusal := .next (busyReply line s)

/-- MODE FRAME (R100). -/
def modeFrame (l : LineIx) (s : State) : State :=
  match s.lineChoice l with
  | some (.mode a) => beginExchange l a (.mode (s.node ⟨l, a⟩).mode.name) s
  | _ => s

/-- MODE FRAME. -/
def execModeFrame (line : LineIx) (s : State) : Host.Outcome State Fault Refusal := .next (modeFrame line s)

/-! ### The end of an exchange (R96, R101 to R105) -/

/-- The exchange in flight becomes absent (R96). -/
def endExchange (l : LineIx) (s : State) : State := s.modLine l fun ln => { ln with exchange := none }

/-- The report that a node's lamps were served (R99, R170): last sent of the room that names the node takes the states sent, and a
node whose mark is left clear leaves the outstanding set. -/
def lampsServed (n : NodeAddr) (sent : LampSet) (again : Bool) (s : State) : State :=
  let noted := match s.doorRoom n with
    | some r => s.modLamp r fun e => { e with lastSent := some sent }
    | none => s
  let marked := noted.modNode n fun nd => { nd with lampPending := again }
  settleSweep (if again then marked else
    { marked with lamps := { marked.lamps with outstanding := marked.lamps.outstanding.filter fun m => decide (m ≠ n) } })

/-- The verdict at the head of a line's Verdict Queue leaves it, with its presentation unless it is a remote verdict (R63,
R101). -/
def popVerdict (l : LineIx) (s : State) : State :=
  match (s.line l).verdicts with
  | [] => s
  | v :: rest =>
    let popped := s.modLine l fun ln => { ln with verdicts := rest }
    if v.remote then popped else releasePresentation l popped

/-- A VERDICT frame whose answer was missed (R101): VERDICT_UNCONFIRMED for a GRANT, and the verdict leaves the queue. -/
def verdictMissed (l : LineIx) (s : State) : State :=
  match (s.line l).verdicts.head? with
  | none => s
  | some v =>
    let popped := popVerdict l s
    match v.verdict.outcome with
    | .deny => popped
    | .grant =>
      offer
        { kind := .verdictUnconfirmed, cls := .notice, time := s.now, node := some ⟨l, v.addr⟩, card := v.card, key := v.key,
          reason := some (.verdict v.verdict.reason) } popped

/-- The busy reply becomes absent (R102). -/
def dropBusy (l : LineIx) (s : State) : State := s.modLine l fun ln => { ln with busy := none }

/-- A valid answer acknowledges the outbound frame, each by the rule of its kind (R99 to R102). -/
def acknowledge (n : NodeAddr) (x : Exchange) (s : State) : State :=
  match x.frame with
  | .poll => s
  | .lamps sent => lampsServed n sent x.markAgain s
  | .mode _ => s.modNode n fun nd => { nd with modePending := x.markAgain }
  | .verdict _ => popVerdict n.line s
  | .busyReply => dropBusy n.line s

/-- Every answered exchange sets the line's silent count to 0 and ends its FAULT (R103, R105). -/
def Line.heard (ln : Line) : Line :=
  { ln with silent := 0, state := if ln.state = .fault then .running else ln.state }

/-- A configured node's answer applied to its link state (R103). -/
def linkAnswered (n : NodeAddr) (s : State) : State :=
  let answered := s.modNode n fun nd => { nd with missed := 0, link := .online }
  match (s.node n).link with
  | .online => answered
  | .unpolled => setLampMark n (setModeMark n answered)
  | .offline =>
    offer { kind := .nodeOnline, cls := .notice, time := s.now, node := some n } (setLampMark n (setModeMark n answered))

/-- The event that an answer carries is handed to its owner with its arrival time (R97). -/
def handEvent (n : NodeAddr) (a : Answer) (arrival : Stamp) (s : State) : State :=
  match a with
  | .quiet => s
  | .ack => s
  | .present side card => offerPresentation n side card arrival s
  | .door true => takeOpened n arrival s
  | .door false => takeClosed n arrival s
  | .bolt on => takeBolt n on arrival s
  | .button which => takeButton n which s
  | .tray slot kind => if (s.node n).config.isMinibar then minibarTray n slot kind arrival s else s

/-- An exchange in flight on a line of a part in RUN. -/
def State.exchangeOn (s : State) (l : LineIx) : Option Exchange := if s.inRun then (s.line l).exchange else none

/-- An exchange is answered (R96, R97, R103): the frame is acknowledged, the link state follows, the event is handed on. A node
of kind NONE acknowledges its frame alone. That a LAMPS or MODE frame is acknowledged, and its mark cleared with its report, before the
return to ONLINE sets both marks, and that a VERDICT's delivery takes its presentation from the Presentation Queue (R63, R101) before a
PRESENT in the same answer is tested for admission (R62), is the model's choice, log entry 42. -/
def exchangeAnswered (l : LineIx) (a : Answer) (s : State) : State :=
  match s.exchangeOn l with
  | none => s
  | some x =>
    let n : NodeAddr := ⟨l, x.addr⟩
    let heard := (acknowledge n x (endExchange l s)).modLine l Line.heard
    if (s.node n).config.configured then handEvent n a s.now (linkAnswered n heard) else heard

/-- A count raised by one, up to a top. -/
def satTo (top n : Nat) : Nat := min (n + 1) top

/-- A missed exchange in the line's totals (R96) and, for a rotation turn to a configured node, in its silent count (R99, R104). -/
def Line.missed (ln : Line) (bad rotation : Bool) : Line :=
  { ln with
    missedTotal := satTo 65535 ln.missedTotal
    badTotal := if bad then satTo 65535 ln.badTotal else ln.badTotal
    silent := if rotation then satTo 64 ln.silent else ln.silent }

/-- The frame of a rotation turn. -/
def OutFrame.isTurn : OutFrame → Bool
  | .poll => true
  | .lamps _ => true
  | _ => false

/-- A missed exchange handled by the rule of its frame's kind (R99 to R102). -/
def frameMissed (n : NodeAddr) (x : Exchange) (s : State) : State :=
  match x.frame with
  | .verdict _ => verdictMissed n.line s
  | .busyReply => dropBusy n.line s
  | _ => s

/-- A node goes to OFFLINE (R104): record, cause, leaving service, its session abandoned, its lamp mark cleared. -/
def goOffline (n : NodeAddr) (s : State) : State :=
  let told := raise .service .nodeOffline (offer
    { kind := .nodeOffline, cls := .notice, time := s.now, node := some n, room := (s.node n).config.room }
    (s.modNode n fun nd => { nd with link := .offline }))
  let this (m : NodeAddr) : Bool := decide (m = n)
  clearLampMarks this (abandonSessions this (leaveService this told))

/-- A missed exchange applied to the node (R104); a node that is NONE or OFFLINE is not changed. -/
def linkMissed (n : NodeAddr) (s : State) : State :=
  let nd := s.node n
  if nd.config.configured = false ∨ nd.link = .offline then s
  else
    let counted := s.modNode n fun nd => { nd with missed := satTo 3 nd.missed }
    if 3 ≤ nd.missed + 1 then goOffline n counted else counted

/-- A missed rotation turn may take a RUNNING line to FAULT (R105). -/
def faultTest (l : LineIx) (s : State) : State :=
  let count := s.configuredCount l
  if (s.line l).state = .running ∧ 1 ≤ count ∧ count ≤ (s.line l).silent then
    raise .service .lineFault (offer
      { kind := .lineFault, cls := .alarm, time := s.now, detail := Config.lineFaultDetail l count }
      (s.modLine l fun ln => { ln with state := .fault }))
  else s

/-- An exchange is missed (R96, R104, R105). `bad` says that a frame was received and rejected. A miss with a node that is NONE by now
raises the line's totals alone (R104). -/
def exchangeMissed (l : LineIx) (bad : Bool) (s : State) : State :=
  match s.exchangeOn l with
  | none => s
  | some x =>
    let n : NodeAddr := ⟨l, x.addr⟩
    let turn := x.frame.isTurn && (s.node n).config.configured
    let counted := (endExchange l s).modLine l fun ln => ln.missed bad turn
    let linked := linkMissed n (frameMissed n x counted)
    if turn then faultTest l linked else linked

/-- QUIET. -/
def execQuiet (line : LineIx) (s : State) : Host.Outcome State Fault Refusal := .next (exchangeAnswered line .quiet s)

/-- ACK. -/
def execAck (line : LineIx) (s : State) : Host.Outcome State Fault Refusal := .next (exchangeAnswered line .ack s)

/-- PRESENT. -/
def execPresent (line : LineIx) (side : Side) (card : CardId) (s : State) : Host.Outcome State Fault Refusal :=
  .next (exchangeAnswered line (.present side card) s)

/-- DOOR OPENED. -/
def execDoorOpened (line : LineIx) (s : State) : Host.Outcome State Fault Refusal :=
  .next (exchangeAnswered line (.door true) s)

/-- DOOR CLOSED. -/
def execDoorClosed (line : LineIx) (s : State) : Host.Outcome State Fault Refusal :=
  .next (exchangeAnswered line (.door false) s)

/-- BOLT. -/
def execBolt (line : LineIx) (on : Bool) (s : State) : Host.Outcome State Fault Refusal :=
  .next (exchangeAnswered line (.bolt on) s)

/-- BUTTON. -/
def execButton (line : LineIx) (which : Button) (s : State) : Host.Outcome State Fault Refusal :=
  .next (exchangeAnswered line (.button which) s)

/-- TRAY. -/
def execTray (line : LineIx) (slot : TraySlot) (kind : TrayKind) (s : State) : Host.Outcome State Fault Refusal :=
  .next (exchangeAnswered line (.tray slot kind) s)

/-- A received frame is judged (R96): one that is rejected makes the exchange missed as a bad frame; one that is valid is the
answer it is (log entry 7). -/
def frameReceived (l : LineIx) (frame : List Byte) (s : State) : State :=
  match s.exchangeOn l with
  | none => s
  | some x =>
    match answerOf x.addr frame with
    | some a => exchangeAnswered l a s
    | none => exchangeMissed l true s

/-- INVALID ANSWER. -/
def execInvalidAnswer (line : LineIx) (frame : List Byte) (s : State) : Host.Outcome State Fault Refusal :=
  .next (frameReceived line frame s)

/-- ANSWER WINDOW EXPIRY. -/
def execAnswerWindowExpiry (line : LineIx) (s : State) : Host.Outcome State Fault Refusal :=
  .next (exchangeMissed line false s)

/-! ### Line states (R106 to R109) -/

/-- A verdict discarded by a stop, with its VERDICT_UNDELIVERED record (R106). -/
def verdictUndelivered (l : LineIx) (s : State) (v : QueuedVerdict) : State :=
  offer
    { kind := .verdictUndelivered, cls := .notice, time := s.now, node := some ⟨l, v.addr⟩, card := v.card,
      reason := some (.verdict v.verdict.reason) } s

/-- An exchange in flight is cut short: a VERDICT frame is treated as sent with its answer missed (R106). -/
def cutExchange (l : LineIx) (s : State) : State :=
  match (s.line l).exchange with
  | some { frame := .verdict _, .. } => verdictMissed l (endExchange l s)
  | _ => endExchange l s

/-- The mode-pending marks of some nodes are cleared. -/
def clearModeMarks (which : NodeAddr → Bool) (s : State) : State :=
  { s with nodes := mapNodes s.nodes fun n nd => if which n then { nd with modePending := false } else nd }

/-- The nodes of a line. -/
def onLine (l : LineIx) (n : NodeAddr) : Bool := decide (n.line = l)

/-- The effects of STOP LINE on a line that is not STOPPED (R106). -/
def stopLineNow (l : LineIx) (s : State) : State :=
  let cut := cutExchange l s
  let discarded := (cut.line l).verdicts.foldl (verdictUndelivered l) cut
  let emptied := { discarded with verdict := { discarded.verdict with
    queue := discarded.verdict.queue.filter fun x => decide (x.node.line ≠ l) } }
  (clearLampMarks (onLine l) (clearModeMarks (onLine l) emptied)).modLine l fun ln =>
    { ln with state := .stopped, verdicts := [], busy := none }

/-- STOP LINE (R106). -/
def stopLine (l : LineIx) (s : State) : Owned :=
  if (s.line l).state = .stopped then refuse .state s else accept [] (stopLineNow l s)

/-- STOP LINE. -/
def execStopLine (port : Port) (params : List Byte) (s : State) : Host.Outcome State Fault Refusal :=
  .next (takeCommand .stopLine port params parseLine stopLine s)

/-- START LINE (R107). -/
def startLine (l : LineIx) (s : State) : Owned :=
  if (s.line l).state ≠ .stopped then refuse .state s
  else accept [] (s.modLine l fun ln => { ln with state := .running, silent := 0, rotation := 0 })

/-- START LINE. -/
def execStartLine (port : Port) (params : List Byte) (s : State) : Host.Outcome State Fault Refusal :=
  .next (takeCommand .startLine port params parseLine startLine s)

/-- The counters and the rotation position of a restarted line (R108). -/
def Line.recounted (ln : Line) : Line := { ln with silent := 0, rotation := 0, missedTotal := 0, badTotal := 0 }

/-- Every configured node among some goes to UNPOLLED with missed answers 0 (R108, R110). -/
def unpollNodes (which : NodeAddr → Bool) (s : State) : State :=
  { s with nodes := mapNodes s.nodes fun n nd => if which n && nd.config.configured then nd.unpolled else nd }

/-- RESTART LINE (R108). A line already STOPPED has the marks of its nodes cleared (R99, R100). -/
def restartLine (l : LineIx) (s : State) : Owned :=
  let stopped :=
    if (s.line l).state = .stopped then clearLampMarks (onLine l) (clearModeMarks (onLine l) s) else stopLineNow l s
  let emptied := abandonSessions (onLine l) (leaveService (onLine l) (unpollNodes (onLine l) stopped))
  accept [] (emptied.modLine l fun ln => { ln.recounted with state := .running })

/-- RESTART LINE. -/
def execRestartLine (port : Port) (params : List Byte) (s : State) : Host.Outcome State Fault Refusal :=
  .next (takeCommand .restartLine port params parseLine restartLine s)

/-- READ LINE (R109). -/
def readLine (l : LineIx) (s : State) : Owned := accept (s.lineBytes l) s

/-- READ LINE. -/
def execReadLine (port : Port) (params : List Byte) (s : State) : Host.Outcome State Fault Refusal :=
  .next (takeCommand .readLine port params parseLine readLine s)

end Sys2Proof.Machine
end

