-- ==== Sys2Proof/Machine/Ports.lean ====
section
/-! DEFINITION. Frames and inputs of the master ports (chapter 9), and the Attention Unit's commands (chapter 10). -/

namespace Sys2Proof.Machine

/-! ### Frames (R175 to R181) -/

/-- UNKNOWN COMMAND (R176): a frame with no code is TRUNCATED, a code that is not in the command index is UNKNOWN_COMMAND. A code
of the index is no such frame, and changes nothing (log entry 26). -/
def unknownFrame (p : Port) (code : Option Byte) (s : State) : State :=
  if s.listening p = false ∨ (code.bind Command.ofCode).isSome then s
  else if (s.port p).phase.isWorking then discardFrame p s
  else answer p code ⟨if code.isSome then .unknownCommand else .truncated, []⟩ (openCommand p s)

/-- UNKNOWN COMMAND. -/
def execUnknownCommand (port : Port) (code : Option Byte) (s : State) : Host.Outcome State Fault Refusal :=
  .next (unknownFrame port code s)

/-- COMMAND FRAME DISCARDED (R178): a frame whose select is released while the port is WORKING. On another port the frame is no
discarded one, and the event changes nothing (log entry 26). -/
def execCommandFrameDiscarded (port : Port) (s : State) : Host.Outcome State Fault Refusal :=
  .next (if s.listening port && (s.port port).phase.isWorking then discardFrame port s else s)

/-- STATUS FRAME (R180): the status block is clocked out as far as select lasts, and the refusal marker and the restart mark are
cleared. -/
def statusFrame (p : Port) (clocked : Nat) (s : State) : State :=
  if s.listening p = false then s
  else s.modPort p fun q => { q with refusal := false, restart := .none, dataOut := (s.statusBlock p).take clocked }

/-- STATUS FRAME. -/
def execStatusFrame (port : Port) (clocked : Nat) (s : State) : Host.Outcome State Fault Refusal :=
  .next (statusFrame port clocked s)

/-- The port once a result frame has clocked some bytes out: DONE becomes IDLE when the whole record was clocked out (R181). -/
def PortRec.resultRead (q : PortRec) (clocked : Nat) : PortRec :=
  { q with
    dataOut := q.resultBytes.take clocked
    phase := if q.phase = .done ∧ q.resultBytes.length ≤ clocked then .idle else q.phase }

/-- RESULT FRAME (R181). -/
def resultFrame (p : Port) (clocked : Nat) (s : State) : State :=
  if s.listening p = false then s else s.modPort p fun q => q.resultRead clocked

/-- RESULT FRAME. -/
def execResultFrame (port : Port) (clocked : Nat) (s : State) : Host.Outcome State Fault Refusal :=
  .next (resultFrame port clocked s)

/-! ### Port reset (R182) -/

/-- PORT RESET ASSERTED (R182): from now on the port ignores select and clock. -/
def execPortResetAsserted (port : Port) (s : State) : Host.Outcome State Fault Refusal :=
  .next (s.modPort port fun q => { q with resetHeld := true })

/-- A port record at the release of its reset input (R182). -/
def PortRec.released (q : PortRec) : PortRec :=
  { q with
    phase := if q.phase.isWorking then q.phase else .idle
    result := none
    refusal := false
    restart := .none
    resetHeld := false }

/-- PORT RESET, the release of the input (R182). While the part is in RETAIN only the input's level is followed (log entry 25). -/
def portReset (p : Port) (s : State) : State :=
  if s.inRun then (s.modPort p PortRec.released).modAttn p fun a => { a with levels := defaultLevels p }
  else s.modPort p fun q => { q with resetHeld := false }

/-- PORT RESET. -/
def execPortReset (port : Port) (s : State) : Host.Outcome State Fault Refusal := .next (portReset port s)

/-! ### Attention (R186 to R188) -/

/-- The higher of two causes for VECTOR: the higher level, or the lower number among equals (R186). -/
def Attn.better (a : Attn) (best : Option (Fin 14)) (k : Fin 14) : Option (Fin 14) :=
  if a.asserts k then
    match best with
    | some b => if a.levels[b.val] < a.levels[k.val] then some k else some b
    | none => some k
  else best

/-- The cause that VECTOR selects (R186): the pending cause of highest non-zero level, the lowest number among equals. -/
def Attn.selected (a : Attn) : Option (Fin 14) := (List.finRange 14).foldl a.better none

/-- The cause numbered k on a port is PEER_NOTICE. -/
def isPeerNotice (p : Port) (k : Fin 14) : Bool := decide (Cause.number p .peerNotice = some k)

/-- A port's attention state once a cause is taken: its pending flag clear, and the replaced mark clear for PEER_NOTICE (R186). -/
def Attn.take (a : Attn) (p : Port) (k : Fin 14) : Attn :=
  { a with
    pending := a.pending.set k.val false
    noticeReplaced := if isPeerNotice p k then false else a.noticeReplaced }

/-- The returned data of VECTOR (R186; log entry 8). -/
def Attn.vectorData (a : Attn) (p : Port) : List Byte :=
  match a.selected with
  | none => [0xFF, 0xFF, 0, 0]
  | some k =>
    u8 k.val ++ u8 a.levels[k.val].val ++ u16 (a.take p k).remaining
      ++ (if isPeerNotice p k then
            [a.noticeValue] ++ uEnum? (a.noticeSender.map Port.code) ++ uFlag a.noticeReplaced
          else [])

/-- VECTOR on a port's attention state (R186). -/
def Attn.vectored (a : Attn) (p : Port) : Attn :=
  match a.selected with
  | none => a
  | some k => a.take p k

/-- VECTOR (R186): the claim first takes the raise of its own COMMAND_DONE, then selects and clears. The port then has its answer,
whose COMMAND_DONE has been raised already. -/
def vector (p : Port) (s : State) : State :=
  let raised := raise p .commandDone s
  placeResult p (some (Command.code .vector)) ⟨.ok, (raised.att p).vectorData p⟩ (raised.modAttn p fun a => a.vectored p)

/-- VECTOR. -/
def execVector (port : Port) (params : List Byte) (s : State) : Host.Outcome State Fault Refusal :=
  .next (takeCommand .vector port params parseNothing (fun _ t => (vector port t, none)) s)

/-- SET CAUSE LEVELS: fourteen entries; an entry for a number that the port does not have must be unchanged (R187). -/
def parseCauseLevels (p : Port) (ps : List Byte) : Option (List (Option (Fin 8))) :=
  ((List.range 14).mapM (levelAt ps)).bind fun ls =>
    if (ls.drop (causeCount p)).all Option.isNone then some ls else none

/-- SET CAUSE LEVELS on a port's attention state (R187). -/
def Attn.withLevels (a : Attn) (ls : List (Option (Fin 8))) : Attn :=
  { a with levels := Vector.ofFn fun k : Fin 14 => ((ls[k.val]?).bind id).getD a.levels[k.val] }

/-- SET CAUSE LEVELS (R187). -/
def setCauseLevels (p : Port) (ls : List (Option (Fin 8))) (s : State) : Owned :=
  accept [] (s.modAttn p fun a => a.withLevels ls)

/-- SET CAUSE LEVELS. -/
def execSetCauseLevels (port : Port) (params : List Byte) (s : State) : Host.Outcome State Fault Refusal :=
  .next (takeCommand .setCauseLevels port params (parseCauseLevels port) (setCauseLevels port) s)

/-- A peer notice stored at its target (R188): the replaced mark is set where one was already pending. -/
def Attn.noticed (a : Attn) (value : Byte) (sender : Port) (already : Bool) : Attn :=
  { a with noticeValue := value, noticeSender := some sender, noticeReplaced := already }

/-- PEER NOTICE (R188). -/
def peerNotice (p : Port) (x : Port × Byte) (s : State) : Owned :=
  let already := s.isPending x.1 .peerNotice
  accept [] (raise x.1 .peerNotice (s.modAttn x.1 fun a => a.noticed x.2 p already))

/-- PEER NOTICE. -/
def execPeerNotice (port : Port) (params : List Byte) (s : State) : Host.Outcome State Fault Refusal :=
  .next (takeCommand .peerNotice port params parsePeerNotice (peerNotice port) s)

end Sys2Proof.Machine
end

