-- ==== Sys2Proof/Machine/Rooms.lean ====
section
/-! DEFINITION. Commands on rooms (chapter 1). -/

namespace Sys2Proof.Machine

/-! ### Stays (R4 to R7) -/

/-- The Charge Unit takes a Bind claim, or none is made (R116). -/
def State.folioTakes (s : State) : Option FolioIx → Bool
  | some f => decide ((s.folio f).state = .opened) && decide ((s.folio f).rooms.length < Config.folioRoomMax)
  | none => true

/-- The Bind claim of R116. -/
def bindFolio (f : Option FolioIx) (r : RoomIx) (s : State) : State :=
  match f with
  | some f => s.modFolio f fun x => { x with rooms := x.rooms ++ [r] }
  | none => s

/-- CHECK IN (R4). -/
def checkIn (a : RoomIx × Option FolioIx × BitVec 16) (s : State) : Owned :=
  let (r, f, note) := a
  if (s.room r).phase ≠ .vacant then refuse .state s
  else if s.folioTakes f = false then refuse .folio s
  else
    let stayed := (bumpGeneration r s).modRoom r fun rm => { rm with phase := .occupied, folio := f.or rm.folio }
    let recorded := offer { kind := .roomCheckin, cls := .notice, time := s.now, room := some r, detail := note }
      (bindFolio f r stayed)
    accept [(recorded.room r).generation] recorded

/-- CHECK IN. -/
def execCheckIn (port : Port) (params : List Byte) (s : State) : Host.Outcome State Fault Refusal :=
  .next (takeCommand .checkIn port params parseCheckIn (arbitrated checkIn) s)

/-- The phase of a room at checkout: OCCUPIED goes to CLOSING, BLOCKED keeps its reason with prior state VACANT (R5). -/
def RoomPhase.checkedOut : RoomPhase → RoomPhase
  | .blocked _ why => .blocked .vacant why
  | _ => .closing

/-- CHECK OUT (R5). -/
def checkOut (r : RoomIx) (s : State) : Owned :=
  if (s.room r).stayInProgress = false ∨ (s.room r).movedFrom ≠ none then refuse .state s
  else if s.scanFull then refuse .scanFull s
  else
    accept [] (offer { kind := .roomCheckout, cls := .notice, time := s.now, room := some r }
      (pushJob (.revokeRoom r .checkout .front)
        ((bumpGeneration r s).modRoom r fun rm =>
          { rm with phase := rm.phase.checkedOut, closing := some .scanPending })))

/-- CHECK OUT. -/
def execCheckOut (port : Port) (params : List Byte) (s : State) : Host.Outcome State Fault Refusal :=
  .next (takeCommand .checkOut port params parseRoom (arbitrated checkOut) s)

/-- The Swap claim of R116: the source room's place in the list goes to the target. -/
def swapFolio (f : Option FolioIx) (source target : RoomIx) (s : State) : State :=
  match f with
  | some f => s.modFolio f fun x => { x with rooms := x.rooms.map fun r => if r = source then target else r }
  | none => s

/-- MOVE STAY (R7). That the returned data give the source's new generation first and the target's after it is the model's choice, log
entry 41. -/
def moveStay (a : RoomIx × RoomIx) (s : State) : Owned :=
  let (source, target) := a
  let src := s.room source
  let tgt := s.room target
  if source = target then refuse .badParam s
  else if src.phase ≠ .occupied ∨ src.movedFrom ≠ none ∨ tgt.phase ≠ .vacant ∨ tgt.closing ≠ none then refuse .state s
  else if s.scanFull then refuse .scanFull s
  else
    let targeted := (bumpGeneration target s).modRoom target fun rm =>
      { rm with phase := .occupied, movedFrom := some ⟨source, src.generation⟩, folio := src.folio.or rm.folio }
    let sourced := (bumpGeneration source targeted).modRoom source fun rm =>
      { rm with phase := .closing, closing := some .scanPending, folio := none }
    let recorded := offer
      { kind := .roomMove, cls := .notice, time := s.now, room := some target, detail := BitVec.ofNat 16 source.val }
      (pushJob (.rebind source target src.generation .front) (swapFolio src.folio source target sourced))
    accept [(recorded.room source).generation, (recorded.room target).generation] recorded

/-- MOVE STAY. -/
def execMoveStay (port : Port) (params : List Byte) (s : State) : Host.Outcome State Fault Refusal :=
  .next (takeCommand .moveStay port params parseMoveStay (arbitrated moveStay) s)

/-! ### Blocking (R9, R10) -/

/-- The prior state that blocking records; none where the room cannot be blocked (R9). -/
def RoomPhase.prior : RoomPhase → Option PriorState
  | .vacant => some .vacant
  | .occupied => some .occupied
  | _ => none

/-- The ROOM_BLOCK record of R9 and R10. -/
def offerBlock (r : RoomIx) (detail : BitVec 16) (s : State) : State :=
  offer { kind := .roomBlock, cls := .notice, time := s.now, room := some r, detail := detail } s

/-- BLOCK ROOM (R9). -/
def blockRoom (a : RoomIx × Byte) (s : State) : Owned :=
  let (r, why) := a
  match (s.room r).phase.prior with
  | none => refuse .state s
  | some prior =>
    accept [] (offerBlock r (why.setWidth 16) (s.modRoom r fun rm => { rm with phase := .blocked prior why }))

/-- BLOCK ROOM. -/
def execBlockRoom (port : Port) (params : List Byte) (s : State) : Host.Outcome State Fault Refusal :=
  .next (takeCommand .blockRoom port params parseBlockRoom blockRoom s)

/-- The phase to which a blocked room returns (R10). -/
def Room.unblocked (rm : Room) : RoomPhase :=
  match rm.phase with
  | .blocked prior _ =>
    if rm.closing.isSome then .closing
    else match prior with
      | .vacant => .vacant
      | .occupied => .occupied
  | other => other

/-- UNBLOCK ROOM (R10). -/
def unblockRoom (r : RoomIx) (s : State) : Owned :=
  if (s.room r).isBlocked = false then refuse .state s
  else accept [] (offerBlock r 0xFFFF (s.modRoom r fun rm => { rm with phase := rm.unblocked }))

/-- UNBLOCK ROOM. -/
def execUnblockRoom (port : Port) (params : List Byte) (s : State) : Host.Outcome State Fault Refusal :=
  .next (takeCommand .unblockRoom port params parseRoom unblockRoom s)

/-! ### Configuration (R11 to R13) -/

/-- A node of kind ROOM_DOOR whose room field names the room. -/
def State.isDoorOf (s : State) (n : NodeAddr) (r : RoomIx) : Bool := decide ((s.node n).config = .roomDoor r)

/-- A node of kind MINIBAR whose room field names the room. -/
def State.isMinibarOf (s : State) (n : NodeAddr) (r : RoomIx) : Bool :=
  match (s.node n).config with
  | .minibar q _ => decide (q = r)
  | _ => false

/-- A room names a node as door node or minibar node. -/
def Room.names (rm : Room) (n : NodeAddr) : Bool := decide (rm.doorNode = some n) || decide (rm.minibarNode = some n)

/-- Another room names a node as door node or minibar node (R11). -/
def State.namedElsewhere (s : State) (r : RoomIx) (n : NodeAddr) : Bool :=
  (tfind 512 (tmap 512 s.rooms fun q rm => decide (q ≠ r) && rm.names n) id).isSome

/-- The CONFLICT cases of WRITE ROOM (R11). That a minibar node left out, where the room holds one and has a session, counts as a
minibar node given that differs is the model's choice, log entry 43. -/
def State.writeRoomConflict (s : State) (r : RoomIx) (door minibar : Option NodeAddr) : Bool :=
  door.any (fun n => !s.isDoorOf n r || s.namedElsewhere r n)
    || minibar.any (fun n => !s.isMinibarOf n r || s.namedElsewhere r n)
    || (decide (minibar ≠ (s.room r).minibarNode) && (s.charge.sessionOfRoom r).isSome)

/-- A room's door node has changed: the derived lamps are written again and last sent becomes absent (R163). -/
def redoLamps (r : RoomIx) (s : State) : State :=
  let rm := s.room r
  let alarm := match rm.doorNode with
    | some n => alarmLit (s.node n).door (s.node n).latch
    | none => false
  s.modLamp r fun e =>
    { e with primary := { e.primary with privacy := rm.privacy, makeup := rm.makeup, alarm := alarm }, lastSent := none }

/-- WRITE ROOM (R11). That STATE is tested before CONFLICT is the model's choice, log entry 43. -/
def writeRoom (a : RoomIx × BitVec 16 × Option NodeAddr × Option NodeAddr) (s : State) : Owned :=
  let (r, label, door, minibar) := a
  let rm := s.room r
  if rm.phase = .occupied ∨ rm.phase = .closing then refuse .state s
  else if s.writeRoomConflict r door minibar then refuse .conflict s
  else
    let written := s.modRoom r fun rm => { rm with label := label, doorNode := door, minibarNode := minibar }
    if rm.doorNode = door then accept [] written
    else accept [] (redoLamps r (written.modRoom r fun rm => { rm with door := .unknown, privacy := false }))

/-- WRITE ROOM. -/
def execWriteRoom (port : Port) (params : List Byte) (s : State) : Host.Outcome State Fault Refusal :=
  .next (takeCommand .writeRoom port params parseWriteRoom writeRoom s)

/-- A room is CLOSING or has a closing present. -/
def Room.isClosing (rm : Room) : Bool := decide (rm.phase = .closing) || rm.closing.isSome

/-- A node is the connecting node of a room other than two (R12). -/
def State.connectsElsewhere (s : State) (a b : RoomIx) (n : NodeAddr) : Bool :=
  (tfind 512 (tmap 512 s.rooms fun q rm =>
    decide (q ≠ a) && decide (q ≠ b) && decide (rm.pairing.map Pairing.node = some n)) id).isSome

/-- The CONFLICT cases of PAIR ROOMS (R12). -/
def State.pairConflict (s : State) (a b : RoomIx) (n : NodeAddr) : Bool :=
  (s.room a).pairing.isSome || (s.room b).pairing.isSome
    || !(decide ((s.node n).config = .connectDoor a) || decide ((s.node n).config = .connectDoor b))
    || s.connectsElsewhere a b n

/-- PAIR ROOMS (R12). That BAD_PARAM is tested before STATE and STATE before CONFLICT is the model's choice, log entry 43. -/
def pairRooms (x : RoomIx × RoomIx × NodeAddr) (s : State) : Owned :=
  let (a, b, n) := x
  if a = b then refuse .badParam s
  else if (s.room a).isClosing ∨ (s.room b).isClosing then refuse .state s
  else if s.pairConflict a b n then refuse .conflict s
  else accept [] ((s.modRoom a fun rm => { rm with pairing := some ⟨b, n⟩ }).modRoom b fun rm =>
    { rm with pairing := some ⟨a, n⟩ })

/-- PAIR ROOMS. -/
def execPairRooms (port : Port) (params : List Byte) (s : State) : Host.Outcome State Fault Refusal :=
  .next (takeCommand .pairRooms port params parsePairRooms pairRooms s)

/-- UNPAIR ROOMS (R13). -/
def unpairRooms (r : RoomIx) (s : State) : Owned :=
  match (s.room r).pairing with
  | none => refuse .state s
  | some p =>
    if (s.room r).isClosing ∨ (s.room p.room).isClosing then refuse .state s
    else accept [] ((s.modRoom r fun rm => { rm with pairing := none }).modRoom p.room fun rm => { rm with pairing := none })

/-- UNPAIR ROOMS. -/
def execUnpairRooms (port : Port) (params : List Byte) (s : State) : Host.Outcome State Fault Refusal :=
  .next (takeCommand .unpairRooms port params parseRoom unpairRooms s)

/-! ### Flags and reading (R15, R18) -/

/-- SET MAKEUP (R15). -/
def writeMakeup (a : RoomIx × Bool) (s : State) : Owned := accept [] (setMakeup a.1 a.2 s)

/-- SET MAKEUP. -/
def execSetMakeup (port : Port) (params : List Byte) (s : State) : Host.Outcome State Fault Refusal :=
  .next (takeCommand .setMakeup port params parseSetMakeup writeMakeup s)

/-- READ ROOM (R18). -/
def readRoom (r : RoomIx) (s : State) : Owned := accept (s.roomRecord r) s

/-- READ ROOM. -/
def execReadRoom (port : Port) (params : List Byte) (s : State) : Host.Outcome State Fault Refusal :=
  .next (takeCommand .readRoom port params parseRoom readRoom s)

end Sys2Proof.Machine
end

