-- ==== Sys2Proof/Machine/Times.lean ====
section
/-! DEFINITION. Hotel time (11.1): the crystal, the minute tick, and the timers that run by elapsed time (R191). -/

namespace Sys2Proof.Machine

/-! ### The crystal (R190, R192) -/

/-- Crystal periods go by, fewer than would reach a minute tick (R190). -/
def Supply.pass (c : Supply) (periods : Nat) : Supply :=
  { c with
    counter := c.counter + BitVec.ofNat 32 ((c.fraction + periods) / Config.crystalHz)
    fraction := (c.fraction + periods) % Config.crystalHz
    elapsed := c.elapsed + periods }

/-- Seconds from a counter value until the counter next reaches a multiple of 60, wrapping from 4,294,967,295 to 0 (R190,
R192). -/
def secondsToTick (counter : HotelTime) : Nat := min (60 - counter.toNat % 60) (4294967296 - counter.toNat)

/-- Crystal periods until the next minute tick. -/
def Supply.toTick (c : Supply) : Nat := secondsToTick c.counter * Config.crystalHz - c.fraction

/-- A minute tick is delivered to its three blocks (R192). -/
def deliverTick (s : State) : State :=
  let compared := compareWindows (requestExpiry s)
  if compared.inRun then requestSweep .full compared else compared

/-- Time goes on by some crystal periods, no minute tick among them. -/
def passPeriods (periods : Nat) (s : State) : State := { s with supply := s.supply.pass periods }

/-- Time goes on to the next minute tick, which is delivered (R192). -/
def passToTick (s : State) : State := deliverTick (passPeriods s.supply.toTick s)

/-- Time goes on until a deadline in elapsed time, with every minute tick on the way delivered. -/
def passSteps : Nat → Nat → State → State
  | 0, _, s => s
  | fuel + 1, deadline, s =>
    if deadline ≤ s.supply.elapsed then s
    else if s.supply.elapsed + s.supply.toTick ≤ deadline then passSteps fuel deadline (passToTick s)
    else passPeriods (deadline - s.supply.elapsed) s

/-- Time goes on until a deadline; a minute holds at most one tick, and one more may lie at each end. -/
def passUntil (deadline : Nat) (s : State) : State :=
  passSteps ((deadline - s.supply.elapsed) / (60 * Config.crystalHz) + 3) deadline s

/-- One crystal period: what the part does while no event waits (log entry 1). A part whose retention domain is lost keeps no
time. -/
def idlePeriod (s : State) : State :=
  if s.supply.power = .lost then s
  else if s.supply.toTick ≤ 1 then passToTick s else passPeriods 1 s

/-- MINUTE TICK (R192). -/
def execMinuteTick (s : State) : Host.Outcome State Fault Refusal :=
  .next (if s.supply.power = .lost then s else passToTick s)

/-! ### Timers that run by elapsed time (R191) -/

/-- The due time of a timer, read from the state; none while it is stopped. -/
abbrev Timer := State → Option Nat

/-- A timer expires: time goes on to its expiry, and where it is then due its effect is taken. -/
def expireTimer (timer : Timer) (effect : State → State) (s : State) : State :=
  match s.inRun, timer s with
  | true, some deadline =>
    let passed := passUntil deadline s
    if (timer passed).any fun d => decide (d ≤ passed.supply.elapsed) then effect passed else passed
  | _, _ => s

/-- The grant window of a node (R80). -/
def grantTimer (n : NodeAddr) : Timer := fun s => (s.node n).grant.map fun g => g.since + Config.grantWindow

/-- GRANT WINDOW EXPIRY (R80). -/
def execGrantWindowExpiry (node : NodeAddr) (s : State) : Host.Outcome State Fault Refusal :=
  .next (expireTimer (grantTimer node) (expireGrant node) s)

/-- The held-open timer of a node (R82). -/
def heldOpenTimer (n : NodeAddr) : Timer := fun s => (s.node n).heldOpen.map HeldOpenTimer.expiry

/-- HELD OPEN TIMER EXPIRY (R82). -/
def execHeldOpenTimerExpiry (node : NodeAddr) (s : State) : Host.Outcome State Fault Refusal :=
  .next (expireTimer (heldOpenTimer node) (expireHeldOpen node) s)

/-- The open limit of the session at a node (R124). -/
def openLimitTimer (n : NodeAddr) : Timer := fun s => (s.charge.sessionAt n).bind Session.limitAt

/-- OPEN LIMIT EXPIRY (R124). -/
def execOpenLimitExpiry (node : NodeAddr) (s : State) : Host.Outcome State Fault Refusal :=
  .next (expireTimer (openLimitTimer node) (expireOpenLimit node) s)

/-- The flush timer (R141). -/
def flushTimer : Timer := fun s => s.journal.flushAt

/-- FLUSH TIMER EXPIRY (R141). -/
def execFlushTimerExpiry (s : State) : Host.Outcome State Fault Refusal := .next (expireTimer flushTimer expireFlush s)

/-- The blink generator (R165). -/
def blinkTimer : Timer := fun s => s.lamps.toggleAt

/-- A toggle at the end of the running half-period; the next is reckoned from it (R165, log entry 29). -/
def toggleDue (s : State) : State :=
  match s.lamps.toggleAt with
  | some at_ => toggleBlink at_ s
  | none => s

/-- BLINK PHASE TOGGLE (R165). -/
def execBlinkPhaseToggle (s : State) : Host.Outcome State Fault Refusal := .next (expireTimer blinkTimer toggleDue s)

/-! ### Commands on the clock (R191) -/

/-- The size of a clock step in seconds, in either direction (R191). -/
def clockStep (old new : HotelTime) : Nat := max (old.toNat - new.toNat) (new.toNat - old.toNat)

/-- The detail of the CLOCK_SET record, none where the set offers no record (R191). -/
def Supply.setDetail (c : Supply) (new : HotelTime) : Option (BitVec 16) :=
  if c.clockRunning then
    if 300 < clockStep c.counter new then some (BitVec.ofNat 16 (min (clockStep c.counter new / 60) 65534)) else none
  else some 0xFFFF

/-- SET CLOCK (R191). -/
def setClock (t : HotelTime) (s : State) : Owned :=
  let set := { s with supply := { s.supply with counter := t, fraction := 0, clockRunning := true } }
  match s.supply.setDetail t with
  | some d => accept [] (offer { kind := .clockSet, cls := .notice, time := some t, detail := d } set)
  | none => accept [] set

/-- SET CLOCK. -/
def execSetClock (port : Port) (params : List Byte) (s : State) : Host.Outcome State Fault Refusal :=
  .next (takeCommand .setClock port params parseWord setClock s)

/-- READ CLOCK (R191). -/
def readClock (_ : Unit) (s : State) : Owned := accept (clockBytes s.supply) s

/-- READ CLOCK. -/
def execReadClock (port : Port) (params : List Byte) (s : State) : Host.Outcome State Fault Refusal :=
  .next (takeCommand .readClock port params parseNothing readClock s)

end Sys2Proof.Machine
end

