-- ==== Sys2Proof/Machine/Supplies.lean ====
section
/-! DEFINITION. Power states, cold start, the Emergency Key Store and part status (11.2 to 11.4). -/

namespace Sys2Proof.Machine

/-! ### The Emergency Key Store (R196, R197) -/

/-- WRITE EMERGENCY KEY (R196): programming begins, and the answer comes when it ends. -/
def writeEmergency (a : Fin 4 × CardId × Set16) (s : State) : Owned :=
  let (k, card, zones) := a
  if tget s.emergency.slots k ≠ .blank then refuse .slotUsed s
  else ({ s with emergency := { s.emergency with programming := some { slot := k, card := card, zones := zones } } }, none)

/-- WRITE EMERGENCY KEY. -/
def execWriteEmergencyKey (port : Port) (params : List Byte) (s : State) : Host.Outcome State Fault Refusal :=
  .next (takeCommand .writeEmergencyKey port params parseWriteEmergency writeEmergency s)

/-- Programming of a slot ends: the slot is WRITTEN (R196). -/
def EmergencyStore.programmed (e : EmergencyStore) : EmergencyStore :=
  match e.programming with
  | some p => { slots := tset e.slots p.slot (.written p.card p.zones), programming := none }
  | none => e

/-- Programming of a slot that the hold-up did not cover: what the slot holds is a free value (log entry 40). -/
def EmergencyStore.torn (e : EmergencyStore) (elapsed : Nat) : EmergencyStore :=
  match e.programming with
  | some p =>
    { slots := match Config.tornEmergency p.slot elapsed with
        | some (card, zones) => tset e.slots p.slot (.written card zones)
        | none => e.slots
      programming := none }
  | none => e

/-- EMERGENCY PROGRAMMING DONE (R196). -/
def emergencyProgrammingDone (s : State) : State :=
  match s.inRun, s.emergency.programming with
  | true, some _ => answerLong .writeEmergencyKey ⟨.ok, []⟩ { s with emergency := s.emergency.programmed }
  | _, _ => s

/-- EMERGENCY PROGRAMMING DONE. -/
def execEmergencyProgrammingDone (s : State) : Host.Outcome State Fault Refusal := .next (emergencyProgrammingDone s)

/-- FREEZE EMERGENCY KEY (R197). -/
def freezeEmergency (k : Fin 4) (s : State) : Owned :=
  match tget s.emergency.slots k with
  | .written card zones =>
    accept [] { s with emergency := { s.emergency with slots := tset s.emergency.slots k (.frozen card zones) } }
  | _ => refuse .state s

/-- FREEZE EMERGENCY KEY. -/
def execFreezeEmergencyKey (port : Port) (params : List Byte) (s : State) : Host.Outcome State Fault Refusal :=
  .next (takeCommand .freezeEmergencyKey port params parseSlot freezeEmergency s)

/-- READ EMERGENCY KEY (R197). -/
def readEmergency (k : Fin 4) (s : State) : Owned := accept (tget s.emergency.slots k).bytes s

/-- READ EMERGENCY KEY. -/
def execReadEmergencyKey (port : Port) (params : List Byte) (s : State) : Host.Outcome State Fault Refusal :=
  .next (takeCommand .readEmergencyKey port params parseSlot readEmergency s)

/-- PART STATUS (R198). -/
def partStatus (_ : Unit) (s : State) : Owned := accept s.partBytes s

/-- PART STATUS. -/
def execPartStatus (port : Port) (params : List Byte) (s : State) : Host.Outcome State Fault Refusal :=
  .next (takeCommand .partStatus port params parseNothing partStatus s)

/-! ### Entry to RETAIN (R193, Table 11-1) -/

/-- The power state changes. -/
def setPower (p : Power) (s : State) : State := { s with supply := { s.supply with power := p } }

/-- A line's entry to RETAIN (R110). -/
def Line.retained (ln : Line) : Line := { ln with exchange := none, verdicts := [], busy := none }

/-- Every mark of every node is cleared (R110). -/
def Node.unmarked (nd : Node) : Node := { nd with modePending := false, lampPending := false }

/-- The Line Controllers' entry to RETAIN (R110): exchanges, Verdict Queues, busy replies and marks go without records. -/
def linesRetain (s : State) : State :=
  { s with lines := tmap 16 s.lines fun _ ln => ln.retained, nodes := mapNodes s.nodes fun _ nd => nd.unmarked }

/-- Every node. -/
def everyNode (_ : NodeAddr) : Bool := true

/-- The Verdict Engine's entry to RETAIN (R61): its queue is emptied and every node leaves service. -/
def verdictRetain (s : State) : State :=
  leaveService everyNode { s with verdict := { s.verdict with queue := [] } }

/-- The POWER_LOSS record of an entry to RETAIN and the time of last loss (R193). -/
def recordLoss (discarded : Nat) (s : State) : State :=
  let lost := offer { kind := .powerLoss, cls := .notice, time := s.now, detail := BitVec.ofNat 16 discarded } s
  { lost with supply := { lost.supply with lastLoss := some s.now, lossElapsed := s.supply.elapsed } }

/-- Entry to RETAIN, block by block in the order of Table 11-1 (R193). Where the cell is LOW or absent, the retention domain is lost
with the supply (R194). -/
def enterRetain (s : State) : State :=
  let ended := abandonSessions everyNode (verdictRetain (linesRetain (setPower .retain s)))
  let journaled := journalRetain ended
  let stored := { journaled with lamps := journaled.lamps.retained, emergency := journaled.emergency.programmed }
  let recorded := recordLoss s.verdict.queue.length stored
  if s.supply.cell = .low then setPower .lost recorded else recorded

/-- MAIN SUPPLY LOST (R193). -/
def execMainSupplyLost (s : State) : Host.Outcome State Fault Refusal := .next (if s.inRun then enterRetain s else s)

/-! ### Warm restart (R194) -/

/-- A port at warm restart (R174). -/
def PortRec.warm (q : PortRec) : PortRec := { q with phase := .idle, result := none, refusal := false, restart := .warm }

/-- A line at warm restart (R110): a STOPPED line stays STOPPED. -/
def Line.warm (ln : Line) : Line :=
  { ln.recounted with state := if ln.state = .stopped then .stopped else .running }

/-- The Line Controllers' warm restart (R110): RUNNING and FAULT lines are restarted as R108 states, without records. -/
def linesRestart (s : State) : State :=
  let restarted (n : NodeAddr) : Bool := decide ((s.line n.line).state ≠ .stopped)
  let cleared := { s with nodes := mapNodes s.nodes fun n nd => if restarted n then nd.unmarked else nd }
  let unpolled := leaveService everyNode (unpollNodes everyNode cleared)
  { unpolled with lines := tmap 16 unpolled.lines fun _ ln => ln.warm }

/-- Whole minutes spent in RETAIN, up to 65,534 (R194). -/
def Supply.minutesLost (c : Supply) : Nat := min ((c.elapsed - c.lossElapsed) / (60 * Config.crystalHz)) 65534

/-- The POWER_RETURN record, cause and status of a warm restart (R194). -/
def recordReturn (s : State) : State :=
  let returned := raise .service .powerReturn (offer
    { kind := .powerReturn, cls := .notice, time := s.now, detail := BitVec.ofNat 16 s.supply.minutesLost } s)
  { returned with supply := { returned.supply with
    lastReturn := some s.now, lastStart := .warm, warmRestarts := min (s.supply.warmRestarts + 1) 65535 } }

/-- A warm restart (R194). -/
def warmRestart (s : State) : State :=
  let ported := { setPower .run s with ports := s.ports.map PortRec.warm }
  let restarted := journalRestart (linesRestart ported)
  recordReturn (requestSweep .full (restarted.modLamps fun u => u.restarted s.supply.elapsed))

/-! ### Cold start (R195) -/

/-- A port at cold start (R174). The level of its reset input and the view of data-out are not the port's state, and stand. -/
def PortRec.cold (q : PortRec) : PortRec := { PortRec.reset with resetHeld := q.resetHeld, dataOut := q.dataOut }

/-- Every block at its initial contents (R195). The content of the Journal Array and the Emergency Key Store survive, save what was being
programmed in a part that lost its supply without the hold-up (R160, log entry 18); the cell's condition is no table, and elapsed time
and the queue are the model's own. -/
def initialContents (s : State) : State :=
  { State.reset with
    ports := s.ports.map PortRec.cold
    journal := (s.journal.torn s.supply.elapsed).rebuilt s.supply.elapsed
    emergency := s.emergency.torn s.supply.elapsed
    supply := { Supply.reset with elapsed := s.supply.elapsed, cell := s.supply.cell }
    pending := s.pending }

/-- A cold start (R195, R160). TABLES_LOST and CLOCK_UNSET stand in State.reset; JOURNAL_JAM is raised where the rebuild leaves the
journal JAMMED; the POWER_RETURN record is offered with detail FFFFh. -/
def coldStart (s : State) : State :=
  let initial := initialContents s
  let jammed := if initial.journal.jammed then raise .service .journalJam initial else initial
  offer { kind := .powerReturn, cls := .notice, time := none, detail := 0xFFFF } jammed

/-- COLD START (R195). In a part in RUN it is the power-up after a loss that the hold-up did not cover (log entry 18). -/
def execColdStart (s : State) : Host.Outcome State Fault Refusal := .next (coldStart s)

/-- MAIN SUPPLY RETURN (R194): a warm restart, or a cold start where the retention domain has been lost. -/
def mainSupplyReturn (s : State) : State :=
  match s.supply.power with
  | .run => s
  | .retain => warmRestart s
  | .lost => coldStart s

/-- MAIN SUPPLY RETURN. -/
def execMainSupplyReturn (s : State) : Host.Outcome State Fault Refusal := .next (mainSupplyReturn s)

/-- The cell's condition after a change (R194). -/
def cellAfter : CellChange → Cell
  | .good => .good
  | .low => .low
  | .failed => .low

/-- BACKUP CELL CHANGE (R194): a cell that fails in RETAIN loses the retention domain. That a cell which goes LOW in RETAIN changes its
condition alone and keeps the domain is the model's choice, log entry 46. -/
def backupCellChange (change : CellChange) (s : State) : State :=
  { s with supply := { s.supply with
    cell := cellAfter change
    power := if change = .failed ∧ s.supply.power = .retain then .lost else s.supply.power } }

/-- BACKUP CELL CHANGE. -/
def execBackupCellChange (change : CellChange) (s : State) : Host.Outcome State Fault Refusal :=
  .next (backupCellChange change s)

end Sys2Proof.Machine
end

