-- ==== Sys2Proof/Machine/Dispatch.lean ====
section
/-! DEFINITION. The meaning of every event, one arm per constructor. -/

namespace Sys2Proof.Machine

/-- The effect of an event on everything but the queue. -/
def exec (i : Instr) (s : State) : Host.Outcome State Fault Refusal :=
  match i with
  | .checkIn port params => Sys2Proof.Machine.execCheckIn port params s
  | .checkOut port params => Sys2Proof.Machine.execCheckOut port params s
  | .moveStay port params => Sys2Proof.Machine.execMoveStay port params s
  | .blockRoom port params => Sys2Proof.Machine.execBlockRoom port params s
  | .unblockRoom port params => Sys2Proof.Machine.execUnblockRoom port params s
  | .writeRoom port params => Sys2Proof.Machine.execWriteRoom port params s
  | .pairRooms port params => Sys2Proof.Machine.execPairRooms port params s
  | .unpairRooms port params => Sys2Proof.Machine.execUnpairRooms port params s
  | .setMakeup port params => Sys2Proof.Machine.execSetMakeup port params s
  | .readRoom port params => Sys2Proof.Machine.execReadRoom port params s
  | .issueGuestKey port params => Sys2Proof.Machine.execIssueGuestKey port params s
  | .issueStaffKey port params => Sys2Proof.Machine.execIssueStaffKey port params s
  | .revokeKey port params => Sys2Proof.Machine.execRevokeKey port params s
  | .reportLost port params => Sys2Proof.Machine.execReportLost port params s
  | .suspendKey port params => Sys2Proof.Machine.execSuspendKey port params s
  | .resumeKey port params => Sys2Proof.Machine.execResumeKey port params s
  | .extendKey port params => Sys2Proof.Machine.execExtendKey port params s
  | .revokeRoomKeys port params => Sys2Proof.Machine.execRevokeRoomKeys port params s
  | .readKey port params => Sys2Proof.Machine.execReadKey port params s
  | .keyCounts port params => Sys2Proof.Machine.execKeyCounts port params s
  | .writeProfile port params => Sys2Proof.Machine.execWriteProfile port params s
  | .readProfile port params => Sys2Proof.Machine.execReadProfile port params s
  | .watchAdd port params => Sys2Proof.Machine.execWatchAdd port params s
  | .watchRemove port params => Sys2Proof.Machine.execWatchRemove port params s
  | .readWatch port params => Sys2Proof.Machine.execReadWatch port params s
  | .clearAlarm port params => Sys2Proof.Machine.execClearAlarm port params s
  | .setNodeMode port params => Sys2Proof.Machine.execSetNodeMode port params s
  | .releaseZones port params => Sys2Proof.Machine.execReleaseZones port params s
  | .restoreZones port params => Sys2Proof.Machine.execRestoreZones port params s
  | .unlatchNode port params => Sys2Proof.Machine.execUnlatchNode port params s
  | .writeNode port params => Sys2Proof.Machine.execWriteNode port params s
  | .readNode port params => Sys2Proof.Machine.execReadNode port params s
  | .stopLine port params => Sys2Proof.Machine.execStopLine port params s
  | .startLine port params => Sys2Proof.Machine.execStartLine port params s
  | .restartLine port params => Sys2Proof.Machine.execRestartLine port params s
  | .readLine port params => Sys2Proof.Machine.execReadLine port params s
  | .openFolio port params => Sys2Proof.Machine.execOpenFolio port params s
  | .closeFolio port params => Sys2Proof.Machine.execCloseFolio port params s
  | .readFolio port params => Sys2Proof.Machine.execReadFolio port params s
  | .setAllowance port params => Sys2Proof.Machine.execSetAllowance port params s
  | .holdFolio port params => Sys2Proof.Machine.execHoldFolio port params s
  | .releaseFolio port params => Sys2Proof.Machine.execReleaseFolio port params s
  | .writePrices port params => Sys2Proof.Machine.execWritePrices port params s
  | .readPrices port params => Sys2Proof.Machine.execReadPrices port params s
  | .peekCharges port params => Sys2Proof.Machine.execPeekCharges port params s
  | .takeCharges port params => Sys2Proof.Machine.execTakeCharges port params s
  | .readSessions port params => Sys2Proof.Machine.execReadSessions port params s
  | .flushJournal port params => Sys2Proof.Machine.execFlushJournal port params s
  | .releaseGuards port params => Sys2Proof.Machine.execReleaseGuards port params s
  | .setGuards port params => Sys2Proof.Machine.execSetGuards port params s
  | .holdSegment port params => Sys2Proof.Machine.execHoldSegment port params s
  | .clearHold port params => Sys2Proof.Machine.execClearHold port params s
  | .setCursor port params => Sys2Proof.Machine.execSetCursor port params s
  | .readRecords port params => Sys2Proof.Machine.execReadRecords port params s
  | .readSegmentWrapped port params => Sys2Proof.Machine.execReadSegmentWrapped port params s
  | .markCollected port params => Sys2Proof.Machine.execMarkCollected port params s
  | .journalStatus port params => Sys2Proof.Machine.execJournalStatus port params s
  | .writeLamps port params => Sys2Proof.Machine.execWriteLamps port params s
  | .setBlinkMode port params => Sys2Proof.Machine.execSetBlinkMode port params s
  | .setBlinkPeriod port params => Sys2Proof.Machine.execSetBlinkPeriod port params s
  | .setDark port params => Sys2Proof.Machine.execSetDark port params s
  | .clearAlternate port params => Sys2Proof.Machine.execClearAlternate port params s
  | .clearBlinkSet port params => Sys2Proof.Machine.execClearBlinkSet port params s
  | .readLamps port params => Sys2Proof.Machine.execReadLamps port params s
  | .vector port params => Sys2Proof.Machine.execVector port params s
  | .setCauseLevels port params => Sys2Proof.Machine.execSetCauseLevels port params s
  | .peerNotice port params => Sys2Proof.Machine.execPeerNotice port params s
  | .setClock port params => Sys2Proof.Machine.execSetClock port params s
  | .readClock port params => Sys2Proof.Machine.execReadClock port params s
  | .writeEmergencyKey port params => Sys2Proof.Machine.execWriteEmergencyKey port params s
  | .freezeEmergencyKey port params => Sys2Proof.Machine.execFreezeEmergencyKey port params s
  | .readEmergencyKey port params => Sys2Proof.Machine.execReadEmergencyKey port params s
  | .partStatus port params => Sys2Proof.Machine.execPartStatus port params s
  | .unknownCommand port code => Sys2Proof.Machine.execUnknownCommand port code s
  | .commandFrameDiscarded port => Sys2Proof.Machine.execCommandFrameDiscarded port s
  | .statusFrame port clocked => Sys2Proof.Machine.execStatusFrame port clocked s
  | .resultFrame port clocked => Sys2Proof.Machine.execResultFrame port clocked s
  | .portReset port => Sys2Proof.Machine.execPortReset port s
  | .rotationTurn line => Sys2Proof.Machine.execRotationTurn line s
  | .verdictFrame line => Sys2Proof.Machine.execVerdictFrame line s
  | .busyReply line => Sys2Proof.Machine.execBusyReply line s
  | .modeFrame line => Sys2Proof.Machine.execModeFrame line s
  | .quiet line => Sys2Proof.Machine.execQuiet line s
  | .ack line => Sys2Proof.Machine.execAck line s
  | .present line side card => Sys2Proof.Machine.execPresent line side card s
  | .doorOpened line => Sys2Proof.Machine.execDoorOpened line s
  | .doorClosed line => Sys2Proof.Machine.execDoorClosed line s
  | .bolt line on => Sys2Proof.Machine.execBolt line on s
  | .button line which => Sys2Proof.Machine.execButton line which s
  | .tray line slot kind => Sys2Proof.Machine.execTray line slot kind s
  | .invalidAnswer line frame => Sys2Proof.Machine.execInvalidAnswer line frame s
  | .answerWindowExpiry line => Sys2Proof.Machine.execAnswerWindowExpiry line s
  | .presentationJudgement => Sys2Proof.Machine.execPresentationJudgement s
  | .useReport => Sys2Proof.Machine.execUseReport s
  | .rebindClaim => Sys2Proof.Machine.execRebindClaim s
  | .grantWindowExpiry node => Sys2Proof.Machine.execGrantWindowExpiry node s
  | .heldOpenTimerExpiry node => Sys2Proof.Machine.execHeldOpenTimerExpiry node s
  | .openLimitExpiry node => Sys2Proof.Machine.execOpenLimitExpiry node s
  | .flushTimerExpiry => Sys2Proof.Machine.execFlushTimerExpiry s
  | .blinkPhaseToggle => Sys2Proof.Machine.execBlinkPhaseToggle s
  | .minuteTick => Sys2Proof.Machine.execMinuteTick s
  | .sweepVisit => Sys2Proof.Machine.execSweepVisit s
  | .clearWalkStep => Sys2Proof.Machine.execClearWalkStep s
  | .scanJobStart => Sys2Proof.Machine.execScanJobStart s
  | .scanStep => Sys2Proof.Machine.execScanStep s
  | .blockProgramStart => Sys2Proof.Machine.execBlockProgramStart s
  | .markProgramStart => Sys2Proof.Machine.execMarkProgramStart s
  | .eraseStart => Sys2Proof.Machine.execEraseStart s
  | .eraseSuspend => Sys2Proof.Machine.execEraseSuspend s
  | .blockProgramComplete => Sys2Proof.Machine.execBlockProgramComplete s
  | .firstSequenceMarkProgrammed => Sys2Proof.Machine.execFirstSequenceMarkProgrammed s
  | .holdMarkProgrammed => Sys2Proof.Machine.execHoldMarkProgrammed s
  | .releaseMarkProgrammed => Sys2Proof.Machine.execReleaseMarkProgrammed s
  | .segmentEraseComplete => Sys2Proof.Machine.execSegmentEraseComplete s
  | .emergencyProgrammingDone => Sys2Proof.Machine.execEmergencyProgrammingDone s
  | .mainSupplyLost => Sys2Proof.Machine.execMainSupplyLost s
  | .mainSupplyReturn => Sys2Proof.Machine.execMainSupplyReturn s
  | .coldStart => Sys2Proof.Machine.execColdStart s
  | .backupCellChange change => Sys2Proof.Machine.execBackupCellChange change s
  | .portResetAsserted port => Sys2Proof.Machine.execPortResetAsserted port s

end Sys2Proof.Machine
end

