-- ==== Sys2Proof/Safety.lean ====
section
/-! DEFINITION. What the statements speak of: a port that takes commands, a command that has ended or begun, an exchange with a
node that answers, and the invariants that every step keeps. -/

namespace Sys2Proof.Machine

/-! ### Commands on a port (R174 to R179) -/

/-- A port takes a command frame: the part is in RUN, the port's reset input is released, and no command of it is WORKING. -/
abbrev State.takes (s : State) (p : Port) : Prop :=
  s.inRun = true ∧ (s.port p).resetHeld = false ∧ (s.port p).phase.isWorking = false

/-- The state once a command frame of a code has been answered on a port (R176, R177): the tag is one higher, the port is DONE with
the answer in its result record, and cause 0 of the port, COMMAND_DONE, is pending. -/
def State.answered (s : State) (p : Port) (code : Option Byte) (r : Reply) : State :=
  (s.modPort p fun q =>
    { q with tag := q.tag + 1, phase := .done, result := some ⟨code, r.code, r.data⟩ }).modAttn p fun a =>
    { a with pending := a.pending.set 0 true }

/-- The state once a command has ended with OK and returned data. -/
def State.done (s : State) (p : Port) (c : Command) (data : List Byte) : State := s.answered p (some c.code) ⟨.ok, data⟩

/-- The state once a command has been refused. -/
def State.refused (s : State) (p : Port) (c : Command) (code : ResultCode) : State := s.answered p (some c.code) ⟨code, []⟩

/-- The state once a command that takes time has been taken: the tag is one higher, the result record empty, the port WORKING
(R176, R177, R179). -/
def State.begun (s : State) (p : Port) (c : Command) : State :=
  s.modPort p fun q => { q with tag := q.tag + 1, phase := .working c, result := none }

/-- The state once the owner of an operation that takes time has ended it: where the Service port still has the command WORKING, the
port is DONE with the result code and COMMAND_DONE is pending; else the answer is discarded (R174, R177, R179). -/
def State.settled (s : State) (c : Command) (code : ResultCode) : State :=
  if (s.port .service).phase = .working c then
    (s.modPort .service fun q => { q with phase := .done, result := some ⟨some c.code, code, []⟩ }).modAttn .service fun a =>
      { a with pending := a.pending.set 0 true }
  else s

/-- The event that is a command's frame on a port, with its parameter bytes. -/
def commandEvent (p : Port) (ps : List Byte) : Command → Instr
  | .checkIn => .checkIn p ps
  | .checkOut => .checkOut p ps
  | .moveStay => .moveStay p ps
  | .blockRoom => .blockRoom p ps
  | .unblockRoom => .unblockRoom p ps
  | .writeRoom => .writeRoom p ps
  | .pairRooms => .pairRooms p ps
  | .unpairRooms => .unpairRooms p ps
  | .setMakeup => .setMakeup p ps
  | .readRoom => .readRoom p ps
  | .issueGuestKey => .issueGuestKey p ps
  | .issueStaffKey => .issueStaffKey p ps
  | .revokeKey => .revokeKey p ps
  | .reportLost => .reportLost p ps
  | .suspendKey => .suspendKey p ps
  | .resumeKey => .resumeKey p ps
  | .extendKey => .extendKey p ps
  | .revokeRoomKeys => .revokeRoomKeys p ps
  | .readKey => .readKey p ps
  | .keyCounts => .keyCounts p ps
  | .writeProfile => .writeProfile p ps
  | .readProfile => .readProfile p ps
  | .watchAdd => .watchAdd p ps
  | .watchRemove => .watchRemove p ps
  | .readWatch => .readWatch p ps
  | .clearAlarm => .clearAlarm p ps
  | .setNodeMode => .setNodeMode p ps
  | .releaseZones => .releaseZones p ps
  | .restoreZones => .restoreZones p ps
  | .unlatchNode => .unlatchNode p ps
  | .writeNode => .writeNode p ps
  | .readNode => .readNode p ps
  | .stopLine => .stopLine p ps
  | .startLine => .startLine p ps
  | .restartLine => .restartLine p ps
  | .readLine => .readLine p ps
  | .openFolio => .openFolio p ps
  | .closeFolio => .closeFolio p ps
  | .readFolio => .readFolio p ps
  | .setAllowance => .setAllowance p ps
  | .holdFolio => .holdFolio p ps
  | .releaseFolio => .releaseFolio p ps
  | .writePrices => .writePrices p ps
  | .readPrices => .readPrices p ps
  | .peekCharges => .peekCharges p ps
  | .takeCharges => .takeCharges p ps
  | .readSessions => .readSessions p ps
  | .flushJournal => .flushJournal p ps
  | .releaseGuards => .releaseGuards p ps
  | .setGuards => .setGuards p ps
  | .holdSegment => .holdSegment p ps
  | .clearHold => .clearHold p ps
  | .setCursor => .setCursor p ps
  | .readRecords => .readRecords p ps
  | .readSegmentWrapped => .readSegmentWrapped p ps
  | .markCollected => .markCollected p ps
  | .journalStatus => .journalStatus p ps
  | .writeLamps => .writeLamps p ps
  | .setBlinkMode => .setBlinkMode p ps
  | .setBlinkPeriod => .setBlinkPeriod p ps
  | .setDark => .setDark p ps
  | .clearAlternate => .clearAlternate p ps
  | .clearBlinkSet => .clearBlinkSet p ps
  | .readLamps => .readLamps p ps
  | .vector => .vector p ps
  | .setCauseLevels => .setCauseLevels p ps
  | .peerNotice => .peerNotice p ps
  | .setClock => .setClock p ps
  | .readClock => .readClock p ps
  | .writeEmergencyKey => .writeEmergencyKey p ps
  | .freezeEmergencyKey => .freezeEmergencyKey p ps
  | .readEmergencyKey => .readEmergencyKey p ps
  | .partStatus => .partStatus p ps

/-! ### Exchanges with a node (R96, R103) -/

/-- A configured ONLINE node that a POLL frame waits for. -/
abbrev State.polls (s : State) (n : NodeAddr) : Prop :=
  s.inRun = true ∧ (s.line n.line).exchange = some { addr := n.addr, frame := .poll, markAgain := false } ∧
    (s.node n).config.configured = true ∧ (s.node n).link = .online

/-- The state once a polled ONLINE node has answered, its event apart: the exchange ended, the node's missed answers and the line's
silent count are 0, and a FAULT of the line is over (R96, R103, R105). -/
def State.heardFrom (s : State) (n : NodeAddr) : State :=
  (s.modLine n.line fun ln =>
    { ln with exchange := none, silent := 0, state := if ln.state = .fault then .running else ln.state }).modNode n fun nd =>
    { nd with missed := 0 }

/-- The lamps of t once a node of s takes a door condition and a latch (R84, R163): where either changes, the ALARM lamp of the room whose
door node it is takes the derived state, lit in FORCED, in HELD_OPEN and while the latch is set; every other lamp stands. -/
def State.alarmHanded (t s : State) (n : NodeAddr) (door : DoorCond) (latch : Bool) : Prop :=
  t.lamps = { s.lamps with entries := t.lamps.entries } ∧
  ∀ r : RoomIx, t.lamp r =
    if s.doorRoom n = some r ∧ ((s.node n).door ≠ door ∨ (s.node n).latch ≠ latch) then
      { s.lamp r with primary :=
        { (s.lamp r).primary with alarm := decide (door = .forced ∨ door = .heldOpen) || latch } }
    else s.lamp r

/-- The verdict last appended to a line's Verdict Queue. -/
def State.lastVerdict (s : State) (l : LineIx) : Option Verdict := (s.line l).verdicts.getLast?.map QueuedVerdict.verdict

/-- The presentation that the next judgement takes: the oldest WAITING one, at a place of the Presentation Queue (R63). -/
def State.nextWaiting (s : State) (i : Nat) (x : Presentation) : Prop :=
  s.inRun = true ∧ s.verdict.queue[i]? = some x ∧ x.verdict = none ∧
    ∀ j y, j < i → s.verdict.queue[j]? = some y → y.verdict ≠ none

/-- A presented key passes steps 4 to 7 of the order of checks (R65, R67, R50 to R52): its entry is LIVE and stands as it is at the
lookup, its profile admits the node's kind and class and the node's zone, and its validity, the day and the window admit its arrival
time, or it arrived with the clock UNSET and its profile is clockless. -/
def State.passes (s : State) (x : Presentation) (k : KeyIx) (e : KeyEntry) : Prop :=
  let nd := s.node x.node
  let p := s.profile e.profile
  s.findCard x.card = some (k, e) ∧ e.standing = .live ∧ s.untilPassed e = false ∧
    (e.isGuest = true → ∃ b ∈ e.bindings, s.bindingMark b ≠ .stale) ∧
    (x.arrival = none → p.clockless = true) ∧
    (∃ b, nd.config.kindBit = some b ∧ p.kinds.getLsbD b = true) ∧
    (∀ c ws, nd.config = .commonDoor c ws → p.classes.getLsbD c = true) ∧
    (∀ zones, e.body = .staff zones → zones.getLsbD nd.zone = true) ∧
    ∀ now, x.arrival = some now → e.validFrom ≤ now ∧ p.days.getLsbD (dayNumber now) = true ∧
      inWindow p.windowFrom p.windowUntil (minuteOfDay now) = true

/-- A guest key holds a binding to a room at the room's present generation (R2, R20). -/
def State.binds (s : State) (e : KeyEntry) (r : RoomIx) : Bool :=
  e.bindings.any fun b => decide (b.room = r ∧ b.generation = (s.room r).generation)

/-- A staff profile permits entry to a room by its standing (R53). -/
def Profile.permits (p : Profile) (rm : Room) : Bool :=
  if rm.standsOccupied then p.enterOccupied || (p.makeupOnly && rm.makeup) else p.enterVacant

/-- A key passes the near test of a connecting door (R74). -/
def State.nearOpens (s : State) (e : KeyEntry) (near : RoomIx) : Bool :=
  if e.isGuest then s.binds e near else (s.profile e.profile).permits (s.room near)

/-- A key passes the far test of a connecting door (R75). -/
def State.farOpens (s : State) (e : KeyEntry) (near far : RoomIx) : Bool :=
  let rm := s.room far
  let p := s.profile e.profile
  if e.isGuest then
    decide (rm.phase = .occupied) && !rm.privacy && (s.binds e far ||
      (s.binds e near && (s.room near).folio.isSome && decide ((s.room near).folio = rm.folio)))
  else p.permits rm && (!rm.isBlocked || p.overrideBlock) && (!rm.privacy || p.overridePrivacy)

/-- A state and what it becomes when a node goes OFFLINE at its third miss (R104, R86): the node out of service, its lamp mark gone from
the outstanding set, NODE_OFFLINE recorded and raised; every room that names it as door node with door condition UNKNOWN and the
derived ALARM lamp that its latch gives (R16, R84); and its session then abandoned (R127), with what that does to rooms, folios,
lamps and the journal. -/
def State.lapsed (s : State) (n : NodeAddr) (t : State) : Prop :=
  t.node n = { s.node n with
    missed := 3, link := .offline, grant := none, heldOpen := none, door := .unknown, lampPending := false } ∧
  (∀ m : NodeAddr, m ≠ n → t.node m = s.node m) ∧ t.lines = s.lines ∧ t.keys = s.keys ∧ t.verdict = s.verdict ∧
  t.supply = s.supply ∧ t.emergency = s.emergency ∧ t.pending = s.pending ∧ n ∉ t.lamps.outstanding ∧
  t.isPending .service .nodeOffline = true ∧
  ∃ u : State, u.charge = s.charge ∧ u.supply = s.supply ∧
    (∀ r : RoomIx, u.room r =
      if (s.room r).doorNode = some n then { s.room r with door := .unknown } else s.room r) ∧
    (∀ r : RoomIx, u.lamp r =
      if (s.room r).doorNode = some n ∧ (s.node n).door ≠ .unknown then
        { s.lamp r with primary := { (s.lamp r).primary with alarm := (s.node n).latch } } else s.lamp r) ∧
    u.journal = (offer
      { kind := .nodeOffline, cls := .notice, time := s.now, node := some n, room := (s.node n).config.room } s).journal ∧
    let left := abandonSessions (fun m => decide (m = n)) u
    t.charge = left.charge ∧ t.rooms = left.rooms ∧ t.journal = left.journal ∧ ∀ r : RoomIx, t.lamp r = left.lamp r

/-! ### Invariants -/

/-- The bounds of the queues and tables: the Scan Queue (R36), the Staging Queue (R137), the Presentation Queue (R62), the Watch List
with no card twice (R56), the Minibar Session Table with no room twice (R122), the Charge Queue with its reservations (R132), and the
records of the block program in flight (R142). -/
abbrev State.bounded (s : State) : Prop :=
  s.keys.scanQueue.length ≤ 8 ∧ s.journal.staged.length ≤ 64 ∧ s.verdict.queue.length ≤ 32 ∧
    s.verdict.watch.length ≤ 8 ∧ (s.verdict.watch.map WatchEntry.card).Nodup ∧
    s.charge.sessions.length ≤ 16 ∧ (s.charge.sessions.map Session.room).Nodup ∧
    s.charge.queue.length + s.charge.reservedTotal ≤ 128 ∧ s.journal.inFlight ≤ 8

/-- Pairing is symmetric, with one connecting node, and no room is paired with itself (R12). -/
def State.pairedWell (s : State) : Prop :=
  ∀ (r : RoomIx) (x : Pairing), (s.room r).pairing = some x → x.room ≠ r ∧ (s.room x.room).pairing = some ⟨r, x.node⟩

/-- A port that is WORKING has an empty result record, and a port that is DONE has one (Table 9-1, R176, R177). -/
def State.portsKept (s : State) : Prop :=
  ∀ p : Port, ((s.port p).phase.isWorking = true → (s.port p).result = none) ∧
    ((s.port p).phase = .done → (s.port p).result ≠ none)

end Sys2Proof.Machine
end

