-- ==== Sys2Proof/Certificates/Slice0/Obligations.lean ====
section
/-! DEFINITION. The statements for the provers, chapter by chapter. -/

open Sys2Proof Sys2Proof.Machine

/-! ### The queue, reset and formats -/

/-- A step takes the command at the front of the queue and runs exec on it with the queue's rest; on an empty queue a part whose
retention domain stands passes one crystal period (the model's choice, log entry 1). -/
def Obligations.QueueStep : Prop :=
  (∀ (c : Instr) (rest : List Instr) (s : State), step { s with pending := c :: rest } = exec c { s with pending := rest }) ∧
  ∀ s : State, s.supply.power ≠ .lost → 1 < s.supply.toTick → step { s with pending := [] } = .next
    { s with pending := [], supply := { s.supply with
        counter := s.supply.counter + BitVec.ofNat 32 ((s.supply.fraction + 1) / 32768)
        fraction := (s.supply.fraction + 1) % 32768, elapsed := s.supply.elapsed + 1 } }

/-- What the chapters give every table after cold start, as State.reset holds it: rooms, keys, profiles, nodes, lines, folios, prices,
indicator entries, segments and emergency slots; the ports with their causes, the queues, the waiting claims, the counts and marks of
the Journal, the sweep and the supply. (That no event waits in the part's queue is the model's choice, log entry 39. That the part is
new from its maker, so that the Journal Array and the emergency slots are blank and the cell is GOOD, in RUN after its first cold
start, whose POWER_RETURN record stands staged with its flush timer, is log entry 6; that no port-reset input is asserted log entry
25, the empty view of data-out log entry 27.) -/
def Obligations.ResetState : Prop :=
  ((∀ r : RoomIx, State.reset.room r =
    { phase := .vacant, closing := none, generation := 0, liveKeys := 0, label := 0, doorNode := none, minibarNode := none,
      pairing := none, folio := none, movedFrom := none, privacy := false, makeup := false, door := .unknown,
      lastEntry := none }) ∧
  (∀ k : KeyIx, State.reset.entry k = none) ∧
  (∀ k : Fin 16, State.reset.profile k =
    { kinds := if k = 0 then 0x07 else 0, classes := if k = 0 then 0xFF else 0, days := if k = 0 then 0x7F else 0,
      windowFrom := 0, windowUntil := 0, enterOccupied := false, enterVacant := false, makeupOnly := false,
      overridePrivacy := false, overrideBlock := false, restock := false, clockless := false }) ∧
  (∀ n : NodeAddr, State.reset.node n =
    { config := .none, zone := 0, heldOpenLimit := 60, link := .unpolled, missed := 0, modePending := false,
      lampPending := false, mode := .normal, inside := false, grant := none, door := .unknown, latch := false,
      heldOpen := none }) ∧
  (∀ l : LineIx, State.reset.line l =
    { state := .running, verdicts := [], busy := none, exchange := none, rotation := 0, silent := 0, missedTotal := 0,
      badTotal := 0 }) ∧
  (∀ f : FolioIx, State.reset.folio f = { state := .free, rooms := [], allowance := 0, spent := 0, pendingLines := 0 }) ∧
  ∀ r : RoomIx, State.reset.lamp r =
    { primary := ⟨false, false, false, false⟩, alternate := ⟨false, false, false, false⟩,
      blinkSelect := ⟨false, false, false, false⟩, lastSent := none }) ∧
  ((∀ p : Port, State.reset.port p =
    { phase := .idle, result := none, tag := 0, refusal := false, restart := .cold, resetHeld := false, dataOut := [] }) ∧
  (∀ p : Port, (State.reset.att p).levels = defaultLevels p ∧ (State.reset.att p).noticeValue = 0 ∧
    (State.reset.att p).noticeSender = none ∧ (State.reset.att p).noticeReplaced = false) ∧
  (∀ (p : Port) (c : Cause), State.reset.isPending p c = true ↔ p = .service ∧ (c = .tablesLost ∨ c = .clockUnset)) ∧
  State.reset.keys.retired = [] ∧ State.reset.keys.scanQueue = [] ∧ State.reset.keys.walk = none ∧
  State.reset.keys.lowArmed = true ∧ State.reset.verdict.queue = [] ∧ State.reset.verdict.watch = [] ∧
  State.reset.charge.sessions = [] ∧ State.reset.charge.queue = [] ∧ State.reset.charge.nextLine = 0 ∧
  State.reset.lamps.mode = .steady ∧ State.reset.lamps.multiplier = 2 ∧ State.reset.lamps.dark = false ∧
  State.reset.lamps.phaseOn = true ∧ State.reset.lamps.sweep = .marking .full 0 ∧ State.reset.lamps.outstanding = [] ∧
  State.reset.lamps.pendingStart = none ∧ State.reset.lamps.clearing = none ∧ State.reset.lamps.toggleAt = none ∧
  State.reset.keys.claims = [] ∧
  State.reset.supply.clockRunning = false ∧ State.reset.supply.counter = 0 ∧ State.reset.supply.warmRestarts = 0 ∧
  State.reset.supply.lastLoss = none ∧ State.reset.supply.lastReturn = none ∧ State.reset.supply.power = .run ∧
  State.reset.supply.lastStart = .cold ∧ State.reset.supply.cell = .good ∧ State.reset.pending = []) ∧
  ((∀ (c : Fin 4) (i : Fin 32), tget (tget State.reset.charge.prices c) i = 0) ∧
  (∀ k : Fin 4, tget State.reset.emergency.slots k = .blank) ∧ State.reset.emergency.programming = none ∧
  (∀ k : SegIx, (State.reset.segment k).state = (if k = 0 then .filling 0 else .blank) ∧
    (State.reset.segment k).first = none ∧ (State.reset.segment k).last = none ∧ (State.reset.segment k).guard = true ∧
    (State.reset.segment k).hold = .none ∧ (State.reset.segment k).holdPending = false ∧
    (State.reset.segment k).headerFirst = none ∧ (State.reset.segment k).interrupted = false ∧
    ∀ i : Fin 512, (State.reset.segment k).slots.get i.val = .blank) ∧
  State.reset.journal.nextSeq = 1 ∧ State.reset.journal.staged =
    [{ seq := 0, time := none, cls := .notice, kind := .powerReturn, node := none, room := none, card := none, key := none,
       reason := none, detail := 0xFFFF }] ∧
  State.reset.journal.droppedRoutine = 0 ∧ State.reset.journal.droppedPriority = 0 ∧ State.reset.journal.noticeArmed = true ∧
  State.reset.journal.flushAt = some 65536 ∧ State.reset.journal.commitDue = false ∧ State.reset.journal.flush = none ∧
  State.reset.journal.program = none ∧ State.reset.journal.erase = none ∧ State.reset.journal.marks = [] ∧
  State.reset.journal.cursor = 0 ∧ State.reset.journal.cursorLost = false ∧ State.reset.journal.collected = none ∧
  State.reset.journal.overrun = 0)

/-- The check of R199 on its own example, and the bytes, the check apart, of frames of each outbound and inbound shape, with every
coded value of DOOR, BOLT and BUTTON.
The code of each command of the index as Table 12-5 lists it, and that the code is read back as that command.
The lengths of the records of section 12.5, for every content; and the judgement of a slot's 32 bytes (R199): all FFh is blank,
the mark 0000h with the right check is a record, any other content is unreadable, and every record is judged a record. -/
def Obligations.FrameAndRecordBytes : Prop :=
  (OutFrame.bytes 5 .poll = [0x05, 0x10, 0x00, 0x24, 0x1F] ∧
  (OutFrame.bytes 5 (.lamps ⟨true, false, true, false⟩)).take 4 = [0x05, 0x11, 0x01, 0x05] ∧
  (OutFrame.bytes 63 (.mode .secured)).take 4 = [0x3F, 0x12, 0x01, 0x03] ∧
  (OutFrame.bytes 0 (.verdict .grant)).take 4 = [0x00, 0x13, 0x01, 0x03] ∧
  (OutFrame.bytes 0 (.verdict .deny)).take 4 = [0x00, 0x13, 0x01, 0x00] ∧
  (Answer.bytes 5 (.present .b 0x0102030405060708)).take 12 =
    [0x85, 0x22, 0x09, 0x01, 0x01, 0x02, 0x03, 0x04, 0x05, 0x06, 0x07, 0x08] ∧
  (Answer.bytes 63 (.tray 31 .returned)).take 5 = [0xBF, 0x26, 0x02, 0x1F, 0x01] ∧
  (Answer.bytes 0 (.tray 0 .taken)).take 5 = [0x80, 0x26, 0x02, 0x00, 0x00] ∧
  (Answer.bytes 0 .quiet).take 3 = [0x80, 0x20, 0x00] ∧ (Answer.bytes 1 .ack).take 3 = [0x81, 0x21, 0x00] ∧
  (Answer.bytes 2 (.door true)).take 4 = [0x82, 0x23, 0x01, 0x00] ∧ (Answer.bytes 2 (.door false)).take 4 = [0x82, 0x23, 0x01, 0x01] ∧
  (Answer.bytes 3 (.bolt true)).take 4 = [0x83, 0x24, 0x01, 0x00] ∧ (Answer.bytes 3 (.bolt false)).take 4 = [0x83, 0x24, 0x01, 0x01] ∧
  (Answer.bytes 4 (.button .makeup)).take 4 = [0x84, 0x25, 0x01, 0x00] ∧
  (Answer.bytes 4 (.button .call)).take 4 = [0x84, 0x25, 0x01, 0x01] ∧
  (Answer.bytes 4 (.button .cancel)).take 4 = [0x84, 0x25, 0x01, 0x02]) ∧
  ((∀ c : Command, Command.ofCode c.code = some c) ∧
  (∀ x ∈ ([(.checkIn, 0x01), (.checkOut, 0x02), (.moveStay, 0x03), (.blockRoom, 0x04), (.unblockRoom, 0x05), (.writeRoom, 0x06),
     (.pairRooms, 0x07), (.unpairRooms, 0x08), (.setMakeup, 0x09), (.readRoom, 0x0A), (.issueGuestKey, 0x10),
     (.issueStaffKey, 0x11)] : List (Command × Byte)),
    x.1.code = x.2) ∧
  (∀ x ∈ ([(.revokeKey, 0x12), (.reportLost, 0x13), (.suspendKey, 0x14), (.resumeKey, 0x15), (.extendKey, 0x16),
     (.revokeRoomKeys, 0x17), (.readKey, 0x18), (.keyCounts, 0x19), (.writeProfile, 0x20), (.readProfile, 0x21),
     (.watchAdd, 0x22), (.watchRemove, 0x23)] : List (Command × Byte)),
    x.1.code = x.2) ∧
  (∀ x ∈ ([(.readWatch, 0x24), (.clearAlarm, 0x28), (.setNodeMode, 0x29), (.releaseZones, 0x2A), (.restoreZones, 0x2B),
     (.unlatchNode, 0x2C), (.writeNode, 0x30), (.readNode, 0x31), (.stopLine, 0x32), (.startLine, 0x33),
     (.restartLine, 0x34), (.readLine, 0x35)] : List (Command × Byte)),
    x.1.code = x.2) ∧
  (∀ x ∈ ([(.openFolio, 0x40), (.closeFolio, 0x41), (.readFolio, 0x42), (.setAllowance, 0x43), (.holdFolio, 0x44),
     (.releaseFolio, 0x45), (.writePrices, 0x46), (.readPrices, 0x47), (.peekCharges, 0x48), (.takeCharges, 0x49),
     (.readSessions, 0x4A), (.flushJournal, 0x50)] : List (Command × Byte)),
    x.1.code = x.2) ∧
  (∀ x ∈ ([(.releaseGuards, 0x51), (.setGuards, 0x52), (.holdSegment, 0x53), (.clearHold, 0x54), (.setCursor, 0x55),
     (.readRecords, 0x56), (.readSegmentWrapped, 0x57), (.markCollected, 0x58), (.journalStatus, 0x59), (.writeLamps, 0x60),
     (.setBlinkMode, 0x61), (.setBlinkPeriod, 0x62)] : List (Command × Byte)),
    x.1.code = x.2) ∧
  (∀ x ∈ ([(.setDark, 0x63), (.clearAlternate, 0x64), (.clearBlinkSet, 0x65), (.readLamps, 0x66), (.vector, 0x70),
     (.setCauseLevels, 0x71), (.peerNotice, 0x72), (.setClock, 0x78), (.readClock, 0x79), (.writeEmergencyKey, 0x7A),
     (.freezeEmergencyKey, 0x7B), (.readEmergencyKey, 0x7C)] : List (Command × Byte)),
    x.1.code = x.2) ∧
  (∀ x ∈ ([(.partStatus, 0x7D)] : List (Command × Byte)),
    x.1.code = x.2)) ∧
  ((∀ r : Record, r.bytes.length = 32) ∧ (∀ x : Slot, x.bytes.length = 32) ∧ (∀ c : ChargeLine, c.bytes.length = 14) ∧
  (∀ (s : State) (k : KeyIx), (s.keyRecord k).length = 57) ∧ (∀ (s : State) (r : RoomIx), (s.roomRecord r).length = 29) ∧
  (∀ (s : State) (f : FolioIx), (s.folioRecord f).length = 18) ∧ (∀ (s : State) (n : NodeAddr), (s.nodeRecord n).length = 33) ∧
  (∀ (k : Fin 16) (p : Profile), (p.bytes k).length = 9) ∧ ∀ (s : State) (p : Port), (s.statusBlock p).length = 5) ∧
  (Slot.blank.reading = .blank ∧ (∀ r : Record, (Slot.written r).reading = .valid) ∧
  ∀ bytes : List Byte, bytes.length = 32 → readingOf bytes =
    if ∀ b ∈ bytes, b = 0xFF then .blank
    else if bytes.getD 28 0 = 0 ∧ bytes.getD 29 0 = 0 ∧ bytes.drop 30 = crcBytes (bytes.take 30) then .valid else .unreadable)

/-- Every answer that a node at an address sends is judged, at that address, as the answer it is. -/
def Obligations.AnswerRoundTrip : Prop :=
  ∀ (addr : Fin 64) (a : Answer), answerOf addr (a.bytes addr) = some a

/-! ### Ports and attention (chapters 9 and 10) -/

/-- Checks 1 to 3 of a command frame, for every command of the index: too few parameter bytes are TRUNCATED, and a command on a port
that does not have it is NOT_PERMITTED; a frame with no code is TRUNCATED and a code outside the index UNKNOWN_COMMAND.
A frame on a port that does not listen, because the part is not in RUN or the port's reset input is asserted, changes nothing. -/
def Obligations.PortChecks : Prop :=
  (∀ (p : Port) (s : State), s.takes p →
    (∀ (c : Command) (ps : List Byte), ps.length < c.needed ps → exec (commandEvent p ps c) s = .next (s.refused p c .truncated)) ∧
    (∀ (c : Command) (ps : List Byte), c.needed ps ≤ ps.length → c.permitted p = false →
      exec (commandEvent p ps c) s = .next (s.refused p c .notPermitted)) ∧
    exec (.unknownCommand p none) s = .next (s.answered p none ⟨.truncated, []⟩) ∧
    ∀ code : Byte, Command.ofCode code = none →
      exec (.unknownCommand p (some code)) s = .next (s.answered p (some code) ⟨.unknownCommand, []⟩)) ∧
  (∀ (p : Port) (s : State), s.inRun = false ∨ (s.port p).resetHeld = true →
    (∀ (c : Command) (ps : List Byte), exec (commandEvent p ps c) s = .next s) ∧
    (∀ code : Option Byte, exec (.unknownCommand p code) s = .next s) ∧ exec (.commandFrameDiscarded p) s = .next s ∧
    (∀ k : Nat, exec (.statusFrame p k) s = .next s) ∧ ∀ k : Nat, exec (.resultFrame p k) s = .next s)

/-- A command frame that is released while the port is WORKING is discarded whole: it sets the refusal marker, and nothing else
changes. The next status frame, a warm restart and a port reset clear the marker. -/
def Obligations.DiscardedFrame : Prop :=
  ∀ (p : Port) (s : State),
   (s.inRun = true → (s.port p).resetHeld = false → (s.port p).phase.isWorking = true →
    (∀ (c : Command) (ps : List Byte),
      exec (commandEvent p ps c) s = .next (s.modPort p fun q => { q with refusal := true })) ∧
    (∀ code : Option Byte, (code.bind Command.ofCode) = none →
      exec (.unknownCommand p code) s = .next (s.modPort p fun q => { q with refusal := true })) ∧
    exec (.commandFrameDiscarded p) s = .next (s.modPort p fun q => { q with refusal := true })) ∧
   (s.inRun = true → (s.port p).resetHeld = false → ∀ k : Nat, ∃ t : State,
    exec (.statusFrame p k) s = .next t ∧ (t.port p).refusal = false) ∧
   (s.supply.power = .retain → ∃ t : State, exec .mainSupplyReturn s = .next t ∧ (t.port p).refusal = false) ∧
   (s.inRun = true → ∃ t : State, exec (.portReset p) s = .next t ∧ (t.port p).refusal = false)

/-- Parameters out of the range of a single field are BAD_PARAM: a room above 511, a folio of two bytes above 255 that is not the absent
form, a line, segment or profile number above 15, a node's address above 63, an emergency slot or price class above 3, a key index
above 2,047, a slot above 511, a minute above 1,439, a bit that no field has, a count of 0 or above the most its command takes, a
selector, mode, lamp, level or port that no code gives, a level for a cause the port does not have, and an empty zone or segment set.
(That an empty set is so for every command that takes one, that a bit no field has and a flag of SET DARK above 1 are, and the place
of READ KEY's index are the model's choice, log entry 9.) -/
def Obligations.FieldRanges : Prop :=
  ∀ (p : Port) (s : State) (c : Command) (ps : List Byte), s.takes p → c.permitted p = true → c.needed ps ≤ ps.length →
    (512 ≤ u16At ps 0 ∧ c ∈ [.checkIn, .checkOut, .moveStay, .blockRoom, .unblockRoom, .writeRoom, .pairRooms, .unpairRooms,
        .setMakeup, .readRoom, .revokeRoomKeys, .writeLamps, .readLamps]) ∨
      (16 ≤ u8At ps 0 ∧ c ∈ [.clearAlarm, .setNodeMode, .unlatchNode, .writeNode, .readNode, .stopLine, .startLine,
        .restartLine, .readLine, .holdSegment, .clearHold, .readSegmentWrapped, .writeProfile, .readProfile]) ∨
      (4 ≤ u8At ps 0 ∧ c ∈ [.readPrices, .writePrices, .writeEmergencyKey, .freezeEmergencyKey, .readEmergencyKey]) ∨
      (u16At ps 0 = 0 ∧ c ∈ [.releaseZones, .restoreZones, .releaseGuards, .setGuards]) ∨
      (64 ≤ u8At ps 1 ∧ c ∈ [.clearAlarm, .setNodeMode, .unlatchNode, .writeNode, .readNode]) ∨
      (512 ≤ u16At ps 2 ∧ c ∈ [.moveStay, .pairRooms]) ∨
      ((16 ≤ u8At ps 4 ∨ 64 ≤ u8At ps 5) ∧ (c = .pairRooms ∨ (c = .writeRoom ∧ u16At ps 4 ≠ 0xFFFF))) ∨
      ((16 ≤ u8At ps 6 ∨ 64 ≤ u8At ps 7) ∧ c = .writeRoom ∧ u16At ps 6 ≠ 0xFFFF) ∨
      (256 ≤ u16At ps 2 ∧ u16At ps 2 ≠ 0xFFFF ∧ c = .checkIn) ∨ (1 < u8At ps 2 ∧ c = .setMakeup) ∨
      ((1 < u8At ps 8 ∨ 3 < u8At ps 9 ∨ u8At ps 18 = 0 ∨ 4 < u8At ps 18 ∨
        ∃ k, k < u8At ps 18 ∧ 512 ≤ u16At ps (19 + 2 * k)) ∧ c = .issueGuestKey) ∨
      ((1 < u8At ps 0 ∨ (u8At ps 0 = 1 ∧ 2048 ≤ u16At ps 7)) ∧ c = .readKey) ∨
      ((31 < u8At ps 1 ∨ 127 < u8At ps 3 ∨ 1440 ≤ u16At ps 4 ∨ 1440 ≤ u16At ps 6 ∨ 127 < u8At ps 8) ∧ c = .writeProfile) ∨
      ((31 < u8At ps 1 ∨ u8At ps 2 = 0 ∨ 32 < u8At ps 2) ∧ c = .writePrices) ∨
      ((512 ≤ u16At ps 1 ∨ u8At ps 3 = 0 ∨ 16 < u8At ps 3) ∧ c = .readSegmentWrapped) ∨
      ((2 < u8At ps 2 ∨ 2 < u8At ps 3 ∨ 2 < u8At ps 4 ∨ 2 < u8At ps 5 ∨ 2 < u8At ps 6) ∧ c = .writeLamps) ∨
      (u8At ps 0 = 0 ∧ c ∈ [.readRecords, .peekCharges, .takeCharges, .setBlinkPeriod]) ∨
      (16 < u8At ps 0 ∧ c = .readRecords) ∨ (8 < u8At ps 0 ∧ c ∈ [.peekCharges, .setBlinkPeriod]) ∨
      (128 < u8At ps 0 ∧ c = .takeCharges) ∨ (3 < u8At ps 0 ∧ c = .setBlinkMode) ∨ (1 < u8At ps 0 ∧ c = .setDark) ∨
      (2 < u8At ps 0 ∧ c = .peerNotice) ∨ (u16At ps 9 = 0 ∧ c = .writeEmergencyKey) ∨
      ((∃ k, k < 14 ∧ u8At ps k ≠ 0xFF ∧ (7 < u8At ps k ∨ causeCount p ≤ k)) ∧ c = .setCauseLevels) →
    exec (commandEvent p ps c) s = .next (s.refused p c .badParam)

/-- A status frame clocks the status block out, as far as select lasts, and clears the refusal marker and the restart mark; nothing
else changes.
A result frame clocks the result record out with the tag. It takes a DONE port to IDLE when the whole record was clocked out;
the record is kept, and nothing else changes. -/
def Obligations.StatusAndResultFrames : Prop :=
  (∀ (p : Port) (k : Nat) (s : State), s.inRun = true → (s.port p).resetHeld = false →
    exec (.statusFrame p k) s = .next
      (s.modPort p fun q => { q with refusal := false, restart := .none, dataOut := (s.statusBlock p).take k })) ∧
  (∀ (p : Port) (k : Nat) (s : State), s.inRun = true → (s.port p).resetHeld = false →
    exec (.resultFrame p k) s = .next (s.modPort p fun q =>
      { q with
        dataOut := q.resultBytes.take k
        phase := if q.phase = .done ∧ q.resultBytes.length ≤ k then .idle else q.phase }) ∧
    (∀ r : ResultRecord, (s.port p).result = some r → (s.port p).resultBytes =
      [(s.port p).tag, r.command.getD 0xFF, BitVec.ofNat 8 r.code.code, BitVec.ofNat 8 (r.data.length / 256),
        BitVec.ofNat 8 r.data.length] ++ r.data) ∧
    ((s.port p).result = none → (s.port p).resultBytes = [(s.port p).tag, 0xFF, 0xFF, 0, 0]))

/-- The reset input of a port. While it is asserted the port is deaf; at its release an IDLE or DONE port is IDLE, a WORKING port
stays WORKING, the result record is empty, the marks are clear, the tag is kept, and the levels are at their defaults. Pending
causes, the peer notice and every other port stand. -/
def Obligations.PortReset : Prop :=
  ∀ (p : Port) (s : State),
    exec (.portResetAsserted p) s = .next (s.modPort p fun q => { q with resetHeld := true }) ∧
    (s.inRun = true → exec (.portReset p) s = .next
      ((s.modPort p fun q =>
        { q with
          phase := match q.phase with | .working c => .working c | _ => .idle
          result := none, refusal := false, restart := .none, resetHeld := false }).modAttn p fun a =>
        { a with levels := defaultLevels p }))

/-- A raise and a withdrawal of a cause touch its pending flag on that port alone, whatever its level.
SET CAUSE LEVELS sets each level given, in the port's own causes, and nothing else; an entry that is FFh leaves its level.
PEER NOTICE stores the value and the issuing port at the target, sets the replaced mark where a notice was pending there already,
and makes PEER_NOTICE pending at the target. -/
def Obligations.CausesAndLevels : Prop :=
  (∀ (p : Port) (c : Cause) (s : State),
    (∀ k : Fin 14, c.number p = some k →
      raise p c s = s.modAttn p (fun a => { a with pending := a.pending.set k.val true }) ∧
      withdraw p c s = s.modAttn p (fun a => { a with pending := a.pending.set k.val false })) ∧
    ((c.number p).isSome = true → (raise p c s).isPending p c = true ∧ (withdraw p c s).isPending p c = false)) ∧
  (∀ (p : Port) (ls : Fin 14 → Option (Fin 8)) (more : List Byte) (s : State), s.takes p →
    (∀ k : Fin 14, causeCount p ≤ k.val → ls k = none) →
    exec (.setCauseLevels p ((List.ofFn fun k => ((ls k).map fun v => BitVec.ofNat 8 v.val).getD 0xFF) ++ more)) s = .next
      ((s.modAttn p fun a => { a with levels := Vector.ofFn fun k => (ls k).getD a.levels[k.val] }).done p .setCauseLevels [])) ∧
  (∀ (p q : Port) (value : Byte) (more : List Byte) (s : State), s.takes p →
    exec (.peerNotice p (u8 q.code ++ [value] ++ more)) s = .next
      ((raise q .peerNotice (s.modAttn q fun a =>
        { a with noticeValue := value, noticeSender := some p, noticeReplaced := s.isPending q .peerNotice })).done p
          .peerNotice []))

/-- VECTOR takes the raise of its own COMMAND_DONE first. The cause selected is pending at a non-zero level, no pending cause has a
higher level, and none of its level a lower number; its flag alone is cleared, and the answer carries its number, its level and
the number of causes that remain. PEER_NOTICE returns the notice's value, its issuing port and the replaced mark as well, and clears
that mark; every other cause leaves it. With no such cause the answer is NONE and nothing is cleared. (The layout of
the returned data is the model's choice, log entry 8.) -/
def Obligations.Vector : Prop :=
  ∀ (p : Port) (ps : List Byte) (s : State), s.takes p → ∃ t : State, exec (.vector p ps) s = .next t ∧
    t = { s with ports := t.ports, attn := t.attn } ∧ (∀ q : Port, q ≠ p → t.port q = s.port q ∧ t.att q = s.att q) ∧
    (t.port p).phase = .done ∧ (t.port p).tag = (s.port p).tag + 1 ∧
    (let a := { s.att p with pending := (s.att p).pending.set 0 true }
     match a.selected with
     | none => (∀ k : Fin 14, a.asserts k = false) ∧ t.att p = a ∧
        (t.port p).result = some ⟨some 0x70, .ok, [0xFF, 0xFF, 0, 0]⟩
     | some k => a.asserts k = true ∧ (∀ j : Fin 14, a.asserts j = true →
          a.levels[j.val] < a.levels[k.val] ∨ (a.levels[j.val] = a.levels[k.val] ∧ k ≤ j)) ∧
        (let notice : Bool := decide (k.val = if p = .service then 13 else 5)
         let sender : Byte := match a.noticeSender with
           | none => 0xFF
           | some .front => 0
           | some .charge => 1
           | some .service => 2
         t.att p = { a with
           pending := a.pending.set k.val false, noticeReplaced := if notice then false else a.noticeReplaced } ∧
         (t.port p).result = some ⟨some 0x70, .ok,
           [BitVec.ofNat 8 k.val, BitVec.ofNat 8 a.levels[k.val].val] ++ u16 (t.att p).remaining ++
             if notice then [a.noticeValue, sender, if a.noticeReplaced then 1 else 0] else []⟩))

/-! ### Reading -/

/-- The commands that read rooms, keys, profiles, the Watch List, nodes and lines answer OK with the record as it stands, and
change nothing but the port. READ KEY by identity finds the entry that holds the card, or answers NO_ENTRY; before READ KEY and
KEY COUNTS the Verdict Engine's waiting claims are served (R45).
The commands that read folios, prices, the Charge Queue, sessions, lamps, the clock, emergency slots and the whole part answer OK
with what stands, and change nothing but the port. (Layouts that chapter 12 does not tabulate are the model's choice, log entry 8;
the order of the sessions and byte 22 of READ ROOM are, log entry 41.) -/
def Obligations.ReadCommands : Prop :=
  (∀ (p : Port) (more : List Byte) (s : State), s.takes p →
    (∀ r : RoomIx, exec (.readRoom p (u16 r.val ++ more)) s = .next (s.done p .readRoom (s.roomRecord r))) ∧
    (let v := serveWaiting s
     (∀ k : KeyIx, exec (.readKey p (u8 1 ++ (u16 0 ++ u32 0) ++ u16 k.val ++ more)) s =
       .next (v.done p .readKey (v.keyRecord k))) ∧
     (∀ (c : CardId) (k : KeyIx) (e : KeyEntry), v.findCard c = some (k, e) →
       exec (.readKey p (u8 0 ++ u64 c ++ more)) s = .next (v.done p .readKey (v.keyRecord k))) ∧
     (∀ c : CardId, v.findCard c = none →
       exec (.readKey p (u8 0 ++ u64 c ++ more)) s = .next (v.refused p .readKey .noEntry)) ∧
     exec (.keyCounts p more) s = .next (v.done p .keyCounts (keyCountsBytes v.keys))) ∧
    (∀ n : NodeAddr, exec (.readNode p (uNode n ++ more)) s = .next (s.done p .readNode (s.nodeRecord n))) ∧
    (p = .service →
      (∀ k : Fin 16, exec (.readProfile p (u8 k.val ++ more)) s = .next (s.done p .readProfile ((s.profile k).bytes k))) ∧
      exec (.readWatch p more) s = .next (s.done p .readWatch (watchBytes s.verdict.watch)) ∧
      ∀ l : LineIx, exec (.readLine p (u8 l.val ++ more)) s = .next (s.done p .readLine (s.lineBytes l)))) ∧
  (∀ (p : Port) (more : List Byte) (s : State), s.takes p →
    (∀ f : FolioIx, p ≠ .service → exec (.readFolio p (u8 f.val ++ more)) s = .next (s.done p .readFolio (s.folioRecord f))) ∧
    (∀ k : Fin 4, exec (.readPrices p (u8 k.val ++ more)) s =
      .next (s.done p .readPrices ((tget s.charge.prices k).toList.map u16).flatten)) ∧
    (∀ n : Nat, 1 ≤ n → n ≤ 8 → p = .charge → exec (.peekCharges p (u8 n ++ more)) s =
      .next (s.done p .peekCharges (((s.charge.queue.take n).map ChargeLine.bytes).flatten ++ u16 s.charge.queue.length ++
        u16 s.charge.reservedTotal ++ u16 (128 - s.charge.queue.length - s.charge.reservedTotal)))) ∧
    exec (.readSessions p more) s = .next (s.done p .readSessions (sessionsBytes s.charge)) ∧
    (∀ r : RoomIx, exec (.readLamps p (u16 r.val ++ more)) s = .next (s.done p .readLamps (s.lampsBytes r))) ∧
    exec (.readClock p more) s = .next (s.done p .readClock (clockBytes s.supply)) ∧
    exec (.partStatus p more) s = .next (s.done p .partStatus s.partBytes) ∧
    ∀ k : Fin 4, p = .service →
      exec (.readEmergencyKey p (u8 k.val ++ more)) s = .next (s.done p .readEmergencyKey (tget s.emergency.slots k).bytes))

/-- The commands that read the journal. READ SEGMENT WRAPPED goes on at slot 0 after slot 511, shows a DIRTY segment blank, and
changes nothing. JOURNAL STATUS arms the drop notice and changes nothing else. READ RECORDS returns committed records at or above
the cursor, moves the cursor to one above the last, and answers CURSOR_LOST once after a loss. (The layout of JOURNAL STATUS,
journalBytes, with JAMMED as FFh, its presence bytes and its fields of an erase, is the model's choice, log entry 8.) -/
def Obligations.ReadJournal : Prop :=
  ∀ (p : Port) (more : List Byte) (s : State), s.takes p →
    (∀ (k : SegIx) (start : Fin 512) (n : Nat), 1 ≤ n → n ≤ 16 →
      exec (.readSegmentWrapped p (u8 k.val ++ u16 start.val ++ u8 n ++ more)) s = .next (s.done p .readSegmentWrapped
        (((List.range n).map fun i =>
            (if (s.segment k).state = .dirty then Slot.blank
             else (s.segment k).slots.get ((start.val + i) % 512)).bytes).flatten
          ++ u8 (s.segment k).state.code ++ u8 (s.segment k).hold.code))) ∧
    (p = .service →
      exec (.journalStatus p more) s = .next
        ({ s with journal := { s.journal with noticeArmed := true } }.done p .journalStatus (journalBytes s.journal)) ∧
      ∀ n : Nat, 1 ≤ n → n ≤ 16 → ∃ rs : List Record,
        rs = readFrom s.journal.committed n s.journal.cursor ∧ rs.length ≤ n ∧
        (∀ r ∈ rs, r ∈ s.journal.committed) ∧ (∀ r, rs.head? = some r → seqAtOrBelow s.journal.cursor r.seq = true) ∧
        ((∀ r ∈ s.journal.committed, seqAtOrBelow s.journal.cursor r.seq = false) → rs = []) ∧
        exec (.readRecords p (u8 n ++ more)) s = .next
          ({ s with journal := { s.journal with
              cursor := (rs.getLast?.map fun r : Record => r.seq + 1).getD s.journal.cursor, cursorLost := false } }.answered p
            (some 0x56) ⟨if s.journal.cursorLost then .cursorLost else .ok, (rs.map Record.bytes).flatten⟩))

/-! ### Rooms and stays (chapter 1) -/

/-- CHECK IN. A VACANT room whose folio, where one is given, is OPEN with fewer than 4 rooms goes to OCCUPIED at the next generation
with live-key count 0; the folio is bound, ROOM_CHECKIN is offered and the new generation returned. Any other room is refused with
STATE, a folio that cannot take the room with FOLIO.
The Verdict Engine's waiting claims are served first (R45), as before every command on keys and every scan step. -/
def Obligations.CheckIn : Prop :=
  ∀ (r : RoomIx) (f : Option FolioIx) (note : BitVec 16) (more : List Byte) (w : State), w.takes .front →
    let s := serveWaiting w
    ((s.room r).phase = .vacant → (∀ k, f = some k → (s.folio k).state = .opened ∧ (s.folio k).rooms.length < 4) →
      exec (.checkIn .front (u16 r.val ++ u16? (f.map Fin.val) ++ u16 note.toNat ++ more)) w = .next
        ((offer { kind := .roomCheckin, cls := .notice, time := s.now, room := some r, detail := note }
          ((match f with
            | some k => s.modFolio k fun x => { x with rooms := x.rooms ++ [r] }
            | none => s).modRoom r fun rm =>
              { rm with phase := .occupied, generation := rm.generation + 1, liveKeys := 0, folio := f.or rm.folio })).done .front
            .checkIn [(s.room r).generation + 1])) ∧
    ((s.room r).phase ≠ .vacant →
      exec (.checkIn .front (u16 r.val ++ u16? (f.map Fin.val) ++ u16 note.toNat ++ more)) w =
        .next (s.refused .front .checkIn .state)) ∧
    ((s.room r).phase = .vacant → (∃ k, f = some k ∧ ((s.folio k).state ≠ .opened ∨ 4 ≤ (s.folio k).rooms.length)) →
      exec (.checkIn .front (u16 r.val ++ u16? (f.map Fin.val) ++ u16 note.toNat ++ more)) w =
        .next (s.refused .front .checkIn .folio))

/-- CHECK OUT. A room that is OCCUPIED, or BLOCKED with prior state OCCUPIED, and has no moved-from, takes the next generation with
live-key count 0, closing SCAN_PENDING and a REVOKE_ROOM job; it goes to CLOSING, or stays BLOCKED with prior state VACANT.
ROOM_CHECKOUT is offered (its room field is the model's choice, log entry 10). Other rooms are refused with STATE, and a full
Scan Queue with SCAN_FULL. Waiting claims are served first (R45). -/
def Obligations.CheckOut : Prop :=
  ∀ (r : RoomIx) (more : List Byte) (w : State), w.takes .front →
    let s := serveWaiting w
    ((s.room r).stayInProgress = true → (s.room r).movedFrom = none → s.keys.scanQueue.length < 8 →
      exec (.checkOut .front (u16 r.val ++ more)) w = .next
        ((offer { kind := .roomCheckout, cls := .notice, time := s.now, room := some r }
          { s.modRoom r fun rm =>
              { rm with
                phase := match rm.phase with | .blocked _ why => .blocked .vacant why | _ => .closing
                closing := some .scanPending, generation := rm.generation + 1, liveKeys := 0 } with
            keys := { s.keys with scanQueue := s.keys.scanQueue ++ [.revokeRoom r .checkout .front] } }).done .front
              .checkOut [])) ∧
    ((s.room r).stayInProgress = false ∨ (s.room r).movedFrom ≠ none →
      exec (.checkOut .front (u16 r.val ++ more)) w = .next (s.refused .front .checkOut .state)) ∧
    ((s.room r).stayInProgress = true → (s.room r).movedFrom = none → 8 ≤ s.keys.scanQueue.length →
      exec (.checkOut .front (u16 r.val ++ more)) w = .next (s.refused .front .checkOut .scanFull))

/-- MOVE STAY of an OCCUPIED source without a moved-from to a VACANT target without a closing: both rooms take their next
generations with live-key counts 0, the target is OCCUPIED with the source and its old generation as moved-from and the source's
folio, the source CLOSING with SCAN_PENDING and no folio; the folio's list names the target in the source's place, a REBIND job is
queued, ROOM_MOVE is offered and both generations are returned, the source's first (the model's choice, log entry 41). One room
given twice is BAD_PARAM, rooms in other states are STATE, and a full Scan Queue is SCAN_FULL. Waiting claims are served first
(R45). -/
def Obligations.MoveStay : Prop :=
  ∀ (a b : RoomIx) (more : List Byte) (w : State), w.takes .front →
    let s := serveWaiting w
    (a ≠ b → (s.room a).phase = .occupied → (s.room a).movedFrom = none → (s.room b).phase = .vacant →
      (s.room b).closing = none → s.keys.scanQueue.length < 8 → ∃ t : State,
      exec (.moveStay .front (u16 a.val ++ u16 b.val ++ more)) w = .next
        ((offer { kind := .roomMove, cls := .notice, time := s.now, room := some b, detail := BitVec.ofNat 16 a.val } t).done
          .front .moveStay [(s.room a).generation + 1, (s.room b).generation + 1]) ∧
      t = { s with rooms := t.rooms, charge := t.charge, keys := t.keys } ∧
      t.room b = { s.room b with phase := .occupied, generation := (s.room b).generation + 1, liveKeys := 0,
                                 movedFrom := some ⟨a, (s.room a).generation⟩, folio := (s.room a).folio.or (s.room b).folio } ∧
      t.room a = { s.room a with phase := .closing, closing := some .scanPending, generation := (s.room a).generation + 1,
                                 liveKeys := 0, folio := none } ∧
      (∀ q : RoomIx, q ≠ a → q ≠ b → t.room q = s.room q) ∧
      t.keys = { s.keys with scanQueue := s.keys.scanQueue ++ [.rebind a b (s.room a).generation .front] } ∧
      t.charge = { s.charge with folios := t.charge.folios } ∧
      ∀ k : FolioIx, t.folio k =
        if (s.room a).folio = some k then
          { s.folio k with rooms := (s.folio k).rooms.map fun r => if r = a then b else r }
        else s.folio k) ∧
    (a = b → exec (.moveStay .front (u16 a.val ++ u16 b.val ++ more)) w = .next (s.refused .front .moveStay .badParam)) ∧
    (a ≠ b → ((s.room a).phase ≠ .occupied ∨ (s.room a).movedFrom ≠ none ∨ (s.room b).phase ≠ .vacant ∨
        (s.room b).closing ≠ none) →
      exec (.moveStay .front (u16 a.val ++ u16 b.val ++ more)) w = .next (s.refused .front .moveStay .state)) ∧
    (a ≠ b → (s.room a).phase = .occupied → (s.room a).movedFrom = none → (s.room b).phase = .vacant →
      (s.room b).closing = none → 8 ≤ s.keys.scanQueue.length →
      exec (.moveStay .front (u16 a.val ++ u16 b.val ++ more)) w = .next (s.refused .front .moveStay .scanFull))

/-- UNBLOCK ROOM takes a BLOCKED room to its prior state, or to CLOSING where its closing is present, which is kept; prior state and
block reason go with BLOCKED. ROOM_BLOCK is offered with detail FFFFh. A room that is not BLOCKED is refused with STATE. -/
def Obligations.UnblockRoom : Prop :=
  ∀ (r : RoomIx) (more : List Byte) (s : State), s.takes .service →
    (∀ (prior : PriorState) (why : Byte), (s.room r).phase = .blocked prior why →
      ∃ room : Option RoomIx, exec (.unblockRoom .service (u16 r.val ++ more)) s = .next
        ((offer { kind := .roomBlock, cls := .notice, time := s.now, room := room, detail := 0xFFFF }
          (s.modRoom r fun rm =>
            { rm with phase := if rm.closing ≠ none then .closing else if prior = .vacant then .vacant else .occupied })).done
            .service .unblockRoom [])) ∧
    ((s.room r).isBlocked = false →
      exec (.unblockRoom .service (u16 r.val ++ more)) s = .next (s.refused .service .unblockRoom .state))

/-- BLOCK ROOM takes a VACANT or OCCUPIED room to BLOCKED with the state it left as prior state and the reason given; SET MAKEUP
takes the flag in every room state and hands a change to the room's primary MAKEUP lamp. CLOSING and BLOCKED rooms are refused by
BLOCK ROOM with STATE. (That the ROOM_BLOCK record carries the room is the model's choice, log entry 10.) -/
def Obligations.BlockAndMakeup : Prop :=
  ∀ (r : RoomIx) (why : Byte) (v : Bool) (more : List Byte) (s : State), s.takes .service →
    (∀ prior : PriorState, (s.room r).phase = (match prior with | .vacant => RoomPhase.vacant | .occupied => .occupied) →
      exec (.blockRoom .service (u16 r.val ++ [why] ++ more)) s = .next
        ((offer { kind := .roomBlock, cls := .notice, time := s.now, room := some r, detail := why.setWidth 16 }
          (s.modRoom r fun rm => { rm with phase := .blocked prior why })).done .service .blockRoom [])) ∧
    ((s.room r).phase = .closing ∨ (s.room r).isBlocked = true →
      exec (.blockRoom .service (u16 r.val ++ [why] ++ more)) s = .next (s.refused .service .blockRoom .state)) ∧
    exec (.setMakeup .service (u16 r.val ++ uFlag v ++ more)) s = .next
      ((if (s.room r).makeup = v then s
        else (s.modRoom r fun rm => { rm with makeup := v }).modLamp r fun e =>
          { e with primary := { e.primary with makeup := v } }).done .service .setMakeup [])

/-- WRITE ROOM in VACANT or BLOCKED, with nodes of the right kinds that name this room and that no other room names, takes the
label and both nodes; a change of door node makes the door condition UNKNOWN, clears privacy and writes the derived lamps again.
OCCUPIED and CLOSING rooms are refused with STATE, tested first (the model's choice, log entry 43). A door node that is no
ROOM_DOOR of this room, a minibar node that is no MINIBAR of it, a node that another room names, and a change of minibar node
while the room has a session are CONFLICT (also where the command leaves the minibar node out: the model's choice, log entry 43). -/
def Obligations.WriteRoom : Prop :=
  ∀ (r : RoomIx) (label : BitVec 16) (door bar : Option NodeAddr) (more : List Byte) (s : State), s.takes .service →
    ((s.room r).phase ≠ .occupied → (s.room r).phase ≠ .closing →
      (∀ n, door = some n → (s.node n).config = .roomDoor r) →
      (∀ n, bar = some n → ∃ c, (s.node n).config = .minibar r c) →
      (∀ n, door = some n ∨ bar = some n → ∀ q : RoomIx, q ≠ r → (s.room q).doorNode ≠ some n ∧ (s.room q).minibarNode ≠ some n) →
      (bar = (s.room r).minibarNode ∨ s.charge.sessionOfRoom r = none) →
      exec (.writeRoom .service (u16 r.val ++ u16 label.toNat ++ uNode? door ++ uNode? bar ++ more)) s = .next
        ((if (s.room r).doorNode = door then
            s.modRoom r fun rm => { rm with label := label, minibarNode := bar }
          else (s.modRoom r fun rm =>
            { rm with label := label, doorNode := door, minibarNode := bar, door := .unknown, privacy := false }).modLamp r
            fun e => { e with
              primary := { e.primary with
                privacy := false, makeup := (s.room r).makeup
                alarm := match door with
                  | some n => alarmLit (s.node n).door (s.node n).latch
                  | none => false }
              lastSent := none }).done .service .writeRoom [])) ∧
    ((s.room r).phase = .occupied ∨ (s.room r).phase = .closing →
      exec (.writeRoom .service (u16 r.val ++ u16 label.toNat ++ uNode? door ++ uNode? bar ++ more)) s =
        .next (s.refused .service .writeRoom .state)) ∧
    ((s.room r).phase ≠ .occupied → (s.room r).phase ≠ .closing →
      ((∃ n, door = some n ∧ (s.node n).config ≠ .roomDoor r) ∨
        (∃ n, bar = some n ∧ ∀ c, (s.node n).config ≠ .minibar r c) ∨
        (∃ n q, (door = some n ∨ bar = some n) ∧ q ≠ r ∧ ((s.room q).doorNode = some n ∨ (s.room q).minibarNode = some n)) ∨
        (bar ≠ (s.room r).minibarNode ∧ s.charge.sessionOfRoom r ≠ none)) →
      exec (.writeRoom .service (u16 r.val ++ u16 label.toNat ++ uNode? door ++ uNode? bar ++ more)) s =
        .next (s.refused .service .writeRoom .conflict))

/-- PAIR ROOMS of two unpaired rooms without a closing, by a CONNECT_DOOR of one of them that connects no other room, makes each the
other's paired room at that node; UNPAIR ROOMS takes both pairings away. Equal rooms are BAD_PARAM, a closing is STATE, a room
already paired CONFLICT, and so is a node that is no CONNECT_DOOR of one of the rooms or connects another room already, tested in
that order (the model's choice, log entry 43). UNPAIR ROOMS of an unpaired room, or with a closing in either room, is STATE. -/
def Obligations.PairAndUnpair : Prop :=
  ∀ (a b : RoomIx) (n : NodeAddr) (more : List Byte) (s : State), s.takes .service →
    (a ≠ b → (s.room a).isClosing = false → (s.room b).isClosing = false → (s.room a).pairing = none →
      (s.room b).pairing = none → ((s.node n).config = .connectDoor a ∨ (s.node n).config = .connectDoor b) →
      (∀ q : RoomIx, q ≠ a → q ≠ b → (s.room q).pairing.map Pairing.node ≠ some n) →
      exec (.pairRooms .service (u16 a.val ++ u16 b.val ++ uNode n ++ more)) s = .next
        (((s.modRoom a fun rm => { rm with pairing := some ⟨b, n⟩ }).modRoom b fun rm =>
          { rm with pairing := some ⟨a, n⟩ }).done .service .pairRooms [])) ∧
    (a = b → exec (.pairRooms .service (u16 a.val ++ u16 b.val ++ uNode n ++ more)) s =
      .next (s.refused .service .pairRooms .badParam)) ∧
    (a ≠ b → (s.room a).isClosing = true ∨ (s.room b).isClosing = true →
      exec (.pairRooms .service (u16 a.val ++ u16 b.val ++ uNode n ++ more)) s = .next (s.refused .service .pairRooms .state)) ∧
    (a ≠ b → (s.room a).isClosing = false → (s.room b).isClosing = false →
      (s.room a).pairing ≠ none ∨ (s.room b).pairing ≠ none →
      exec (.pairRooms .service (u16 a.val ++ u16 b.val ++ uNode n ++ more)) s =
        .next (s.refused .service .pairRooms .conflict)) ∧
    (a ≠ b → (s.room a).isClosing = false → (s.room b).isClosing = false →
      ((s.node n).config ≠ .connectDoor a ∧ (s.node n).config ≠ .connectDoor b) ∨
        (∃ q : RoomIx, q ≠ a ∧ q ≠ b ∧ (s.room q).pairing.map Pairing.node = some n) →
      exec (.pairRooms .service (u16 a.val ++ u16 b.val ++ uNode n ++ more)) s =
        .next (s.refused .service .pairRooms .conflict)) ∧
    (∀ x : Pairing, (s.room a).pairing = some x → (s.room a).isClosing = true ∨ (s.room x.room).isClosing = true →
      exec (.unpairRooms .service (u16 a.val ++ more)) s = .next (s.refused .service .unpairRooms .state)) ∧
    (∀ x : Pairing, (s.room a).pairing = some x → (s.room a).isClosing = false → (s.room x.room).isClosing = false →
      exec (.unpairRooms .service (u16 a.val ++ more)) s = .next
        (((s.modRoom a fun rm => { rm with pairing := none }).modRoom x.room fun rm => { rm with pairing := none }).done .service
          .unpairRooms [])) ∧
    ((s.room a).pairing = none →
      exec (.unpairRooms .service (u16 a.val ++ more)) s = .next (s.refused .service .unpairRooms .state))

/-! ### The Key Register (chapter 2) -/

/-- The entry found for an issue: the entry that holds the card and is not FREE; else the FREE entry of lowest index; else the
head of the Retired List; else none.
ISSUE STAFF KEY: the entry found is written whole, LIVE and of kind STAFF with issuing port Service; no room is touched;
KEY_ISSUED is offered with the profile as detail and the key index returned. The sum of R28 that falls from 64 while armed raises
KEY_TABLE_LOW. It is refused at the first check that fails: a profile outside 4 to 15 or a valid until not
above valid from is BAD_PARAM, a card in service DUPLICATE, no entry found TABLE_FULL. Waiting claims are served first (R45). -/
def Obligations.IssueStaffKey : Prop :=
  (∀ (card : CardId) (s : State),
    (∀ k e, s.findCard card = some (k, e) → s.entry k = some e ∧ e.card = card ∧ s.findForIssue card = some k) ∧
    (s.findCard card = none → (∀ k e, s.entry k = some e → e.card ≠ card) ∧
      (∀ k, (s.entry k = none ∧ ∀ j : KeyIx, j < k → s.entry j ≠ none) → s.findForIssue card = some k) ∧
      ((∀ k, s.entry k ≠ none) → s.findForIssue card = s.keys.retired.head?))) ∧
  (∀ (card : CardId) (zones : Set16) (profile : Byte) (from_ until_ : HotelTime) (more : List Byte) (w : State),
    w.takes .service → profile.toNat < 4 ∨ 15 < profile.toNat →
    exec (.issueStaffKey .service (u64 card ++ u16 zones.toNat ++ [profile] ++ u32 from_ ++ u32 until_ ++ more)) w =
      .next (w.refused .service .issueStaffKey .badParam)) ∧
  (∀ (card : CardId) (zones : Set16) (profile : Fin 16) (from_ until_ : HotelTime) (more : List Byte) (w : State),
    w.takes .service → 4 ≤ profile.val →
    let s := serveWaiting w
    (∀ k : KeyIx, from_ < until_ → s.heldInService card = false → s.findForIssue card = some k → ∃ t : State,
      exec (.issueStaffKey .service (u64 card ++ u16 zones.toNat ++ u8 profile.val ++ u32 from_ ++ u32 until_ ++ more)) w = .next
        ((offer { kind := .keyIssued, cls := .notice, time := s.now, key := some k, card := some card,
                  detail := BitVec.ofNat 16 profile.val } t).done .service .issueStaffKey (u16 k.val)) ∧
      t = { s with keys := t.keys, attn := t.attn } ∧
      t.entry k = some
        { card := card, body := .staff zones, standing := .live, profile := profile, validFrom := from_, validUntil := until_,
          presentations := 0, uses := 0, lastUse := none, issuer := .service } ∧
      (∀ j : KeyIx, j ≠ k → t.entry j = s.entry j) ∧ t.keys.retired = s.keys.retired.erase k ∧
      t.keys.scanQueue = s.keys.scanQueue ∧ t.keys.walk = s.keys.walk ∧
      t.attn = if s.keys.lowArmed = true ∧ s.keys.sum = 64 then (raise .front .keyTableLow s).attn else s.attn) ∧
    (from_ < until_ → s.heldInService card = true →
      exec (.issueStaffKey .service (u64 card ++ u16 zones.toNat ++ u8 profile.val ++ u32 from_ ++ u32 until_ ++ more)) w =
        .next (s.refused .service .issueStaffKey .duplicate)) ∧
    (until_ ≤ from_ →
      exec (.issueStaffKey .service (u64 card ++ u16 zones.toNat ++ u8 profile.val ++ u32 from_ ++ u32 until_ ++ more)) w =
        .next (s.refused .service .issueStaffKey .badParam)) ∧
    (from_ < until_ → s.heldInService card = false → s.findForIssue card = none →
      exec (.issueStaffKey .service (u64 card ++ u16 zones.toNat ++ u8 profile.val ++ u32 from_ ++ u32 until_ ++ more)) w =
        .next (s.refused .service .issueStaffKey .tableFull)))

/-- ISSUE GUEST KEY taken (R24, R25). NEW raises the principal room's generation, sets its live-key count to 0 and queues a REPLACE
job; the entry found is written whole, LIVE, with each listed room at its generation; each listed room counts one more live key;
the sum falls, and KEY_TABLE_LOW is raised where it falls from 64 while armed; KEY_ISSUED is offered, and the key index and the
principal room's generation are returned.
ISSUE GUEST KEY is refused at the first check that fails, in the order BAD_PARAM, STATE, DUPLICATE, LIMIT, TABLE_FULL, SCAN_FULL,
and nothing changes but the port. Waiting claims are served first (R45). -/
def Obligations.IssueGuestKey : Prop :=
  (∀ (card : CardId) (new : Bool) (profile : Fin 4) (from_ until_ : HotelTime) (r : RoomIx) (rs : List RoomIx) (k : KeyIx)
    (more : List Byte) (w : State),
    let s := serveWaiting w
    w.takes .front → rs.length ≤ 3 → 8 ≤ 2 * (r :: rs).length + more.length → (r :: rs).Nodup → from_ < until_ →
    (∀ q ∈ r :: rs, (s.room q).phase = .occupied ∧ (s.room q).movedFrom = none) → s.heldInService card = false →
    (∀ q ∈ rs, (s.room q).liveKeys < 6) → (new = false → (s.room r).liveKeys < 6) → s.findForIssue card = some k →
    (new = true → s.keys.scanQueue.length < 8) →
    ∃ (t : State) (g : BitVec 8), g = (if new then (s.room r).generation + 1 else (s.room r).generation) ∧
      exec (.issueGuestKey .front (u64 card ++ uFlag (!new) ++ u8 profile.val ++ u32 from_ ++ u32 until_ ++
        u8 (r :: rs).length ++ ((r :: rs).map fun q => u16 q.val).flatten ++ more)) w = .next
        ((offer { kind := .keyIssued, cls := .notice, time := s.now, key := some k, card := some card, room := some r,
                  detail := g.setWidth 16 } t).done .front .issueGuestKey (u16 k.val ++ [g])) ∧
      t = { s with rooms := t.rooms, keys := t.keys, attn := t.attn } ∧
      t.entry k = some
        { card := card, standing := .live, profile := profile.castLE (by decide), validFrom := from_, validUntil := until_,
          body := .guest (⟨r, g⟩ :: rs.map fun q => ⟨q, (s.room q).generation⟩),
          presentations := 0, uses := 0, lastUse := none, issuer := .front } ∧
      (∀ j : KeyIx, j ≠ k → t.entry j = s.entry j) ∧ t.keys.retired = s.keys.retired.erase k ∧
      t.keys.walk = s.keys.walk ∧
      t.keys.scanQueue = s.keys.scanQueue ++ (if new then [.replace r .front] else []) ∧
      t.room r = { s.room r with generation := g, liveKeys := if new then 1 else (s.room r).liveKeys + 1 } ∧
      (∀ q ∈ rs, t.room q = { s.room q with liveKeys := (s.room q).liveKeys + 1 }) ∧
      (∀ q : RoomIx, q ∉ r :: rs → t.room q = s.room q) ∧
      t.keys.lowArmed = (s.keys.lowArmed && decide (s.keys.sum ≠ 64)) ∧
      t.attn = if s.keys.lowArmed = true ∧ s.keys.sum = 64 then (raise .front .keyTableLow s).attn else s.attn) ∧
  (∀ (card : CardId) (new : Bool) (profile : Fin 4) (from_ until_ : HotelTime) (rs : List RoomIx) (more : List Byte)
    (code : ResultCode) (w : State),
    let s := serveWaiting w
    w.takes .front → 1 ≤ rs.length → rs.length ≤ 4 → 8 ≤ 2 * rs.length + more.length →
    some code = (if ¬ (rs.Nodup ∧ from_ < until_) then some .badParam
      else if ∃ q ∈ rs, ¬ ((s.room q).phase = .occupied ∧ (s.room q).movedFrom = none) then some .state
      else if s.heldInService card = true then some .duplicate
      else if ∃ q ∈ (if new then rs.drop 1 else rs), 6 ≤ (s.room q).liveKeys then some .limit
      else if s.findForIssue card = none then some .tableFull
      else if new = true ∧ 8 ≤ s.keys.scanQueue.length then some .scanFull else none) →
    exec (.issueGuestKey .front (u64 card ++ uFlag (!new) ++ u8 profile.val ++ u32 from_ ++ u32 until_ ++ u8 rs.length ++
      (rs.map fun q => u16 q.val).flatten ++ more)) w = .next (s.refused .front .issueGuestKey code))

/-- What retiring an entry in service does (R22): its state, reason and time, the tail of the Retired List, the live-key counts of
the rooms to which a LIVE guest key held current bindings, and the KEY_RETIRED record; every other field of the entry, every other
entry and every other part of the state stand. -/
def Obligations.Retirement : Prop :=
  ∀ (k : KeyIx) (how : RetiredAs) (reason : RetireReason) (e : KeyEntry) (s : State), s.entry k = some e →
    e.standing.inService = true → ∃ t : State,
    retire k how reason none s = offer
      { kind := .keyRetired, cls := .notice, time := s.now, key := some k, card := some e.card, room := e.principal,
        reason := some (.retirement reason) } t ∧
    t = { s with rooms := t.rooms, keys := t.keys } ∧
    t.entry k = some { e with standing := .retired how reason (s.now.getD 0) } ∧
    (∀ j : KeyIx, j ≠ k → t.entry j = s.entry j) ∧ t.keys.retired = s.keys.retired ++ [k] ∧
    t.keys.scanQueue = s.keys.scanQueue ∧ t.keys.walk = s.keys.walk ∧ t.keys.claims = s.keys.claims ∧
    t.keys.lowArmed = (s.keys.lowArmed || decide (63 ≤ s.keys.sum)) ∧
    (∀ r : RoomIx, t.room r = { s.room r with
      liveKeys := (s.room r).liveKeys -
        (if e.standing = .live then e.bindings.countP fun b => decide (b.room = r ∧ b.generation = (s.room r).generation) else 0) })

/-- REVOKE KEY retires a LIVE or SUSPENDED entry as REVOKED for MANUAL. A card without an entry is NO_ENTRY; a key issued on the
Service port is STATE on the Front port, and so is a retired entry on either.
REPORT LOST, case by case of R30: the entry in service is REVOKED for LOST, the card joins the Watch List with ALERT and LOST
unless it is listed or the list is full, and the result is OK, NO_ENTRY or WATCH_FULL. Waiting claims are served first
(R45). -/
def Obligations.RevokeAndReportLost : Prop :=
  (∀ (p : Port) (card : CardId) (more : List Byte) (w : State), w.takes p → p ≠ .charge →
    let s := serveWaiting w
    (∀ k e, s.findCard card = some (k, e) → e.standing.inService = true → ¬ (p = .front ∧ e.issuer = .service) →
      exec (.revokeKey p (u64 card ++ more)) w = .next ((retire k .revoked .manual none s).done p .revokeKey [])) ∧
    (s.findCard card = none → exec (.revokeKey p (u64 card ++ more)) w = .next (s.refused p .revokeKey .noEntry)) ∧
    (∀ k e, s.findCard card = some (k, e) → e.standing.inService = false ∨ (p = .front ∧ e.issuer = .service) →
      exec (.revokeKey p (u64 card ++ more)) w = .next (s.refused p .revokeKey .state))) ∧
  (∀ (p : Port) (card : CardId) (more : List Byte) (w : State), w.takes p → p ≠ .charge →
    let s := serveWaiting w
    (∀ k e, s.findCard card = some (k, e) → ¬ (p = .front ∧ e.issuer = .service) →
      exec (.reportLost p (u64 card ++ more)) w = .next
        (let t := if e.standing.inService then retire k .revoked .lost none s else s
         if s.watchOf card ≠ none then t.done p .reportLost []
         else if s.verdict.watch.length < 8 then
           (joinWatch ⟨card, .alert, .lost⟩ t).done p .reportLost []
         else t.answered p (some 0x13) ⟨.watchFull, []⟩)) ∧
    (s.findCard card = none → exec (.reportLost p (u64 card ++ more)) w = .next
      (if s.watchOf card ≠ none then s.answered p (some 0x13) ⟨.noEntry, []⟩
       else if s.verdict.watch.length < 8 then
         (joinWatch ⟨card, .alert, .lost⟩ s).answered p (some 0x13) ⟨.noEntry, []⟩
       else s.answered p (some 0x13) ⟨.watchFull, []⟩)) ∧
    (∀ k e, s.findCard card = some (k, e) → p = .front → e.issuer = .service →
      exec (.reportLost p (u64 card ++ more)) w = .next (s.refused p .reportLost .state)))

/-- SUSPEND KEY takes a LIVE entry to SUSPENDED and uncounts it where it held current bindings; RESUME KEY takes a SUSPENDED entry
back to LIVE and counts it again, where no room of a current binding would then have more than 6 live keys, nor the target of a move
for which a binding is held, the LIVE entries that hold that binding and this key reckoned there; else it is LIMIT. Other stale
bindings do not limit. A card without an entry is NO_ENTRY, an entry in another state STATE. Neither offers a record. Waiting claims
are served first (R45). -/
def Obligations.SuspendAndResume : Prop :=
  ∀ (card : CardId) (more : List Byte) (w : State), w.takes .service →
    let s := serveWaiting w
    (s.findCard card = none →
      exec (.suspendKey .service (u64 card ++ more)) w = .next (s.refused .service .suspendKey .noEntry) ∧
      exec (.resumeKey .service (u64 card ++ more)) w = .next (s.refused .service .resumeKey .noEntry)) ∧
    ∀ (k : KeyIx) (e : KeyEntry), s.findCard card = some (k, e) →
    let current (b : Binding) : Prop := b.generation = (s.room b.room).generation
    let moves (b : Binding) (target : RoomIx) : Prop := ∃ p, ScanJob.rebind b.room target b.generation p ∈ s.keys.scanQueue
    let held (b : Binding) : Nat := s.keys.entries.count fun x => x.any fun y => decide (y.standing = .live ∧ b ∈ y.bindings)
    (e.standing = .live → ∃ t : State, exec (.suspendKey .service (u64 card ++ more)) w =
        .next (t.done .service .suspendKey []) ∧
      t = { s with rooms := t.rooms, keys := (s.setEntry k { e with standing := .suspended }).keys } ∧
      ∀ r : RoomIx, t.room r = { s.room r with liveKeys := (s.room r).liveKeys -
        (e.bindings.countP fun b => decide (b.room = r ∧ b.generation = (s.room r).generation)) }) ∧
    (e.standing ≠ .live → exec (.suspendKey .service (u64 card ++ more)) w = .next (s.refused .service .suspendKey .state)) ∧
    (e.standing ≠ .suspended → exec (.resumeKey .service (u64 card ++ more)) w = .next (s.refused .service .resumeKey .state)) ∧
    (e.standing = .suspended → (∀ b ∈ e.bindings, (current b → (s.room b.room).liveKeys + 1 ≤ 6) ∧
        (¬ current b → ∀ target, moves b target → (s.room target).liveKeys + held b + 1 ≤ 6)) → ∃ t : State,
      exec (.resumeKey .service (u64 card ++ more)) w = .next (t.done .service .resumeKey []) ∧
      t = { s with rooms := t.rooms, keys := (s.setEntry k { e with standing := .live }).keys } ∧
      ∀ r : RoomIx, t.room r = { s.room r with liveKeys := (s.room r).liveKeys +
        (e.bindings.countP fun b => decide (b.room = r ∧ b.generation = (s.room r).generation)) }) ∧
    (e.standing = .suspended → (∃ b ∈ e.bindings, (current b ∧ 6 < (s.room b.room).liveKeys + 1) ∨
        (¬ current b ∧ (∃ target, moves b target) ∧
          ∀ target, moves b target → 6 < (s.room target).liveKeys + held b + 1)) →
      exec (.resumeKey .service (u64 card ++ more)) w = .next (s.refused .service .resumeKey .limit))

/-- EXTEND KEY gives a LIVE or SUSPENDED entry of the Front port a new valid until above its valid from, earlier or later than the
old one, and changes nothing else. Waiting claims of the Verdict Engine are served first (R45; their own order is the model's choice,
log entry 16). -/
def Obligations.ExtendKey : Prop :=
  ∀ (card : CardId) (until_ : HotelTime) (more : List Byte) (w : State), w.takes .front →
    let s := serveWaiting w
    (s.findCard card = none →
      exec (.extendKey .front (u64 card ++ u32 until_ ++ more)) w = .next (s.refused .front .extendKey .noEntry)) ∧
    ∀ k e, s.findCard card = some (k, e) → exec (.extendKey .front (u64 card ++ u32 until_ ++ more)) w = .next
      (if e.issuer = .service ∨ e.standing.inService = false then s.refused .front .extendKey .state
       else if until_ ≤ e.validFrom then s.refused .front .extendKey .badParam
       else (s.setEntry k { e with validUntil := until_ }).done .front .extendKey [])

/-- REVOKE ROOM KEYS on a room with a stay in progress queues a REVOKE_ROOM job for MANUAL and changes no room; other rooms are
STATE and a full queue SCAN_FULL. SCAN JOB START takes an idle engine to index 0 of the job at the head.
One step of the walk, before its last index, serves the waiting claims, judges one entry by the rule of the job and goes on to the
next index. FREE and retired entries are passed over; EXPIRY retires an entry whose valid until has passed; REPLACE retires an
entry that binds the room and whose every binding is stale; REVOKE_ROOM takes the bindings to the room and retires an entry left
with none; REBIND turns the binding of the move to the target, in place or into the binding to the target that is held already,
and takes other bindings to the source away, retiring an entry left with none. -/
def Obligations.ScanStep : Prop :=
  (∀ (r : RoomIx) (more : List Byte) (w : State),
    (w.takes .front → let s := serveWaiting w
      exec (.revokeRoomKeys .front (u16 r.val ++ more)) w = .next
      (if (s.room r).stayInProgress = false then s.refused .front .revokeRoomKeys .state
       else if 8 ≤ s.keys.scanQueue.length then s.refused .front .revokeRoomKeys .scanFull
       else (pushJob (.revokeRoom r .manual .front) s).done .front .revokeRoomKeys [])) ∧
    (w.inRun = true → w.keys.walk = none → w.keys.scanQueue ≠ [] →
      exec .scanJobStart w = .next { w with keys := { w.keys with walk := some 0 } })) ∧
  (∀ (k : KeyIx) (h : k.val + 1 < 2048) (j : ScanJob) (rest : List ScanJob) (w : State), w.inRun = true →
    w.keys.walk = some k → w.keys.scanQueue = j :: rest → exec .scanStep w = .next
      (let t := judgeEntry j k (serveWaiting w)
       { t with keys := { t.keys with walk := some ⟨k.val + 1, h⟩ } })) ∧
  ∀ (k : KeyIx) (j : ScanJob) (s : State),
    (s.entry k = none → judgeEntry j k s = s) ∧
    ∀ e, s.entry k = some e → (e.standing.inService = false → judgeEntry j k s = s) ∧
      (e.standing.inService = true →
        let binding (bs : List Binding) : State := s.setEntry k { e with body := .guest bs }
        (j = .expiry → judgeEntry j k s = if s.untilPassed e then retire k .expired .expired none s else s) ∧
        (∀ r p, j = .replace r p → (∃ b ∈ e.bindings, b.room = r) → (∀ b ∈ e.bindings, s.bindingMark b = .stale) →
          judgeEntry j k s = retire k .revoked .replaced none s) ∧
        (∀ r p, j = .replace r p → (∃ b ∈ e.bindings, b.room = r) → (∃ b ∈ e.bindings, s.bindingMark b ≠ .stale) →
          judgeEntry j k s =
            binding (e.bindings.filter fun b => !(decide (b.room = r) && decide (s.bindingMark b = .stale)))) ∧
        (∀ r why p, j = .revokeRoom r why p → (∃ b ∈ e.bindings, b.room = r) →
          let cut := binding (e.bindings.filter fun b => decide (b.room ≠ r))
          let counted := if e.standing = .live ∧ ∃ b ∈ e.bindings, b.room = r ∧ b.generation = (s.room r).generation then
            cut.modRoom r fun rm => { rm with liveKeys := rm.liveKeys - 1 } else cut
          judgeEntry j k s =
            if ∀ b ∈ e.bindings, b.room = r then retire k .revoked why (some r) counted else counted) ∧
        (∀ r why p, j = .revokeRoom r why p ∨ j = .replace r p → (∀ b ∈ e.bindings, b.room ≠ r) → judgeEntry j k s = s) ∧
        ∀ a b g p, j = .rebind a b g p →
          let counted (t : State) : State :=
            if e.standing = .live then t.modRoom b fun rm => { rm with liveKeys := rm.liveKeys + 1 } else t
          let turned : Binding := ⟨b, (s.room b).generation⟩
          ((⟨a, g⟩ : Binding) ∈ e.bindings → (∀ x ∈ e.bindings, x.room ≠ b) → judgeEntry j k s =
            counted (binding (e.bindings.map fun x => if x = ⟨a, g⟩ then turned else x))) ∧
          ((⟨a, g⟩ : Binding) ∈ e.bindings → (∃ x ∈ e.bindings, x.room = b) → judgeEntry j k s =
            counted (binding ((e.bindings.filter fun x => decide (x ≠ ⟨a, g⟩)).map fun x => if x.room = b then turned else x))) ∧
          ((⟨a, g⟩ : Binding) ∉ e.bindings → (∃ x ∈ e.bindings, x.room = a) →
            let cut := binding (e.bindings.filter fun x => decide (x.room ≠ a))
            judgeEntry j k s = if ∀ x ∈ e.bindings, x.room = a then retire k .revoked .replaced none cut else cut) ∧
          ((∀ x ∈ e.bindings, x.room ≠ a) → judgeEntry j k s = s))

/-- The step at index 2,047 serves the waiting claims, judges its entry as every step does (the judgements stand in ScanStep), and
completes the job: it leaves the queue, the engine is idle, and SCAN_DONE is raised on its port save for EXPIRY. For a checkout
the room's closing becomes SCAN_DONE; for a move the source's does, and the target's moved-from is absent. The room is vacated
then and there where it has no minibar session.
Vacating a room (R6): CLOSING goes to VACANT and BLOCKED keeps its reason with prior state VACANT; closing and folio become
absent, privacy and make-up are clear and handed to the lamps (also where they were clear before: the model's choice, log entry
44), the folio loses the room and, CLOSING with no room, line or session left, drains to FREE, and ROOM_VACATED is raised on the
Front port. -/
def Obligations.ScanCompletion : Prop :=
  (∀ (k : KeyIx) (j : ScanJob) (rest : List ScanJob) (w : State), k.val = 2047 → w.inRun = true → w.keys.walk = some k →
    w.keys.scanQueue = j :: rest →
    let s := judgeEntry j k (serveWaiting w)
    let left : State := { s with keys := { s.keys with scanQueue := rest, walk := none } }
    let close (r : RoomIx) (t : State) : State :=
      let u := t.modRoom r fun rm => { rm with closing := some .scanDone }
      if s.charge.sessionOfRoom r = none then vacate r u else u
    (j = .expiry → exec .scanStep w = .next left) ∧
    (∀ r p, j = .replace r p → exec .scanStep w = .next (raise p .scanDone left)) ∧
    (∀ r p, j = .revokeRoom r .manual p → exec .scanStep w = .next (raise p .scanDone left)) ∧
    (∀ r p, j = .revokeRoom r .checkout p → exec .scanStep w = .next (close r (raise p .scanDone left))) ∧
    ∀ a b g p, j = .rebind a b g p → exec .scanStep w = .next
      (close a ((raise p .scanDone left).modRoom b fun rm => { rm with movedFrom := none }))) ∧
  (∀ (r : RoomIx) (s : State), (s.room r).phase = .closing ∨ (s.room r).isBlocked = true → ∃ t : State,
    vacate r s = raise .front .roomVacated t ∧
    t = { s with rooms := t.rooms, charge := t.charge, lamps := t.lamps, attn := t.attn } ∧
    t.room r = { s.room r with
      phase := match (s.room r).phase with | .blocked _ why => .blocked .vacant why | _ => .vacant
      closing := none, folio := none, privacy := false, makeup := false } ∧
    (∀ q : RoomIx, q ≠ r → t.room q = s.room q) ∧
    t.lamp r = { s.lamp r with primary := { (s.lamp r).primary with privacy := false, makeup := false } } ∧
    (∀ q : RoomIx, q ≠ r → t.lamp q = s.lamp q) ∧
    ((s.room r).folio = none → t.charge = s.charge ∧ t.attn = s.attn) ∧
    ∀ f, (s.room r).folio = some f →
      if (s.folio f).state = .closing ∧ (s.folio f).rooms.erase r = [] ∧ (s.folio f).pendingLines = 0 ∧
          (∀ x ∈ s.charge.sessions, x.folio ≠ some f) then
        t.charge = (s.modFolio f fun x => { x with rooms := [], state := .free, allowance := 0, spent := 0 }).charge ∧
        t.attn = (raise .front .folioDrained (raise .charge .folioDrained s)).attn
      else t.charge = (s.modFolio f fun x => { x with rooms := x.rooms.erase r }).charge ∧ t.attn = s.attn)

/-- The claims of the Verdict Engine. A use report on the entry that still holds its card raises the presentation count and, for a
use, the use count, both up to 65,535, and notes the arrival; a rebind claim turns the binding of the move to the target, or removes
it where the entry holds a binding to the target, which then takes the target's generation, and counts a LIVE entry there. A claim
whose entry holds another card or has been rewritten since is discarded, and so is a rebind claim whose entry has retired or no
longer holds the binding. What is served before a command on keys and before a scan step (R45) is every waiting claim, each as its
own event serves it; none waits after it. (That they are served from the oldest is the model's choice, log entry 16, for R45 orders
no claims of the Verdict Engine among themselves; that a SUSPENDED entry is turned without being counted is log entry 17.) -/
def Obligations.EngineClaims : Prop :=
  (∀ (k : KeyIx) (card : CardId) (rest : List VeClaim) (s : State), s.inRun = true →
    let left : State := { s with keys := { s.keys with claims := rest } }
    (∀ used arrival e, s.keys.claims = .use k card used arrival false :: rest → s.entry k = some e → e.card = card →
      exec .useReport s = .next (left.setEntry k { e with
        presentations := min (e.presentations + 1) 65535
        uses := if used then min (e.uses + 1) 65535 else e.uses
        lastUse := if used then arrival.or e.lastUse else e.lastUse })) ∧
    (∀ used arrival w, s.keys.claims = .use k card used arrival w :: rest →
      w = true ∨ (∀ e, s.entry k = some e → e.card ≠ card) → exec .useReport s = .next left) ∧
    (∀ (m : MovedFrom) (target : RoomIx) (e : KeyEntry), s.keys.claims = .rebind k card m target false :: rest → s.entry k = some e →
      e.card = card → e.standing.inService = true → (⟨m.source, m.generation⟩ : Binding) ∈ e.bindings →
      let source : Binding := ⟨m.source, m.generation⟩
      let turned : Binding := ⟨target, (s.room target).generation⟩
      let counted (bs : List Binding) : State :=
        let t := left.setEntry k { e with body := .guest bs }
        if e.standing = .live then t.modRoom target fun rm => { rm with liveKeys := rm.liveKeys + 1 } else t
      ((∀ b ∈ e.bindings, b.room ≠ target) → exec .rebindClaim s = .next
        (counted (e.bindings.map fun b => if b = source then turned else b))) ∧
      ((∃ b ∈ e.bindings, b.room = target) → exec .rebindClaim s = .next
        (counted ((e.bindings.filter fun b => decide (b ≠ source)).map fun b => if b.room = target then turned else b)))) ∧
    ∀ (m : MovedFrom) (target : RoomIx) (w : Bool), s.keys.claims = .rebind k card m target w :: rest →
      w = true ∨ (∀ e, s.entry k = some e → e.card ≠ card ∨ e.standing.inService = false ∨
        (⟨m.source, m.generation⟩ : Binding) ∉ e.bindings) → exec .rebindClaim s = .next left) ∧
  ∀ s : State, (serveWaiting s).keys.claims = [] ∧ (s.keys.claims = [] → serveWaiting s = s) ∧
    ∀ (c : VeClaim) (rest : List VeClaim), s.inRun = true → s.keys.claims = c :: rest → ∃ t : State,
      exec (if c.isUse then .useReport else .rebindClaim) s = .next t ∧ serveWaiting s = serveWaiting t

/-! ### Profiles and the Watch List (chapter 3) -/

/-- WRITE PROFILE replaces the whole record; a guest profile that names STAFF_DOOR or sets a staff field is BAD_PARAM. -/
def Obligations.WriteProfile : Prop :=
  ∀ (k : Fin 16) (x : Profile) (more : List Byte) (s : State), s.takes .service → x.kinds.toNat < 32 → x.days.toNat < 128 →
    x.windowFrom < 1440 → x.windowUntil < 1440 →
    exec (.writeProfile .service (x.bytes k ++ more)) s = .next
      (if k.val < 4 ∧ (x.kinds.getLsbD 3 || x.enterOccupied || x.enterVacant || x.makeupOnly || x.overridePrivacy ||
          x.overrideBlock || x.restock) = true then s.refused .service .writeProfile .badParam
       else { s with verdict := { s.verdict with profiles := tset s.verdict.profiles k x } }.done .service .writeProfile [])

/-- WATCH ADD of a card that is not held, while fewer than 8 entries are, joins it with origin SERVICE. A held card is DUPLICATE,
a full list WATCH_FULL, an action outside the two BAD_PARAM.
WATCH REMOVE takes the entry of a card off the list, whatever its origin; a card that is not held is NO_ENTRY. -/
def Obligations.WatchList : Prop :=
  (∀ (card : CardId) (action : Byte) (more : List Byte) (s : State), s.takes .service →
    exec (.watchAdd .service (u64 card ++ [action] ++ more)) s = .next
      (if action ≠ 0 ∧ action ≠ 1 then s.refused .service .watchAdd .badParam
       else if ∃ w ∈ s.verdict.watch, w.card = card then s.refused .service .watchAdd .duplicate
       else if 8 ≤ s.verdict.watch.length then s.refused .service .watchAdd .watchFull
       else (joinWatch ⟨card, if action = 0 then .alert else .alertAndDeny, .service⟩ s).done .service .watchAdd [])) ∧
  (∀ (card : CardId) (more : List Byte) (s : State), s.takes .service →
    exec (.watchRemove .service (u64 card ++ more)) s = .next
      (if ∃ w ∈ s.verdict.watch, w.card = card then
        { s with verdict := { s.verdict with
          watch := s.verdict.watch.filter fun w => decide (w.card ≠ card) } }.done .service .watchRemove []
       else s.refused .service .watchRemove .noEntry))

/-! ### Verdicts (chapter 4) -/

/-- A judgement takes the oldest WAITING presentation: its entry becomes JUDGED with the verdict, which joins the tail of its
line's Verdict Queue.
The lookup's corrections come first (R42); the use report, and the rebind claim of a grant made under the move, join the waiting
claims (R78); a GRANT at a room's own door notes the last entry time (R17) and, entered under make-up only, clears make-up with its
lamp (R15). A GRANT sets the node's grant outstanding with the present time, its holder and the elapsed time at which its window
began; a DENY leaves every node as it stands. What a GRANT at a minibar makes of the Charge Unit stands in VerdictOrder.
The records are WATCH_HIT, raised as a cause as well, for a listed card (R59), and after it the entry record or, at a paired connecting
door whose two sides were tested, the two CONNECT_SIDE records (R79). Every other entry of the queue, line, node and room stands.
(That the retirement record of a correction comes before them is log entry 14; that a grant of any reason carries the slot of an
emergency card, and which denials carry a retirement reason, log entry 22; that a claim waits from its judgement on log entry 16.) -/
def Obligations.Judgement : Prop :=
  ∀ (i : Nat) (x : Presentation) (s : State), s.nextWaiting i x →
    let nd := s.node x.node
    let found := s.findCard x.card
    let slot := if found = none then s.emergencySlot x.card else none
    ∃ (c t : State) (v : Verdict) (used : Bool) (recs : List Offer),
    exec .presentationJudgement s = .next t ∧ t.verdict.queue = s.verdict.queue.set i { x with verdict := some v } ∧
    t.verdict.watch = s.verdict.watch ∧ t.verdict.profiles = s.verdict.profiles ∧
    t.line x.node.line = { s.line x.node.line with
      verdicts := (s.line x.node.line).verdicts ++
        [{ addr := x.node.addr, verdict := v, card := some x.card, key := found.map Prod.fst, remote := false }] } ∧
    (∀ l : LineIx, l ≠ x.node.line → t.line l = s.line l) ∧ (v.outcome = .deny → t.nodes = s.nodes) ∧
    (v.outcome = .grant → t.node x.node = { nd with
      grant := some { time := s.now.getD 0, since := s.supply.elapsed,
                      holder := match found, slot with
                        | some (k, _), _ => .key k
                        | none, some (k, _) => .slot k
                        | none, none => .none } }) ∧
    (∀ n : NodeAddr, n ≠ x.node → t.node n = s.node n) ∧ t.supply = s.supply ∧ t.emergency = s.emergency ∧
    t.pending = s.pending ∧ (nd.config.isMinibar = false ∨ v ≠ ⟨.grant, .key⟩ → t.charge = s.charge) ∧
    (found = none → c = s) ∧
    (∀ k e, found = some (k, e) → c =
      if e.standing = .live ∧ s.untilPassed e = true then retire k .expired .expired none s
      else if e.isGuest = true ∧ e.standing.inService = true ∧ ∀ b ∈ e.bindings, s.bindingMark b = .stale then
        retire k .revoked .replaced none s
      else s) ∧
    (found = none → t.keys = s.keys) ∧
    (∀ k e, found = some (k, e) → t.keys = { c.keys with claims := s.keys.claims ++ .use k x.card used x.arrival false ::
      (match nd.config with
       | .roomDoor r =>
         match (s.room r).movedFrom with
         | some m =>
           if v = ⟨.grant, .key⟩ ∧ ⟨m.source, m.generation⟩ ∈ e.bindings ∧ s.binds e r = false then [.rebind k x.card m r false]
           else []
         | none => []
       | _ => []) }) ∧
    (∀ r : RoomIx,
      let own := v.outcome = .grant ∧ nd.config = .roomDoor r ∧ (s.room r).doorNode = some x.node
      let cleaned := own ∧ v.reason = .key ∧ (s.room r).standsOccupied = true ∧
        (found.any fun f => !f.2.isGuest && !(s.profile f.2.profile).enterOccupied) = true
      t.room r = { c.room r with
        lastEntry := if own then x.arrival.or (s.room r).lastEntry else (s.room r).lastEntry
        makeup := if cleaned then false else (s.room r).makeup } ∧
      t.lamp r = if cleaned then { s.lamp r with primary := { (s.lamp r).primary with makeup := false } } else s.lamp r) ∧
    t.lamps = { s.lamps with entries := t.lamps.entries } ∧
    t.journal = (recs.foldl (fun u o => offer o u) c).journal ∧
    (s.watchOf x.card ≠ none → t.isPending .service .watchHit = true) ∧
    let hits : List Offer := match s.watchOf x.card with
      | none => []
      | some w =>
        [{ kind := .watchHit, cls := .alarm, time := x.arrival, node := some x.node, room := nd.config.room,
           card := some x.card, key := found.map Prod.fst,
           detail := (if w.action = .alertAndDeny then 1 else 0) + if w.origin = .service then 2 else 0 }]
    let entry (room : Option RoomIx) : Offer :=
      { kind := if v.outcome = .grant then .entryGranted else .entryDenied
        cls := if v.outcome = .grant then .routine else .notice
        time := x.arrival, node := some x.node, room := room, card := some x.card, key := found.map Prod.fst
        reason := some (.verdict v.reason)
        detail := if v.outcome = .grant then (slot.map fun f => BitVec.ofNat 16 f.1.val).getD 0
          else if v.reason = .revoked ∨ v.reason = .expired then
            (((found.bind fun f => c.entry f.1).bind fun e => e.standing.retirement).map fun f => BitVec.ofNat 16 f.1.code).getD 0
          else 0 }
    (∀ a b, nd.config = .connectDoor a → (s.room a).pairing = some ⟨b, x.node⟩ →
      let n := if x.side = .a then a else b
      let f := if x.side = .a then b else a
      let near := found.all fun y => s.nearOpens y.2 n
      let far := found.all fun y => s.farOpens y.2 n f
      let side (room : RoomIx) (detail : Nat) : Offer := { entry (some room) with
        kind := .connectSide, detail := BitVec.ofNat 16 (detail + (slot.map fun y => 4 * y.1.val).getD 0) }
      if v.reason = .key ∨ v.reason = .emergency ∨ v.reason = .nearSide ∨ v.reason = .farSide then
        used = (near || far) ∧
        recs = hits ++ [side n (if near then 2 else 0), side f (if far then 3 else 1)]
      else used = decide (v.outcome = .grant) ∧ recs = hits ++ [entry none]) ∧
    ((∀ a b, nd.config = .connectDoor a → (s.room a).pairing ≠ some ⟨b, x.node⟩) →
      used = decide (v.outcome = .grant) ∧ recs = hits ++ [entry nd.config.room])

/-- The order of checks of R65, step by step: a node of kind NONE denies KIND; PASSAGE and RELEASED grant by their mode, and
SECURED denies a card that is not an emergency card, and gives an emergency card watched with ALERT_AND_DENY WATCHED (R59); in NORMAL a
card watched with ALERT_AND_DENY is WATCHED, and a card unknown to both stores is UNKNOWN. A retired entry denies REVOKED or EXPIRED as it was retired, a LIVE entry whose valid until has passed
EXPIRED, a guest key in service whose every binding is stale REVOKED, and a SUSPENDED entry SUSPENDED; a key before its valid from
is NOT_YET, and one that is not clockless CLOCK while the clock is UNSET. Then a profile without the node's kind or, at a common door,
its class denies KIND, a staff key outside its zones ZONE, and a day or window that does not admit the arrival time TIME.
The rules of each kind of node on a key that has passed steps 1 to 7 (R53, R54, R69 to R76, R119 to R121): guest and staff keys at
room, common, staff and connecting doors and at minibars, where a GRANT opens a session and a DENY leaves the Charge Unit as it
stands (R122).
An emergency card reaching step 3 (R68) is KIND at a minibar, ZONE outside its zones, and granted as EMERGENCY at any other door.
(That a node of kind NONE gives KIND even for a card watched with ALERT_AND_DENY is the model's choice, log entry 45.) -/
def Obligations.VerdictOrder : Prop :=
  (∀ (i : Nat) (x : Presentation) (s : State), s.nextWaiting i x →
    let nd := s.node x.node
    let known := nd.config.configured = true ∧ nd.mode = .normal
    let unwatched := (s.watchOf x.card).map WatchEntry.action ≠ some .alertAndDeny
    ∃ t : State, exec .presentationJudgement s = .next t ∧
    (nd.config = .none → t.lastVerdict x.node.line = some ⟨.deny, .kind⟩) ∧
    (nd.config.configured = true → nd.mode = .passage → t.lastVerdict x.node.line = some ⟨.grant, .passage⟩) ∧
    (∀ k, nd.config.configured = true → nd.mode = .released k → t.lastVerdict x.node.line = some ⟨.grant, .released⟩) ∧
    (nd.config.configured = true → nd.mode = .secured → s.emergencySlot x.card = none ∨ s.findCard x.card ≠ none →
      t.lastVerdict x.node.line = some ⟨.deny, .secured⟩) ∧
    (nd.config.configured = true → nd.mode = .secured → s.findCard x.card = none → s.emergencySlot x.card ≠ none →
      (s.watchOf x.card).map WatchEntry.action = some .alertAndDeny → t.lastVerdict x.node.line = some ⟨.deny, .watched⟩) ∧
    (known → (s.watchOf x.card).map WatchEntry.action = some .alertAndDeny →
      t.lastVerdict x.node.line = some ⟨.deny, .watched⟩) ∧
    (known → unwatched → s.findCard x.card = none → s.emergencySlot x.card = none →
      t.lastVerdict x.node.line = some ⟨.deny, .unknown⟩) ∧
    ∀ k e, known → unwatched → s.findCard x.card = some (k, e) →
      let p := s.profile e.profile
      let stale := e.isGuest = true ∧ ∀ b ∈ e.bindings, s.bindingMark b = .stale
      let kinds := nd.config.kindBit.any p.kinds.getLsbD = true ∧ ∀ c ws, nd.config = .commonDoor c ws → p.classes.getLsbD c = true
      let zoned := ∀ zones, e.body = .staff zones → zones.getLsbD nd.zone = true
      (∀ reason time, e.standing = .retired .revoked reason time → t.lastVerdict x.node.line = some ⟨.deny, .revoked⟩) ∧
      (∀ reason time, e.standing = .retired .expired reason time → t.lastVerdict x.node.line = some ⟨.deny, .expired⟩) ∧
      (e.standing = .live → s.untilPassed e = true → t.lastVerdict x.node.line = some ⟨.deny, .expired⟩) ∧
      (stale → e.standing = .suspended ∨ (e.standing = .live ∧ s.untilPassed e = false) →
        t.lastVerdict x.node.line = some ⟨.deny, .revoked⟩) ∧
      (¬ stale → e.standing = .suspended → t.lastVerdict x.node.line = some ⟨.deny, .suspended⟩) ∧
      (¬ stale → e.standing = .live → s.untilPassed e = false →
        (∀ now, x.arrival = some now → now < e.validFrom → t.lastVerdict x.node.line = some ⟨.deny, .notYet⟩) ∧
        (x.arrival = none → p.clockless = false → t.lastVerdict x.node.line = some ⟨.deny, .clock⟩) ∧
        ((∀ now, x.arrival = some now → e.validFrom ≤ now) → (x.arrival = none → p.clockless = true) →
          (¬ kinds → t.lastVerdict x.node.line = some ⟨.deny, .kind⟩) ∧
          (kinds → ¬ zoned → t.lastVerdict x.node.line = some ⟨.deny, .zone⟩) ∧
          ∀ now, x.arrival = some now → kinds → zoned →
            p.days.getLsbD (dayNumber now) = false ∨ inWindow p.windowFrom p.windowUntil (minuteOfDay now) = false →
            t.lastVerdict x.node.line = some ⟨.deny, .time⟩))) ∧
  (∀ (i : Nat) (x : Presentation) (k : KeyIx) (e : KeyEntry) (s : State), s.nextWaiting i x →
    (s.node x.node).mode = .normal → (s.watchOf x.card).map WatchEntry.action ≠ some .alertAndDeny → s.passes x k e →
    let p := s.profile e.profile
    ∃ (t : State) (v : Verdict), exec .presentationJudgement s = .next t ∧ t.lastVerdict x.node.line = some v ∧
    (∀ r, (s.node x.node).config = .roomDoor r → v =
      (let rm := s.room r
       if e.isGuest then
         if s.binds e r = false ∧ (rm.movedFrom.any fun m => e.bindings.contains ⟨m.source, m.generation⟩) = false then ⟨.deny, .stale⟩
         else if rm.phase ≠ .occupied ∧ (rm.stayInProgress = false ∨ rm.closing ≠ none) then ⟨.deny, .roomState⟩
         else if rm.isBlocked then ⟨.deny, .blocked⟩
         else if rm.privacy then ⟨.deny, .privacy⟩ else ⟨.grant, .key⟩
       else if p.permits rm = false then ⟨.deny, if rm.standsOccupied && p.makeupOnly then .makeup else .roomState⟩
       else if rm.isBlocked ∧ p.overrideBlock = false then ⟨.deny, .blocked⟩
       else if rm.privacy ∧ p.overridePrivacy = false then ⟨.deny, .privacy⟩ else ⟨.grant, .key⟩)) ∧
    (∀ c ws, (s.node x.node).config = .commonDoor c ws → v =
      if e.isGuest = true ∧ ∀ b ∈ e.bindings, s.bindingMark b = .stale ∨
          (s.bindingMark b = .current ∧ (s.room b.room).stayInProgress = false) then ⟨.deny, .stale⟩ else ⟨.grant, .key⟩) ∧
    ((s.node x.node).config = .staffDoor → v = if e.isGuest then ⟨.deny, .kind⟩ else ⟨.grant, .key⟩) ∧
    (∀ a, (s.node x.node).config = .connectDoor a →
      (∀ b, (s.room a).pairing = some ⟨b, x.node⟩ → v =
        (let n := if x.side = .a then a else b
         let f := if x.side = .a then b else a
         if s.nearOpens e n = false then ⟨.deny, .nearSide⟩ else if s.farOpens e n f = false then ⟨.deny, .farSide⟩ else ⟨.grant, .key⟩)) ∧
      ((∀ b, (s.room a).pairing ≠ some ⟨b, x.node⟩) →
        v = if x.side = .a ∧ s.nearOpens e a = true then ⟨.grant, .key⟩ else ⟨.deny, .nearSide⟩)) ∧
    ∀ r c, (s.node x.node).config = .minibar r c → v =
      (let rm := s.room r
       let free := 128 - s.charge.queue.length - s.charge.reservedTotal
       let seats : Verdict :=
         if s.charge.sessionOfRoom r ≠ none then ⟨.deny, .sessionOpen⟩
         else if 16 ≤ s.charge.sessions.length then ⟨.deny, .sessionsFull⟩
         else if e.isGuest = true ∧ free < 4 then ⟨.deny, .chargesFull⟩ else ⟨.grant, .key⟩
       if rm.minibarNode ≠ some x.node then ⟨.deny, .kind⟩
       else if e.isGuest = false then (if p.restock then seats else ⟨.deny, .kind⟩)
       else if s.binds e r = false then ⟨.deny, .stale⟩
       else if rm.isBlocked then ⟨.deny, .blocked⟩
       else if rm.phase ≠ .occupied then ⟨.deny, .roomState⟩
       else match rm.folio with
         | none => ⟨.deny, .folio⟩
         | some f =>
           match (s.folio f).state with
           | .opened => if (s.folio f).spent < (s.folio f).allowance then seats else ⟨.deny, .allowance⟩
           | .held .allowance => ⟨.deny, .allowance⟩
           | _ => ⟨.deny, .folio⟩) ∧
      t.charge = if v.outcome = .deny then s.charge else { s.charge with sessions := s.charge.sessions ++
        [{ state := .opening, room := r, node := x.node, key := k, folio := if e.isGuest then (s.room r).folio else none,
           reserved := if e.isGuest then 4 else 0, linesMade := 0, time := s.now.getD 0, limitNoticed := false, limitAt := none }] }) ∧
  ∀ (i : Nat) (x : Presentation) (k : Fin 4) (zones : Set16) (s : State), s.nextWaiting i x →
    (s.node x.node).config.configured = true → (s.node x.node).mode = .normal ∨ (s.node x.node).mode = .secured →
    (s.watchOf x.card).map WatchEntry.action ≠ some .alertAndDeny → s.findCard x.card = none →
    s.emergencySlot x.card = some (k, zones) → ∃ t : State, exec .presentationJudgement s = .next t ∧
    t.lastVerdict x.node.line = some
      (if (s.node x.node).config.isMinibar then ⟨.deny, .kind⟩
       else if zones.getLsbD (s.node x.node).zone = false then ⟨.deny, .zone⟩ else ⟨.grant, .emergency⟩)

/-- CLEAR ALARM clears a set latch, hands the derived lamp to the room of the door node, and offers ALARM_CLEARED; SET NODE MODE
sets the mode and its mark, or the kept mode of a RELEASED node, and restarts the held-open timer where the mode becomes NORMAL
with the door OPEN.
UNLATCH NODE queues a remote GRANT on a line that is not STOPPED and has fewer than 8 outstanding, sets the grant outstanding with
no holder, notes the last entry time of a room whose own door it is, and offers ENTRY_GRANTED with REMOTE. A node of kind NONE or
MINIBAR and a paired CONNECT_DOOR are CONFLICT, a STOPPED line STATE, a full line LIMIT. A mode byte that is not NORMAL, PASSAGE or
SECURED is BAD_PARAM. (That ALARM_CLEARED carries the node alone and the record of UNLATCH
NODE no room is the model's choice, log entry 10; that no held-open timer starts at a MINIBAR, and elsewhere only on the change to
NORMAL, is log entry 21.) -/
def Obligations.NodeCommands : Prop :=
  (∀ (n : NodeAddr) (m : KeptMode) (more : List Byte) (s : State), s.takes .service →
    let nd := s.node n
    (nd.config.configured = true → nd.latch = true → ∃ t : State,
      exec (.clearAlarm .service (uNode n ++ more)) s = .next
        ((offer { kind := .alarmCleared, cls := .notice, time := s.now, node := some n } t).done .service .clearAlarm []) ∧
      t = { s with nodes := t.nodes, lamps := t.lamps } ∧ t.node n = { nd with latch := false } ∧
      (∀ k : NodeAddr, k ≠ n → t.node k = s.node k) ∧
      ∀ r : RoomIx, t.lamp r = if s.doorRoom n = some r then
        { s.lamp r with primary := { (s.lamp r).primary with alarm := decide (nd.door = .forced ∨ nd.door = .heldOpen) } }
        else s.lamp r) ∧
    (nd.config = .none → exec (.clearAlarm .service (uNode n ++ more)) s = .next (s.refused .service .clearAlarm .conflict)) ∧
    (nd.config.configured = true → nd.latch = false →
      exec (.clearAlarm .service (uNode n ++ more)) s = .next (s.refused .service .clearAlarm .state)) ∧
    (nd.config.configured = true → (nd.config.isMinibar = true → m ≠ .passage) →
      (∀ k, nd.mode = .released k → exec (.setNodeMode .service (uNode n ++ u8 m.mode.name.code ++ more)) s = .next
        ((s.modNode n fun y => { y with mode := .released m }).done .service .setNodeMode [])) ∧
      (nd.mode.isReleased = false → ∃ t : State,
        exec (.setNodeMode .service (uNode n ++ u8 m.mode.name.code ++ more)) s = .next (t.done .service .setNodeMode []) ∧
        t = { s with nodes := t.nodes, lines := t.lines } ∧
        t.node n = { nd with
          mode := m.mode, modePending := true
          heldOpen := if m = .normal ∧ nd.mode ≠ .normal ∧ nd.door = .opened ∧ nd.config.isMinibar = false then
              some { expiry := s.supply.elapsed + nd.heldOpenLimit * 32768, limit := nd.heldOpenLimit } else nd.heldOpen } ∧
        (∀ k : NodeAddr, k ≠ n → t.node k = s.node k) ∧ (∀ l : LineIx, l ≠ n.line → t.line l = s.line l) ∧
        ((s.line n.line).exchange = none → t.lines = s.lines))) ∧
    (nd.config = .none ∨ (nd.config.isMinibar = true ∧ m = .passage) →
      exec (.setNodeMode .service (uNode n ++ u8 m.mode.name.code ++ more)) s = .next (s.refused .service .setNodeMode .conflict)) ∧
    (∀ b : Byte, b ≠ 0 → b ≠ 1 → b ≠ 3 →
      exec (.setNodeMode .service (uNode n ++ [b] ++ more)) s = .next (s.refused .service .setNodeMode .badParam))) ∧
  (∀ (n : NodeAddr) (more : List Byte) (s : State), s.takes .service →
    let paired : Prop := ∃ r q, (s.node n).config = .connectDoor r ∧ (s.room r).pairing = some ⟨q, n⟩
    ((s.node n).config.isDoor = true → ¬ paired →
      (s.line n.line).state ≠ .stopped → s.outstanding n.line < 8 → ∃ t : State,
      exec (.unlatchNode .service (uNode n ++ more)) s = .next
        ((offer { kind := .entryGranted, cls := .routine, time := s.now, node := some n,
                  reason := some (.verdict .remote) } t).done .service .unlatchNode []) ∧
      t = { s with nodes := t.nodes, lines := t.lines, rooms := t.rooms } ∧
      t.line n.line = { s.line n.line with verdicts := (s.line n.line).verdicts ++
        [{ addr := n.addr, verdict := ⟨.grant, .remote⟩, card := none, key := none, remote := true }] } ∧
      (∀ l : LineIx, l ≠ n.line → t.line l = s.line l) ∧
      t.node n = { s.node n with grant := some { time := s.now.getD 0, holder := .none, since := s.supply.elapsed } } ∧
      (∀ k : NodeAddr, k ≠ n → t.node k = s.node k) ∧
      ∀ r : RoomIx, t.room r = if (s.node n).config = .roomDoor r ∧ (s.room r).doorNode = some n then
        { s.room r with lastEntry := s.now.or (s.room r).lastEntry } else s.room r) ∧
    ((s.node n).config = .none ∨ (s.node n).config.isMinibar = true ∨ paired →
      exec (.unlatchNode .service (uNode n ++ more)) s = .next (s.refused .service .unlatchNode .conflict)) ∧
    ((s.node n).config.isDoor = true → ¬ paired → (s.line n.line).state = .stopped →
      exec (.unlatchNode .service (uNode n ++ more)) s = .next (s.refused .service .unlatchNode .state)) ∧
    ((s.node n).config.isDoor = true → ¬ paired → (s.line n.line).state ≠ .stopped → 8 ≤ s.outstanding n.line →
      exec (.unlatchNode .service (uNode n ++ more)) s = .next (s.refused .service .unlatchNode .limit)))

/-- RELEASE ZONES takes every door node of the zones that is not RELEASED to RELEASED with its mode kept; RESTORE ZONES returns
every RELEASED node of the zones to its kept mode, with its held-open timer started where that is NORMAL and its door OPEN. Each
such node's mode-pending mark is set, no other node changes, and the record carries the zone set. -/
def Obligations.Zones : Prop :=
  ∀ (zones : Set16) (more : List Byte) (s : State), s.takes .service → zones ≠ 0 →
    (∃ t : State, exec (.releaseZones .service (u16 zones.toNat ++ more)) s = .next
        ((offer { kind := .release, cls := .notice, time := s.now, detail := zones } t).done .service .releaseZones []) ∧
      t = { s with nodes := t.nodes, lines := t.lines } ∧
      ∀ n : NodeAddr, t.node n =
        (let nd := s.node n
         if nd.config.isDoor = true ∧ zones.getLsbD nd.zone = true then
           match nd.mode with
           | .normal => { nd with mode := .released .normal, modePending := true }
           | .passage => { nd with mode := .released .passage, modePending := true }
           | .secured => { nd with mode := .released .secured, modePending := true }
           | .released _ => nd
         else nd)) ∧
    ∃ t : State, exec (.restoreZones .service (u16 zones.toNat ++ more)) s = .next
        ((offer { kind := .restore, cls := .notice, time := s.now, detail := zones } t).done .service .restoreZones []) ∧
      t = { s with nodes := t.nodes, lines := t.lines } ∧
      ∀ n : NodeAddr, t.node n =
        (let nd := s.node n
         match nd.mode with
         | .released k => if zones.getLsbD nd.zone = true then
             { nd with
               mode := k.mode, modePending := true
               heldOpen := if k = .normal ∧ nd.door = .opened ∧ nd.config.isMinibar = false then
                 some { expiry := s.supply.elapsed + nd.heldOpenLimit * 32768, limit := nd.heldOpenLimit } else nd.heldOpen }
             else nd
         | _ => nd)

/-! ### Lock lines (chapter 5) -/

/-- WRITE NODE takes a whole configuration. Where the kind stays, the other fields stand; a node that was NONE becomes UNPOLLED
with missed answers 0, in mode NORMAL, outside its windows, its latch clear and its door UNKNOWN. A node that becomes NONE takes
the same values, and both its marks are cleared, the lamp mark with its report. A node with a grant outstanding or a minibar
session is refused with CONFLICT. A kind, zone, limit, window count or window minute out of range, a room or class missing, out of
range or given for a kind that has none, and windows for a kind other than COMMON_DOOR are BAD_PARAM. -/
def Obligations.WriteNode : Prop :=
  (∀ (n : NodeAddr) (c : NodeConfig) (zone : Fin 16) (limit : Nat) (more : List Byte) (s : State), s.takes .service →
    10 ≤ limit → limit ≤ 250 → c.windows.length ≤ 2 → (∀ w ∈ c.windows, w.start < 1440 ∧ w.stop < 1440) →
    let ps := uNode n ++ u8 c.code ++ u16? (c.room.map Fin.val) ++ u8 zone.val ++ uEnum? c.cls ++ u8 limit ++
      u8 c.windows.length ++ windowBytes c.windows[0]? ++ windowBytes c.windows[1]? ++ more
    ((s.node n).grant = none → s.charge.sessionAt n = none →
      ((s.node n).config.code = c.code → exec (.writeNode .service ps) s = .next
        ((s.modNode n fun nd => { nd with config := c, zone := zone, heldOpenLimit := limit }).done .service .writeNode [])) ∧
      ((s.node n).config = .none → c ≠ .none → ∃ t : State,
        exec (.writeNode .service ps) s = .next (t.done .service .writeNode []) ∧
        t = { s with nodes := t.nodes, rooms := t.rooms, lamps := t.lamps } ∧
        t.node n = { s.node n with
          config := c, zone := zone, heldOpenLimit := limit, link := .unpolled, missed := 0, mode := .normal, inside := false,
          latch := false, door := .unknown, heldOpen := none } ∧
        (∀ k : NodeAddr, k ≠ n → t.node k = s.node k) ∧
        ∀ r : RoomIx, t.room r = if s.doorRoom n = some r then { s.room r with door := .unknown } else s.room r) ∧
      ((s.node n).config ≠ .none → c.code ≠ (s.node n).config.code → c ≠ .none → ∃ t : State,
        exec (.writeNode .service ps) s = .next (t.done .service .writeNode []) ∧
        t = { s with nodes := t.nodes, rooms := t.rooms, lamps := t.lamps, lines := t.lines } ∧
        t.node n = { s.node n with
          config := c, zone := zone, heldOpenLimit := limit, mode := .normal, inside := false, latch := false,
          door := .unknown, heldOpen := none, modePending := true } ∧
        ∀ k : NodeAddr, k ≠ n → t.node k = s.node k) ∧
      ((s.node n).config ≠ .none → c = .none → ∃ t : State,
        exec (.writeNode .service ps) s = .next (t.done .service .writeNode []) ∧
        t = { s with nodes := t.nodes, rooms := t.rooms, lamps := t.lamps, lines := t.lines, attn := t.attn } ∧
        t.node n = { s.node n with
          config := .none, zone := zone, heldOpenLimit := limit, link := .unpolled, missed := 0, mode := .normal, inside := false,
          latch := false, door := .unknown, heldOpen := none, modePending := false, lampPending := false } ∧
        (∀ k : NodeAddr, k ≠ n → t.node k = s.node k) ∧ n ∉ t.lamps.outstanding ∧
        ∀ r : RoomIx, t.room r = if s.doorRoom n = some r then { s.room r with door := .unknown } else s.room r)) ∧
    ((s.node n).grant ≠ none ∨ s.charge.sessionAt n ≠ none →
      exec (.writeNode .service ps) s = .next (s.refused .service .writeNode .conflict))) ∧
  ∀ (n : NodeAddr) (kind zone cls limit count : Byte) (room a b c d : BitVec 16) (more : List Byte) (s : State),
    s.takes .service →
    15 < zone.toNat ∨ limit.toNat < 10 ∨ 250 < limit.toNat ∨ 5 < kind.toNat ∨ 2 < count.toNat ∨
      (kind ∈ [1, 2, 5] ∧ 511 < room.toNat) ∨ (kind ∈ [0, 3, 4] ∧ room ≠ 0xFFFF) ∨
      (kind = 3 ∧ 7 < cls.toNat) ∨ (kind = 5 ∧ 3 < cls.toNat) ∨ (kind ∈ [0, 1, 2, 4] ∧ cls ≠ 0xFF) ∨
      (kind ≠ 3 ∧ count ≠ 0) ∨ (1 ≤ count.toNat ∧ (1439 < a.toNat ∨ 1439 < b.toNat)) ∨
      (count = 2 ∧ (1439 < c.toNat ∨ 1439 < d.toNat)) →
    exec (.writeNode .service (uNode n ++ [kind] ++ u16 room.toNat ++ [zone, cls, limit, count] ++ u16 a.toNat ++ u16 b.toNat ++
      u16 c.toNat ++ u16 d.toNat ++ more)) s = .next (s.refused .service .writeNode .badParam)

/-- The line arbiter on a RUNNING or FAULT line with no exchange in flight (R98, R99): a busy reply first, then the verdict at the
head of the Verdict Queue, then a MODE frame to the lowest address owed one, then the rotation turn of the first configured node
at or after the rotation position, with LAMPS where its mark is set and POLL elsewhere. (That the event of a frame whose turn it
is not changes nothing is the model's choice, log entry 5.) -/
def Obligations.LineArbiter : Prop :=
  ∀ (l : LineIx) (s : State), s.inRun = true → (s.line l).state ≠ .stopped → (s.line l).exchange = none →
    let sends (a : Fin 64) (f : OutFrame) : State :=
      s.modLine l fun ln => { ln with exchange := some { addr := a, frame := f, markAgain := false } }
    let owed (a : Fin 64) : Prop := (s.node ⟨l, a⟩).modePending = true ∧ (s.node ⟨l, a⟩).link ≠ .offline
    (∀ a, (s.line l).busy = some a →
      exec (.busyReply l) s = .next (sends a .busyReply) ∧ exec (.verdictFrame l) s = .next s ∧
      exec (.modeFrame l) s = .next s ∧ exec (.rotationTurn l) s = .next s) ∧
    (∀ v rest, (s.line l).busy = none → (s.line l).verdicts = v :: rest →
      exec (.verdictFrame l) s = .next (sends v.addr (.verdict v.verdict.outcome)) ∧ exec (.busyReply l) s = .next s ∧
      exec (.modeFrame l) s = .next s ∧ exec (.rotationTurn l) s = .next s) ∧
    (∀ a, (s.line l).busy = none → (s.line l).verdicts = [] → owed a → (∀ b, b < a → ¬ owed b) →
      exec (.modeFrame l) s = .next (sends a (.mode (s.node ⟨l, a⟩).mode.name)) ∧ exec (.rotationTurn l) s = .next s) ∧
    ∀ d : Nat, d < 64 → (s.line l).busy = none → (s.line l).verdicts = [] → (∀ b, ¬ owed b) →
      (s.node ⟨l, (s.line l).rotation + Fin.ofNat 64 d⟩).config.configured = true →
      (∀ e < d, (s.node ⟨l, (s.line l).rotation + Fin.ofNat 64 e⟩).config.configured = false) →
      exec (.rotationTurn l) s = .next
        ((sends ((s.line l).rotation + Fin.ofNat 64 d)
          (if (s.node ⟨l, (s.line l).rotation + Fin.ofNat 64 d⟩).lampPending then
            .lamps (s.lampsFor ⟨l, (s.line l).rotation + Fin.ofNat 64 d⟩) else .poll)).modLine l fun ln =>
          { ln with rotation := (s.line l).rotation + Fin.ofNat 64 d + 1 })

/-- An answer with no event. From an ONLINE node under POLL it ends the exchange and clears the counts of missed answers; under a
VERDICT frame it takes the verdict from the Verdict Queue and its presentation from the Presentation Queue; under a busy reply it
makes that absent; under MODE it clears the mode-pending mark unless it was set again meanwhile. The first answer of an UNPOLLED
node takes it ONLINE with both marks set, that of an OFFLINE node with a NODE_ONLINE record as well. Under LAMPS it clears the
lamp-pending mark unless it was set again meanwhile; the room that names the node notes the states sent, the node leaves the
outstanding set, and a draining sweep that has nothing outstanding left ends with SWEEP_DONE. (That an answer with no exchange in
flight changes nothing is the model's choice, log entry 5, the mark set again is log entry 20, and that the lamps are served
before the return to ONLINE sets both marks is log entry 42.) -/
def Obligations.AnswerServes : Prop :=
  ∀ (n : NodeAddr) (s : State), s.inRun = true →
    (s.polls n → exec (.quiet n.line) s = .next (s.heardFrom n) ∧ exec (.ack n.line) s = .next (s.heardFrom n)) ∧
    (∀ x : Exchange, (s.line n.line).exchange = some x → x.addr = n.addr → (s.node n).config.configured = true →
      (s.node n).link = .online →
      (∀ o v rest, x.frame = .verdict o → (s.line n.line).verdicts = v :: rest → ∃ t : State,
        exec (.ack n.line) s = .next t ∧ t = { s with lines := t.lines, nodes := t.nodes, verdict := t.verdict } ∧
        (t.line n.line).verdicts = rest ∧ (t.line n.line).exchange = none ∧ (t.node n).missed = 0 ∧
        (v.remote = true → t.verdict = s.verdict) ∧
        (v.remote = false → t.verdict = { s.verdict with
          queue := s.verdict.queue.eraseP fun y => decide (y.node.line = n.line) && y.verdict.isSome })) ∧
      (x.frame = .busyReply → ∃ t : State, exec (.ack n.line) s = .next t ∧
        t = { s with lines := t.lines, nodes := t.nodes } ∧ (t.line n.line).busy = none) ∧
      (∀ m, x.frame = .mode m → ∃ t : State, exec (.ack n.line) s = .next t ∧
        t = { s with lines := t.lines, nodes := t.nodes } ∧
        t.node n = { s.node n with missed := 0, modePending := x.markAgain }) ∧
      (∀ sent, x.frame = .lamps sent → ∃ t : State, exec (.ack n.line) s = .next t ∧
        t = { s with lines := t.lines, nodes := t.nodes, lamps := t.lamps, attn := t.attn } ∧
        t.node n = { s.node n with missed := 0, lampPending := x.markAgain } ∧ (∀ m : NodeAddr, m ≠ n → t.node m = s.node m) ∧
        (∀ r : RoomIx, t.lamp r = if s.doorRoom n = some r then { s.lamp r with lastSent := some sent } else s.lamp r) ∧
        t.lamps = { s.lamps with
          entries := t.lamps.entries, outstanding := t.lamps.outstanding, sweep := t.lamps.sweep
          pendingStart := t.lamps.pendingStart } ∧
        let left := if x.markAgain then s.lamps.outstanding else s.lamps.outstanding.filter fun m => decide (m ≠ n)
        t.lamps.outstanding = left ∧
        ((∀ k, s.lamps.sweep ≠ .draining k) ∨ left ≠ [] →
          t.lamps.sweep = s.lamps.sweep ∧ t.lamps.pendingStart = s.lamps.pendingStart ∧ t.attn = s.attn) ∧
        ((∃ k, s.lamps.sweep = .draining k) → left = [] →
          t.lamps.sweep = (match s.lamps.pendingStart with | some k => .marking k 0 | none => .idle) ∧
          t.lamps.pendingStart = none ∧ t.attn = (raise .service .sweepDone s).attn))) ∧
    (∀ (x : Exchange) (sent : LampSet), (s.line n.line).exchange = some x → x.addr = n.addr → x.frame = .lamps sent →
      x.markAgain = false → (s.node n).config.configured = true → (s.node n).link ≠ .online → ∃ t : State,
      exec (.ack n.line) s = .next
        (if (s.node n).link = .offline then offer { kind := .nodeOnline, cls := .notice, time := s.now, node := some n } t
         else t) ∧
      t.node n = { s.node n with missed := 0, link := .online, modePending := true, lampPending := true } ∧
      n ∉ t.lamps.outstanding) ∧
    (∀ x : Exchange, (s.line n.line).exchange = some x → x.addr = n.addr → x.frame = .poll →
      (s.node n).config.configured = true → (s.node n).link ≠ .online → ∃ t : State,
      exec (.quiet n.line) s = .next
        (if (s.node n).link = .offline then offer { kind := .nodeOnline, cls := .notice, time := s.now, node := some n } t
         else t) ∧
      t = { s with lines := t.lines, nodes := t.nodes } ∧
      t.node n = { s.node n with missed := 0, link := .online, modePending := true, lampPending := true }) ∧
    ((s.line n.line).exchange = none → exec (.quiet n.line) s = .next s ∧ exec (.ack n.line) s = .next s)

/-- A PRESENT answer of an ONLINE node under POLL (R62): with fewer than 32 presentations queued and fewer than 8 outstanding on the
line, the presentation joins the tail as WAITING with its arrival time; otherwise ENTRY_DENIED with BUSY is offered and the node
becomes the line's busy reply. -/
def Obligations.PresentAnswer : Prop :=
  ∀ (n : NodeAddr) (side : Side) (card : CardId) (s : State), s.polls n →
    (s.verdict.queue.length < 32 → s.outstanding n.line < 8 → exec (.present n.line side card) s = .next
      { s.heardFrom n with verdict := { s.verdict with queue := s.verdict.queue ++
        [{ node := n, side := side, card := card, arrival := s.now, verdict := none }] } }) ∧
    (32 ≤ s.verdict.queue.length ∨ 8 ≤ s.outstanding n.line → exec (.present n.line side card) s = .next
      (offer { kind := .entryDenied, cls := .routine, time := s.now, node := some n, card := some card,
               reason := some (.verdict .busy) } ((s.heardFrom n).modLine n.line fun ln => { ln with busy := some n.addr })))

/-- Door events of an ONLINE door node under POLL, at a node other than a MINIBAR (R81, R83). An opening with a grant outstanding or
in PASSAGE or RELEASED leaves the door OPEN, consumes the grant and starts the held-open timer; in NORMAL or SECURED without a grant
the door is FORCED, the latch set and the timer stopped, with an ALARM record and DOOR_ALARM. A closing makes it CLOSED and stops
the timer.
The room of the door node takes the condition, and its ALARM lamp the derived state where the condition or the latch has changed: lit
in FORCED, in HELD_OPEN and while the latch is set (R84).
BOLT and BUTTON events of an ONLINE door node under POLL. From the door node of a room, BOLT sets or clears privacy with its lamp
and offers one BOLT record (its room field is the model's choice, log entry 10); MAKEUP and CANCEL set and clear make-up with its
lamp; CALL lights the CALL lamp. From any other node they are discarded.
Door events of a polled ONLINE MINIBAR (R81, R83, R124, R125). They are interpreted as at other doors, but no held-open timer starts
(log entry 21). An opening, forced or not, takes an OPENING session to OPEN with its open limit of 600 s and offers MINIBAR_OPEN
(that its time is 0 while the clock is UNSET is the model's choice, log entry 31); a closing ends the session with MINIBAR_CLOSE,
which carries the lines made; without a session the Charge Unit stands. What an end of a session does (R123): it leaves the table,
its room is vacated where its closing is SCAN_DONE, and its CLOSING folio is tested for draining. -/
def Obligations.DoorAnswers : Prop :=
  (∀ (n : NodeAddr) (s : State), s.polls n → (s.node n).config.isMinibar = false →
    let nd := s.node n
    let told (d : DoorCond) (latch : Bool) (t : State) : Prop :=
      (∀ k : NodeAddr, k ≠ n → t.node k = s.node k) ∧ t.lines = (s.heardFrom n).lines ∧ t.alarmHanded s n d latch ∧
      ∀ r : RoomIx, t.room r = if s.doorRoom n = some r then { s.room r with door := d } else s.room r
    (nd.grant ≠ none ∨ nd.mode = .passage ∨ nd.mode.isReleased = true → ∃ t : State,
      exec (.doorOpened n.line) s = .next t ∧
      t = { s with nodes := t.nodes, lines := t.lines, rooms := t.rooms, lamps := t.lamps } ∧ told .opened nd.latch t ∧
      t.node n = { nd with
        missed := 0, grant := none, door := .opened
        heldOpen := some { expiry := s.supply.elapsed + nd.heldOpenLimit * 32768, limit := nd.heldOpenLimit } }) ∧
    (nd.grant = none → nd.mode = .normal ∨ nd.mode = .secured → ∃ t : State,
      exec (.doorOpened n.line) s = .next (raise .service .doorAlarm (offer
        { kind := .forced, cls := .alarm, time := s.now, node := some n, room := nd.config.room,
          detail := BitVec.ofNat 16 nd.mode.name.code } t)) ∧
      t = { s with nodes := t.nodes, lines := t.lines, rooms := t.rooms, lamps := t.lamps } ∧ told .forced true t ∧
      t.node n = { nd with missed := 0, door := .forced, latch := true, heldOpen := none }) ∧
    ∃ t : State, exec (.doorClosed n.line) s = .next t ∧
      t = { s with nodes := t.nodes, lines := t.lines, rooms := t.rooms, lamps := t.lamps } ∧ told .closed nd.latch t ∧
      t.node n = { nd with missed := 0, door := .closed, heldOpen := none }) ∧
  (∀ (n : NodeAddr) (s : State), s.polls n →
    let heard := s.heardFrom n
    let flagged (r : RoomIx) (old v : Bool) (f : Room → Room) (g : LampSet → LampSet) : State :=
      if old = v then heard else (heard.modRoom r f).modLamp r fun e => { e with primary := g e.primary }
    (∀ r, (s.node n).config = .roomDoor r → (s.room r).doorNode = some n →
      (∀ on : Bool, exec (.bolt n.line on) s = .next
        (offer { kind := .bolt, cls := .notice, time := s.now, node := some n, room := some r }
          (flagged r (s.room r).privacy on (fun rm => { rm with privacy := on }) fun x => { x with privacy := on }))) ∧
      exec (.button n.line .makeup) s = .next
        (flagged r (s.room r).makeup true (fun rm => { rm with makeup := true }) fun x => { x with makeup := true }) ∧
      exec (.button n.line .cancel) s = .next
        (flagged r (s.room r).makeup false (fun rm => { rm with makeup := false }) fun x => { x with makeup := false }) ∧
      exec (.button n.line .call) s = .next
        (heard.modLamp r fun e => { e with primary := { e.primary with call := true } })) ∧
    ((∀ r, (s.node n).config = .roomDoor r → (s.room r).doorNode ≠ some n) →
      (∀ on : Bool, exec (.bolt n.line on) s = .next heard) ∧ ∀ b : Button, exec (.button n.line b) s = .next heard)) ∧
  (∀ (n : NodeAddr) (room : RoomIx) (cls : Fin 4) (s : State), s.polls n → (s.node n).config = .minibar room cls →
    let nd := s.node n
    let stands (d : DoorCond) (latch : Bool) (t : State) : Prop :=
      t = { s with nodes := t.nodes, lines := t.lines, rooms := t.rooms, lamps := t.lamps } ∧ t.alarmHanded s n d latch ∧
      (∀ k : NodeAddr, k ≠ n → t.node k = s.node k) ∧ t.lines = (s.heardFrom n).lines ∧
      ∀ r : RoomIx, t.room r = if s.doorRoom n = some r then { s.room r with door := d } else s.room r
    let session (t : State) : State :=
      match s.charge.sessionAt n with
      | some x =>
        if x.state = .opening then
          offer { kind := .minibarOpen, cls := .routine, time := s.now, node := some x.node, room := some x.room, key := some x.key,
                  detail := match x.folio with | some f => BitVec.ofNat 16 f.val | none => 0xFFFF }
            (putSession { x with state := .opened, time := s.now.getD 0, limitAt := some (s.supply.elapsed + 600 * 32768) } t)
        else t
      | none => t
    (nd.grant ≠ none ∨ nd.mode = .passage ∨ nd.mode.isReleased = true → ∃ t : State,
      exec (.doorOpened n.line) s = .next (session t) ∧ stands .opened nd.latch t ∧
      t.node n = { nd with missed := 0, grant := none, door := .opened }) ∧
    (nd.grant = none → nd.mode = .normal ∨ nd.mode = .secured → ∃ t : State,
      exec (.doorOpened n.line) s = .next (session (raise .service .doorAlarm (offer
        { kind := .forced, cls := .alarm, time := s.now, node := some n, room := some room,
          detail := BitVec.ofNat 16 nd.mode.name.code } t))) ∧ stands .forced true t ∧
      t.node n = { nd with missed := 0, door := .forced, latch := true, heldOpen := none }) ∧
    ∃ t : State, exec (.doorClosed n.line) s = .next
        (match s.charge.sessionAt n with
         | some x => endSession x (offer
            { kind := .minibarClose, cls := .routine, time := s.now, node := some n, room := some x.room, key := some x.key,
              detail := BitVec.ofNat 16 x.linesMade } t)
         | none => t) ∧ stands .closed nd.latch t ∧
      t.node n = { nd with missed := 0, door := .closed, heldOpen := none }) ∧
  ∀ (x : Session) (s : State), endSession x s =
    (let gone : State := { s with charge := { s.charge with
       sessions := s.charge.sessions.filter fun y => decide (y.room ≠ x.room) } }
     let roomed := if (s.room x.room).closing = some .scanDone then vacate x.room gone else gone
     match x.folio with
     | none => roomed
     | some f =>
       if (roomed.folio f).state = .closing ∧ (roomed.folio f).rooms = [] ∧ (roomed.folio f).pendingLines = 0 ∧
           (∀ y ∈ roomed.charge.sessions, y.folio ≠ some f) then
         raise .front .folioDrained (raise .charge .folioDrained
           (roomed.modFolio f fun y => { y with state := .free, allowance := 0, spent := 0 }))
       else roomed)

/-- Missed exchanges (R96, R101, R102, R104, R105). An answer window that ends with nothing raises the line's missed total, the
node's missed answers and, for a rotation turn, the silent count; a rejected frame raises the bad-frame total as well; a valid frame
is the answer it is (log entry 7). A turn whose silence reaches the configured nodes takes a RUNNING line to FAULT with LINE_FAULT,
whose detail is a free value (log entry 11). A missed MODE frame changes nothing further, a missed busy reply makes it absent, and a
missed VERDICT leaves the Verdict Queue with its presentation, a GRANT with VERDICT_UNCONFIRMED (its fields are the model's choice,
log entry 34). The third miss, whatever frame was missed and whether its answer was absent or rejected, takes an UNPOLLED or ONLINE
node OFFLINE with NODE_OFFLINE, out of service, its session abandoned, and on a rotation turn may take a RUNNING line to FAULT.
(That the records come in the order VERDICT_UNCONFIRMED, NODE_OFFLINE, MINIBAR_ABANDONED, LINE_FAULT is the model's choice, log
entry 14.) A miss with an OFFLINE node or a node that is NONE by now leaves the node as it stands; with NONE it raises the totals
alone. -/
def Obligations.MissedAnswer : Prop :=
  (∀ (n : NodeAddr) (x : Exchange) (s : State), s.inRun = true → (s.line n.line).exchange = some x → x.addr = n.addr →
    x.frame = .poll ∨ (∃ sent, x.frame = .lamps sent) → (s.node n).config.configured = true →
    let counted (bad : Bool) : State := (s.modLine n.line fun ln =>
      { ln with
        exchange := none, missedTotal := min (ln.missedTotal + 1) 65535, silent := min (ln.silent + 1) 64
        badTotal := if bad then min (ln.badTotal + 1) 65535 else ln.badTotal }).modNode n fun nd =>
        if nd.link = .offline then nd else { nd with missed := min (nd.missed + 1) 3 }
    let falls : Prop := (s.line n.line).state = .running ∧ 1 ≤ s.configuredCount n.line ∧
      s.configuredCount n.line ≤ min ((s.line n.line).silent + 1) 64
    let fault (t : State) : State := raise .service .lineFault (offer
      { kind := .lineFault, cls := .alarm, time := s.now, detail := Config.lineFaultDetail n.line (s.configuredCount n.line) }
      (t.modLine n.line fun ln => { ln with state := .fault }))
    ((s.node n).missed < 2 ∨ (s.node n).link = .offline →
      (¬ falls → exec (.answerWindowExpiry n.line) s = .next (counted false) ∧
        ∀ frame, answerOf n.addr frame = none → exec (.invalidAnswer n.line frame) s = .next (counted true)) ∧
      (falls → exec (.answerWindowExpiry n.line) s = .next (fault (counted false)))) ∧
    ((s.node n).missed < 2 ∨ (s.node n).link = .offline → falls →
      ∀ frame, answerOf n.addr frame = none → exec (.invalidAnswer n.line frame) s = .next (fault (counted true)))) ∧
  (∀ (n : NodeAddr) (x : Exchange) (event : Instr) (bad : Bool) (s : State), s.inRun = true →
    (s.line n.line).exchange = some x → x.addr = n.addr → (s.node n).config.configured = true →
    2 ≤ (s.node n).missed → (s.node n).link ≠ .offline →
    (event = .answerWindowExpiry n.line ∧ bad = false) ∨
      (bad = true ∧ ∃ frame, answerOf n.addr frame = none ∧ event = .invalidAnswer n.line frame) →
    let ended (turn : Bool) : State := s.modLine n.line fun ln =>
      { ln with
        exchange := none, missedTotal := min (ln.missedTotal + 1) 65535
        badTotal := if bad then min (ln.badTotal + 1) 65535 else ln.badTotal
        silent := if turn then min (ln.silent + 1) 64 else ln.silent }
    (x.frame = .poll ∨ (∃ sent, x.frame = .lamps sent) → ∃ t : State, (ended true).lapsed n t ∧ exec event s = .next
      (if (s.line n.line).state = .running ∧ s.configuredCount n.line ≤ min ((s.line n.line).silent + 1) 64 then
        raise .service .lineFault (offer
          { kind := .lineFault, cls := .alarm, time := s.now, detail := Config.lineFaultDetail n.line (s.configuredCount n.line) }
          (t.modLine n.line fun ln => { ln with state := .fault }))
       else t)) ∧
    (∀ m, x.frame = .mode m → ∃ t : State, (ended false).lapsed n t ∧ exec event s = .next t) ∧
    (x.frame = .busyReply → ∃ t : State, ((ended false).modLine n.line fun ln => { ln with busy := none }).lapsed n t ∧
      exec event s = .next t) ∧
    ∀ o v rest, x.frame = .verdict o → (s.line n.line).verdicts = v :: rest →
      let gone : State := { (ended false).modLine n.line fun ln => { ln with verdicts := rest } with
        verdict := if v.remote then s.verdict else { s.verdict with
          queue := s.verdict.queue.eraseP fun y => decide (y.node.line = n.line) && y.verdict.isSome } }
      ∃ t : State, State.lapsed (if v.verdict.outcome = .grant then offer
        { kind := .verdictUnconfirmed, cls := .notice, time := s.now, node := some ⟨n.line, v.addr⟩, card := v.card, key := v.key,
          reason := some (.verdict v.verdict.reason) } gone else gone) n t ∧ exec event s = .next t) ∧
  (∀ (n : NodeAddr) (x : Exchange) (event : Instr) (bad : Bool) (s : State), s.inRun = true →
    (s.line n.line).exchange = some x → x.addr = n.addr →
    (s.node n).config = .none ∨ (s.node n).missed < 2 ∨ (s.node n).link = .offline →
    (event = .answerWindowExpiry n.line ∧ bad = false) ∨
      (bad = true ∧ ∃ frame, answerOf n.addr frame = none ∧ event = .invalidAnswer n.line frame) →
    let counted : State := (s.modLine n.line fun ln =>
      { ln with
        exchange := none, missedTotal := min (ln.missedTotal + 1) 65535
        badTotal := if bad then min (ln.badTotal + 1) 65535 else ln.badTotal }).modNode n fun nd =>
        if nd.config = .none ∨ nd.link = .offline then nd else { nd with missed := min (nd.missed + 1) 3 }
    (∀ m, x.frame = .mode m → exec event s = .next counted) ∧
    (x.frame = .busyReply → exec event s = .next (counted.modLine n.line fun ln => { ln with busy := none })) ∧
    ∀ o v rest, x.frame = .verdict o → (s.line n.line).verdicts = v :: rest → ∃ t : State,
      exec event s = .next (if v.verdict.outcome = .grant then offer
        { kind := .verdictUnconfirmed, cls := .notice, time := s.now, node := some ⟨n.line, v.addr⟩, card := v.card, key := v.key,
          reason := some (.verdict v.verdict.reason) } t else t) ∧
      t = { counted with
        lines := (counted.modLine n.line fun ln => { ln with verdicts := rest }).lines
        verdict := if v.remote then s.verdict else { s.verdict with
          queue := s.verdict.queue.eraseP fun y => decide (y.node.line = n.line) && y.verdict.isSome } }) ∧
  (∀ (n : NodeAddr) (x : Exchange) (s : State), s.inRun = true → (s.line n.line).exchange = some x → x.addr = n.addr →
    (s.node n).config = .none → x.frame = .poll ∨ (∃ sent, x.frame = .lamps sent) →
    let counted (bad : Bool) : State := s.modLine n.line fun ln =>
      { ln with
        exchange := none, missedTotal := min (ln.missedTotal + 1) 65535
        badTotal := if bad then min (ln.badTotal + 1) 65535 else ln.badTotal }
    exec (.answerWindowExpiry n.line) s = .next (counted false) ∧
    ∀ frame, answerOf n.addr frame = none → exec (.invalidAnswer n.line frame) s = .next (counted true)) ∧
  ∀ (n : NodeAddr) (frame : List Byte) (s : State), s.polls n →
    (∀ card side, answerOf n.addr frame = some (.present side card) →
      exec (.invalidAnswer n.line frame) s = exec (.present n.line side card) s) ∧
    (answerOf n.addr frame = some .quiet → exec (.invalidAnswer n.line frame) s = exec (.quiet n.line) s)

/-- The line commands. START LINE takes a STOPPED line to RUNNING with silent count and rotation position 0. STOP LINE ends the
exchange, empties the Verdict Queue, the busy reply and the line's presentations, clears the marks of its nodes and keeps every
other field of every node; a line STOPPED already is STATE. A VERDICT frame cut short leaves its queue with VERDICT_UNCONFIRMED for a
GRANT, and each verdict then discarded gives one VERDICT_UNDELIVERED; so it is at RESTART LINE of a line not STOPPED. (The fields of
these records are the model's choice, log entry 34, and their order log entry 14.) RESTART LINE leaves the line RUNNING with all four counters 0, its
configured nodes UNPOLLED with missed answers 0, every node of it out of service and no session at any of them; every room whose door
node it holds has its door UNKNOWN, and each session there is ABANDONED with its record, its room and folio taking the end of the
session (what that does stands in Timers). -/
def Obligations.LineCommands : Prop :=
  ∀ (l : LineIx) (more : List Byte) (s : State), s.takes .service →
    let cut (kind : RecordKind) (key : Option KeyIx) (v : QueuedVerdict) : Offer :=
      { kind := kind, cls := .notice, time := s.now, node := some ⟨l, v.addr⟩, card := v.card, key := key
        reason := some (.verdict v.verdict.reason) }
    let undelivered (vs : List QueuedVerdict) (w : State) : State :=
      vs.foldl (fun u v => offer (cut .verdictUndelivered none v) u) w
    let stopped : State :=
      match (s.line l).exchange.map Exchange.frame, (s.line l).verdicts with
      | some (.verdict _), v :: vs =>
        undelivered vs (if v.verdict.outcome = .grant then offer (cut .verdictUnconfirmed v.key v) s else s)
      | _, vs => undelivered vs s
    ((s.line l).state = .stopped → exec (.startLine .service (u8 l.val ++ more)) s = .next
      ((s.modLine l fun ln => { ln with state := .running, silent := 0, rotation := 0 }).done .service .startLine [])) ∧
    ((s.line l).state ≠ .stopped →
      exec (.startLine .service (u8 l.val ++ more)) s = .next (s.refused .service .startLine .state)) ∧
    ((s.line l).state = .stopped →
      exec (.stopLine .service (u8 l.val ++ more)) s = .next (s.refused .service .stopLine .state)) ∧
    ((s.line l).state ≠ .stopped → ∃ t : State,
      exec (.stopLine .service (u8 l.val ++ more)) s = .next (t.done .service .stopLine []) ∧
      (t.line l).state = .stopped ∧ (t.line l).exchange = none ∧ (t.line l).verdicts = [] ∧ (t.line l).busy = none ∧
      (t.line l).missedTotal = (s.line l).missedTotal ∧ (t.line l).badTotal = (s.line l).badTotal ∧
      (t.line l).silent = (s.line l).silent ∧ (t.line l).rotation = (s.line l).rotation ∧ t.journal = stopped.journal ∧
      t.verdict = { s.verdict with queue := s.verdict.queue.filter fun x => decide (x.node.line ≠ l) } ∧
      (∀ n ∈ t.lamps.outstanding, n.line ≠ l) ∧ (∀ k : LineIx, k ≠ l → t.line k = s.line k) ∧
      (∀ n : NodeAddr, t.node n =
        if n.line = l then { s.node n with modePending := false, lampPending := false } else s.node n) ∧
      t.rooms = s.rooms ∧ t.keys = s.keys ∧ t.charge = s.charge ∧ t.supply = s.supply ∧ t.emergency = s.emergency ∧
      t.ports = s.ports ∧ t.pending = s.pending) ∧
    ∃ t : State, exec (.restartLine .service (u8 l.val ++ more)) s = .next (t.done .service .restartLine []) ∧
      (t.line l).state = .running ∧ (t.line l).silent = 0 ∧ (t.line l).rotation = 0 ∧ (t.line l).missedTotal = 0 ∧
      (t.line l).badTotal = 0 ∧ (∀ k : LineIx, k ≠ l → t.line k = s.line k) ∧
      (∀ n : NodeAddr, n.line = l → (t.node n).grant = none ∧ (t.node n).heldOpen = none ∧ (t.node n).door = .unknown ∧
        ((t.node n).config.configured = true → (t.node n).link = .unpolled ∧ (t.node n).missed = 0) ∧
        (t.node n).config = (s.node n).config ∧ (t.node n).mode = (s.node n).mode ∧ (t.node n).latch = (s.node n).latch) ∧
      (∀ n : NodeAddr, n.line ≠ l → t.node n = s.node n) ∧ (∀ x ∈ t.charge.sessions, x.node.line ≠ l) ∧
      (∃ u : State, u.charge = s.charge ∧ u.supply = s.supply ∧
        u.journal = (if (s.line l).state = .stopped then s.journal else stopped.journal) ∧
        (∀ r : RoomIx, u.room r = if (s.room r).doorNode.any (fun n => decide (n.line = l)) then
          { s.room r with door := .unknown } else s.room r) ∧
        let left := abandonSessions (fun n => decide (n.line = l)) u
        t.charge = left.charge ∧ t.rooms = left.rooms ∧ t.journal = left.journal) ∧
      t.keys = s.keys ∧ t.supply = s.supply ∧ t.emergency = s.emergency ∧ t.ports = s.ports ∧ t.pending = s.pending

/-! ### Folios, charges and minibars (chapter 6) -/

/-- OPEN FOLIO takes a FREE folio to OPEN with an empty list and zeros; any other is STATE. HOLD FOLIO takes an OPEN or HELD folio
to HELD for MANUAL; RELEASE FOLIO takes a HELD folio to OPEN; other states are STATE. Nothing else changes but the port. -/
def Obligations.OpenAndHoldFolio : Prop :=
  ∀ (f : FolioIx) (more : List Byte) (s : State),
    (s.takes .front → exec (.openFolio .front (u8 f.val ++ more)) s = .next
      (if (s.folio f).state = .free then
        (s.modFolio f fun _ => { state := .opened, rooms := [], allowance := 0, spent := 0, pendingLines := 0 }).done .front
          .openFolio []
       else s.refused .front .openFolio .state)) ∧
    (s.takes .charge →
      exec (.holdFolio .charge (u8 f.val ++ more)) s = .next
        (match (s.folio f).state with
         | .opened => (s.modFolio f fun x => { x with state := .held .manual }).done .charge .holdFolio []
         | .held _ => (s.modFolio f fun x => { x with state := .held .manual }).done .charge .holdFolio []
         | _ => s.refused .charge .holdFolio .state) ∧
      exec (.releaseFolio .charge (u8 f.val ++ more)) s = .next
        (match (s.folio f).state with
         | .held _ => (s.modFolio f fun x => { x with state := .opened }).done .charge .releaseFolio []
         | _ => s.refused .charge .releaseFolio .state))

/-- CLOSE FOLIO takes an OPEN or HELD folio none of whose rooms has a stay in progress to CLOSING; with no room, no line and no
session it drains to FREE at once, with FOLIO_DRAINED on both ports. SET ALLOWANCE holds an OPEN folio whose spent is at or above
the new allowance, with FOLIO_HELD, and frees a folio held for ALLOWANCE whose spent is below it. -/
def Obligations.CloseAndAllowance : Prop :=
  ∀ (f : FolioIx) (amount : BitVec 16) (more : List Byte) (s : State),
    (s.takes .front → ((s.folio f).state = .opened ∨ ∃ c, (s.folio f).state = .held c) →
      ((∀ r ∈ (s.folio f).rooms, (s.room r).stayInProgress = false) →
        exec (.closeFolio .front (u8 f.val ++ more)) s = .next
          ((if (s.folio f).rooms = [] ∧ (s.folio f).pendingLines = 0 ∧ (∀ x ∈ s.charge.sessions, x.folio ≠ some f) then
              raise .front .folioDrained (raise .charge .folioDrained
                (s.modFolio f fun x => { x with state := .free, allowance := 0, spent := 0 }))
            else s.modFolio f fun x => { x with state := .closing }).done .front .closeFolio [])) ∧
      ((∃ r ∈ (s.folio f).rooms, (s.room r).stayInProgress = true) →
        exec (.closeFolio .front (u8 f.val ++ more)) s = .next (s.refused .front .closeFolio .state))) ∧
    (s.takes .front → (s.folio f).state = .free ∨ (s.folio f).state = .closing →
      exec (.closeFolio .front (u8 f.val ++ more)) s = .next (s.refused .front .closeFolio .state)) ∧
    (s.takes .charge → exec (.setAllowance .charge (u8 f.val ++ u16 amount.toNat ++ more)) s = .next
      (match (s.folio f).state with
       | .opened =>
         if amount.toNat ≤ (s.folio f).spent then
           (raise .charge .folioHeld
             (s.modFolio f fun x => { x with allowance := amount.toNat, state := .held .allowance })).done .charge .setAllowance []
         else (s.modFolio f fun x => { x with allowance := amount.toNat }).done .charge .setAllowance []
       | .held .allowance =>
         (s.modFolio f fun x =>
           { x with allowance := amount.toNat
                    state := if x.spent < amount.toNat then .opened else .held .allowance }).done .charge .setAllowance []
       | .held _ => (s.modFolio f fun x => { x with allowance := amount.toNat }).done .charge .setAllowance []
       | _ => s.refused .charge .setAllowance .state))

/-- WRITE PRICES writes a run of prices of one class and no other price; past slot 31 it is BAD_PARAM. TAKE CHARGES removes lines
from the head of the queue, lowers the pending lines of their folios, returns how many and which, and withdraws CHARGE_WAITING
where it empties the queue. A CLOSING folio of which a line is taken, with no pending line, room or session left, drains to FREE,
with FOLIO_DRAINED on the Front and the Charge port. -/
def Obligations.Charges : Prop :=
  ∀ (more : List Byte) (s : State), s.takes .charge →
    (∀ (k : Fin 4) (first : Fin 32) (prices : List (BitVec 16)), 1 ≤ prices.length → prices.length ≤ 32 →
      (first.val + prices.length ≤ 32 → ∃ t : State,
        exec (.writePrices .charge (u8 k.val ++ u8 first.val ++ u8 prices.length ++
          (prices.map fun x => u16 x.toNat).flatten ++ more)) s = .next (t.done .charge .writePrices []) ∧
        t = { s with charge := { s.charge with prices := t.charge.prices } } ∧
        ∀ (c : Fin 4) (i : Fin 32), tget (tget t.charge.prices c) i =
          if c = k ∧ first.val ≤ i.val ∧ i.val < first.val + prices.length then
            (prices.getD (i.val - first.val) 0).toNat else tget (tget s.charge.prices c) i) ∧
      (32 < first.val + prices.length →
        exec (.writePrices .charge (u8 k.val ++ u8 first.val ++ u8 prices.length ++
          (prices.map fun x => u16 x.toNat).flatten ++ more)) s = .next (s.refused .charge .writePrices .badParam))) ∧
    ∀ n : Nat, 1 ≤ n → n ≤ 128 →
      (s.charge.queue = [] → exec (.takeCharges .charge (u8 n ++ more)) s = .next (s.done .charge .takeCharges [0, 0])) ∧
      ∀ (a z : ChargeLine), (s.charge.queue.take n).head? = some a → (s.charge.queue.take n).getLast? = some z →
        ∃ t : State, exec (.takeCharges .charge (u8 n ++ more)) s = .next
          ((if s.charge.queue.length ≤ n then withdraw .charge .chargeWaiting t else t).done .charge .takeCharges
            (u16 (s.charge.queue.take n).length ++ u16 a.number.toNat ++ u16 z.number.toNat)) ∧
        let taken (f : FolioIx) : Nat := (s.charge.queue.take n).countP fun x => decide (x.folio = f)
        let drains (f : FolioIx) : Prop := 0 < taken f ∧ (s.folio f).state = .closing ∧ (s.folio f).pendingLines ≤ taken f ∧
          (s.folio f).rooms = [] ∧ ∀ x ∈ s.charge.sessions, x.folio ≠ some f
        t = { s with charge := t.charge, attn := t.attn } ∧
        t.charge = { s.charge with queue := s.charge.queue.drop n, folios := t.charge.folios } ∧
        (∀ f : FolioIx, drains f →
          t.folio f = { state := .free, rooms := [], allowance := 0, spent := 0, pendingLines := 0 }) ∧
        (∀ f : FolioIx, ¬ drains f → t.folio f = { s.folio f with pendingLines := (s.folio f).pendingLines - taken f }) ∧
        ((∃ f, drains f) → t.attn = (raise .front .folioDrained (raise .charge .folioDrained s)).attn) ∧
        ((∀ f, ¬ drains f) → t.attn = s.attn)

/-- Tray events of a polled ONLINE MINIBAR (R124, R128 to R130). An OPEN charged session with a reservation or free charge space
makes the next line at the price of its class and slot, adds to or takes from spent, and holds an OPEN folio at its allowance;
without either, UNBILLED is offered and the folio held. An OPEN restock session offers RESTOCK; no session, TRAY_UNEXPECTED. A
session in OPENING is opened first, with its MINIBAR_OPEN record and its open limit of 600 s, and the tray event is then taken as
in an OPEN one. (That the session's time is then 0 while the clock is UNSET is the model's choice, log entry 31.) -/
def Obligations.TrayAnswers : Prop :=
  ∀ (n : NodeAddr) (room : RoomIx) (cls : Fin 4) (slot : TraySlot) (kind : TrayKind) (s : State), s.polls n →
    (s.node n).config = .minibar room cls →
    (s.charge.sessionAt n = none → exec (.tray n.line slot kind) s = .next (offer
      { kind := .trayUnexpected, cls := .alarm, time := s.now, node := some n, room := some room,
        detail := BitVec.ofNat 16 (slot.val + if kind = .returned then 256 else 0) } (s.heardFrom n))) ∧
    (∀ x : Session, s.charge.sessionAt n = some x → x.state = .opening →
      exec (.tray n.line slot kind) s = exec (.tray n.line slot kind) (offer
        { kind := .minibarOpen, cls := .routine, time := s.now, node := some x.node, room := some x.room, key := some x.key,
          detail := match x.folio with | some f => BitVec.ofNat 16 f.val | none => 0xFFFF }
        (putSession { x with state := .opened, time := s.now.getD 0, limitAt := some (s.supply.elapsed + 600 * 32768) } s))) ∧
    ∀ x : Session, s.charge.sessionAt n = some x → x.state = .opened →
      let counted : Session := { x with reserved := x.reserved - 1, linesMade := min (x.linesMade + 1) 65535 }
      (x.folio = none → exec (.tray n.line slot kind) s = .next (offer
        { kind := .restock, cls := .routine, time := s.now, node := some n, room := some x.room, key := some x.key,
          detail := BitVec.ofNat 16 (slot.val + if kind = .returned then 256 else 0) } (putSession counted (s.heardFrom n)))) ∧
      (∀ f, x.folio = some f → x.reserved = 0 → 128 ≤ s.charge.queue.length + s.charge.reservedTotal →
        exec (.tray n.line slot kind) s = .next (raise .charge .unbilled
          ((offer { kind := .unbilled, cls := .alarm, time := s.now, node := some n, room := some x.room, key := some x.key,
                    detail := BitVec.ofNat 16 (slot.val + if kind = .returned then 256 else 0) } (s.heardFrom n)).modFolio f
            fun y => { y with state := match y.state with | .opened => .held .unbilled | .held _ => .held .unbilled | k => k }))) ∧
      ∀ f, x.folio = some f → 0 < x.reserved ∨ s.charge.queue.length + s.charge.reservedTotal < 128 →
        let price := tget (tget s.charge.prices cls) slot
        let spent := if kind = .taken then min ((s.folio f).spent + price) 65535 else (s.folio f).spent - price
        ∃ t : State, exec (.tray n.line slot kind) s = .next t ∧
        t = { s.heardFrom n with charge := t.charge, attn := t.attn } ∧
        t.charge.queue = s.charge.queue ++ [⟨s.charge.nextLine, f, x.room, slot, kind, price, s.now⟩] ∧
        t.charge.nextLine = s.charge.nextLine + 1 ∧
        t.charge.sessions = s.charge.sessions.map (fun y => if y.room = x.room then counted else y) ∧
        t.charge.prices = s.charge.prices ∧
        t.folio f = { s.folio f with
          pendingLines := (s.folio f).pendingLines + 1, spent := spent
          state := if kind = .taken ∧ (s.folio f).state = .opened ∧ (s.folio f).allowance ≤ spent then .held .allowance
            else (s.folio f).state } ∧
        (∀ g : FolioIx, g ≠ f → t.folio g = s.folio g) ∧
        (s.charge.queue = [] → t.isPending .charge .chargeWaiting = true) ∧
        (kind = .taken → (s.folio f).state = .opened → (s.folio f).allowance ≤ spent → t.isPending .charge .folioHeld = true)

/-! ### The journal (chapter 7) -/

/-- An offered record takes the next sequence number (R136). With fewer than 64 records staged it joins the tail, and the flush
timer of 2 s starts where none was waiting. With 64 staged, a ROUTINE record is dropped and counted; a NOTICE or ALARM record
evicts the oldest waiting ROUTINE record, or is dropped and counted itself; the first loss after a status read raises
STAGING_DROP. At a loss a pending flush is tested, and ends with OK where no record at or below its target is staged any longer
(R152). (That the timer starts in RUN alone is the model's choice, log entry 23.) -/
def Obligations.OfferedRecord : Prop :=
  ∀ (o : Offer) (s : State),
    (s.journal.staged.length < 64 → offer o s = { s with journal := { s.journal with
      nextSeq := s.journal.nextSeq + 1, staged := s.journal.staged ++ [o.record s.journal.nextSeq]
      flushAt := if s.inRun = true ∧ s.journal.waiting = 0 then some (s.supply.elapsed + 65536) else s.journal.flushAt } }) ∧
    (64 ≤ s.journal.staged.length → ∃ t : State,
      let told : State := if s.journal.noticeArmed then raise .service .stagingDrop t else t
      (s.journal.flush = none → offer o s = told) ∧
      (∀ target, s.journal.flush = some target → offer o s =
        if ∃ r ∈ t.journal.staged, r.seq = target ∨ seqBelow r.seq target = true then told
        else answerLong .flushJournal ⟨.ok, []⟩ { told with journal := { told.journal with flush := none } }) ∧
      t = { s with journal := t.journal } ∧ t.journal.nextSeq = s.journal.nextSeq + 1 ∧ t.journal.noticeArmed = false ∧
      (o.cls = .routine → t.journal.staged = s.journal.staged ∧
        (s.journal.droppedRoutine ≠ 0xFFFFFFFF → t.journal.droppedRoutine = s.journal.droppedRoutine + 1)) ∧
      (o.cls ≠ .routine → (∀ r ∈ s.journal.staged.drop s.journal.inFlight, r.cls ≠ .routine) →
        t.journal.staged = s.journal.staged ∧
        (s.journal.droppedPriority ≠ 0xFFFFFFFF → t.journal.droppedPriority = s.journal.droppedPriority + 1)) ∧
      ∀ (i : Nat) (r : Record), o.cls ≠ .routine → s.journal.inFlight ≤ i → s.journal.staged[i]? = some r → r.cls = .routine →
        (∀ j r', s.journal.inFlight ≤ j → j < i → s.journal.staged[j]? = some r' → r'.cls ≠ .routine) →
        t.journal.staged = s.journal.staged.eraseIdx i ++ [o.record s.journal.nextSeq] ∧
        (s.journal.droppedRoutine ≠ 0xFFFFFFFF → t.journal.droppedRoutine = s.journal.droppedRoutine + 1))

/-- The journal commands. SET CURSOR places the cursor at the record of the sequence given, or at the oldest committed record at or
above it, or at the next sequence number where there is none, and clears the cursor-lost mark; MARK COLLECTED takes a mark that is not
below the present one and below the next sequence; the guards of a set change and nothing else; HOLD SEGMENT and CLEAR HOLD queue
a mark and leave the port WORKING, and a segment that is not FULL, or is HELD, RELEASED or has a hold pending, is STATE to HOLD
SEGMENT; FLUSH JOURNAL is answered at once where nothing is staged or the journal is JAMMED, and
otherwise pends. -/
def Obligations.JournalCommands : Prop :=
  ∀ (more : List Byte) (s : State), s.takes .service →
    (∀ c : Seq, ∃ q : Seq, exec (.setCursor .service (u32 c ++ more)) s = .next
        ({ s with journal := { s.journal with cursor := q, cursorLost := false } }.done .service .setCursor []) ∧
      ((∃ r ∈ s.journal.committed, r.seq = c) → q = c) ∧
      ((∀ r ∈ s.journal.committed, r.seq ≠ c ∧ seqBelow c r.seq = false) → q = s.journal.nextSeq) ∧
      ((∃ r ∈ s.journal.committed, seqBelow c r.seq = true) → (∀ r ∈ s.journal.committed, r.seq ≠ c) →
        ∃ r ∈ s.journal.committed, q = r.seq ∧ seqBelow c r.seq = true ∧
          ∀ p ∈ s.journal.committed, seqBelow c p.seq = true → seqBelow p.seq r.seq = false)) ∧
    (∀ m : Seq, exec (.markCollected .service (u32 m ++ more)) s = .next
      (if (∃ c, s.journal.collected = some c ∧ seqBelow m c = true) ∨ s.journal.nextSeq = m ∨
          seqBelow s.journal.nextSeq m = true then s.refused .service .markCollected .badParam
       else { s with journal := { s.journal with collected := some m } }.done .service .markCollected [])) ∧
    (∀ w : Set16, w ≠ 0 → ∃ t u : State,
      exec (.releaseGuards .service (u16 w.toNat ++ more)) s = .next (t.done .service .releaseGuards []) ∧
      exec (.setGuards .service (u16 w.toNat ++ more)) s = .next (u.done .service .setGuards []) ∧
      t = { s with journal := { s.journal with segments := t.journal.segments } } ∧
      u = { s with journal := { s.journal with segments := u.journal.segments } } ∧
      ∀ k : SegIx, t.segment k = { s.segment k with guard := (s.segment k).guard && !w.getLsbD k } ∧
        u.segment k = { s.segment k with guard := (s.segment k).guard || w.getLsbD k }) ∧
    (∀ k : SegIx, (s.segment k).state = .full → (s.segment k).hold = .none → (s.segment k).holdPending = false →
      (s.journal.heldCount < 12 → exec (.holdSegment .service (u8 k.val ++ more)) s = .next
        { s.begun .service .holdSegment with
          journal := { (s.journal.modSegment k fun g => { g with holdPending := true }) with
            marks := s.journal.marks ++ [.hold k] } }) ∧
      (12 ≤ s.journal.heldCount →
        exec (.holdSegment .service (u8 k.val ++ more)) s = .next (s.refused .service .holdSegment .holdLimit))) ∧
    (∀ k : SegIx, (s.segment k).state ≠ .full ∨ (s.segment k).hold ≠ .none ∨ (s.segment k).holdPending = true →
      exec (.holdSegment .service (u8 k.val ++ more)) s = .next (s.refused .service .holdSegment .state)) ∧
    (∀ k : SegIx, exec (.clearHold .service (u8 k.val ++ more)) s = .next
      (if (s.segment k).hold = .held then
        { s.begun .service .clearHold with journal := { s.journal with marks := s.journal.marks ++ [.release k] } }
       else s.refused .service .clearHold .state)) ∧
    (s.journal.staged = [] → exec (.flushJournal .service more) s = .next (s.done .service .flushJournal [])) ∧
    ∀ r, s.journal.staged.getLast? = some r → exec (.flushJournal .service more) s = .next
      (if s.journal.jammed then s.refused .service .flushJournal .jammed
       else { s.begun .service .flushJournal with journal := { s.journal with flush := some r.seq } })

/-- What the array starts (R141, R142, R144, R145, R147, R148). Idle, or with an erase suspended and no program running, it takes the
mark at the head of the mark queue; with none waiting, the requested commit of up to 8 waiting records into the next block; with neither, the erase that a claim names, whose
segment is DIRTY at once. The erase of a FULL segment counts its records above the collected mark as overrun, with JOURNAL_OVERRUN
where there are any, and a cursor at or below its last record is lost and goes to the oldest record that remains. A waiting mark
or commit suspends a running erase, at most 4 times. (That a suspended erase with nothing waiting is resumed by ERASE START is the
model's choice, log entry 24.)
What the array completes (R142, R143, R146, R148, R150, R151). A block below 63 puts its records in their slots, takes them from
staging, and advances the segment's next block; the first block of a segment gives it its first sequence and queues its
first-sequence mark; block 63 makes the segment FULL and the first BLANK segment in ring order FILLING, and without one the
journal is JAMMED with JOURNAL_JAM. A pending flush ends with OK at the completion that leaves no record at or below its target in
staging, and with JAMMED where the journal jams first. The marks program the header, set the hold state and answer the Service port.
Each end of a program resumes a suspended erase. An erased segment is BLANK with its guard kept, or FILLING where the journal was
JAMMED. -/
def Obligations.ArrayPrograms : Prop :=
  (∀ s : State, s.inRun = true →
    (∀ c rest, s.journal.program = none → (∀ e, s.journal.erase = some e → e.suspended = true) → s.journal.marks = c :: rest →
      exec .markProgramStart s = .next { s with journal := { s.journal with
        marks := rest
        program := some (match c with
          | .first k q => .firstMark k q
          | .hold k => .holdMark k
          | .release k => .releaseMark k) } }) ∧
    (∀ k blk, s.journal.program = none → (∀ e, s.journal.erase = some e → e.suspended = true) → s.journal.marks = [] →
      s.journal.fillingAt = some k → (s.segment k).state = .filling blk → s.journal.commitRequested = true →
      exec .blockProgramStart s = .next { s with journal := { s.journal with
        program := some (.block k blk (min 8 s.journal.staged.length)), commitDue := false
        flushAt := if 8 < s.journal.staged.length then some (s.supply.elapsed + 65536) else none } }) ∧
    (∀ k, s.journal.program = none → s.journal.erase = none → s.journal.programWaits = false → s.journal.eraseTarget = some k →
      ∃ t : State, exec .eraseStart s = .next t ∧ (t.segment k).state = .dirty ∧ (t.segment k).first = none ∧
        (t.segment k).last = none ∧ (t.segment k).guard = (s.segment k).guard ∧
        (∀ j : SegIx, j ≠ k → t.segment j = s.segment j) ∧
        t.journal.erase = some { segment := k, suspensions := 0, suspended := false } ∧
        t.journal.staged = s.journal.staged ∧ t.journal.nextSeq = s.journal.nextSeq ∧
        t = { s with journal := t.journal, attn := t.attn } ∧
        ((s.segment k).state = .dirty → t.journal.overrun = s.journal.overrun ∧ t.journal.cursor = s.journal.cursor ∧
          t.attn = s.attn) ∧
        (let rs := (s.segment k).records
         let lost := rs.countP fun r => match s.journal.collected with | some m => seqBelow m r.seq | none => true
         (s.segment k).state = .full →
          t.attn = (if lost = 0 then s.attn else (raise .service .journalOverrun s).attn) ∧
          (s.journal.overrun.toNat + lost < 4294967296 →
            t.journal.overrun = BitVec.ofNat 32 (s.journal.overrun.toNat + lost)) ∧
          ∀ q, (s.segment k).last = some q →
            if rs ≠ [] ∧ (s.journal.cursor = q ∨ seqBelow s.journal.cursor q = true) then
              t.journal.cursorLost = true ∧
              t.journal.cursor = ((oldest t.journal.committed).map Record.seq).getD t.journal.nextSeq
            else t.journal.cursorLost = s.journal.cursorLost ∧ t.journal.cursor = s.journal.cursor)) ∧
    (∀ e, s.journal.program = none → s.journal.erase = some e → e.suspended = true → s.journal.programWaits = false →
      exec .eraseStart s = .next { s with journal := { s.journal with erase := some { e with suspended := false } } }) ∧
    ∀ e, s.journal.program = none → s.journal.erase = some e → e.suspended = false → s.journal.programWaits = true →
      exec .eraseSuspend s = .next
        (if e.suspensions < 4 then { s with journal := { s.journal with
           erase := some { e with suspended := true, suspensions := e.suspensions + 1 } } } else s)) ∧
  (∀ s : State, s.inRun = true →
    let j := s.journal
    let resumed : Option Erase := j.erase.map fun e => { e with suspended := false }
    (∀ (k : SegIx) (blk m : Nat), j.program = some (.block k blk m) → m ≤ 8 →
      let rs := j.staged.take m
      let left (target : Seq) : Bool := (j.staged.drop m).any fun r => decide (r.seq = target) || seqBelow r.seq target
      let wrote (state : SegState) (u : State) : Prop :=
        u = { s with journal := u.journal } ∧
        u.journal = { j with
          segments := u.journal.segments, staged := j.staged.drop m, program := none, erase := resumed
          marks := u.journal.marks, flush := u.journal.flush } ∧
        u.segment k = { s.segment k with
          state := state, slots := (u.segment k).slots, first := (u.segment k).first
          last := (rs.getLast?.map Record.seq).or (s.segment k).last } ∧
        (∀ i r, i < 8 → rs[i]? = some r → (u.segment k).slots.get (8 * blk + i) = .written r) ∧
        (∀ i : Fin 512, i.val < 8 * blk ∨ 8 * blk + rs.length ≤ i.val →
          (u.segment k).slots.get i.val = (s.segment k).slots.get i.val) ∧
        (blk ≠ 0 → (u.segment k).first = (s.segment k).first ∧ u.journal.marks = j.marks) ∧
        (∀ r, blk = 0 → rs.head? = some r →
          (u.segment k).first = some r.seq ∧ u.journal.marks = j.marks ++ [.first k r.seq])
      let ends (u : State) : Prop :=
        ((∀ target, j.flush = some target → left target = true) → u.journal.flush = j.flush ∧
          exec .blockProgramComplete s = .next u) ∧
        (∀ target, j.flush = some target → left target = false → u.journal.flush = none ∧
          exec .blockProgramComplete s = .next (u.settled .flushJournal .ok))
      (blk < 63 → ∃ u : State, wrote (.filling (blk + 1)) u ∧ (∀ i : SegIx, i ≠ k → u.segment i = s.segment i) ∧ ends u) ∧
      (blk = 63 → (∀ i, i ≠ k → (s.segment i).state ≠ .blank ∧ ∀ b, (s.segment i).state ≠ .filling b) → ∃ u : State,
        wrote .full u ∧ (∀ i : SegIx, i ≠ k → u.segment i = s.segment i) ∧ u.journal.flush = none ∧ u.journal.jammed = true ∧
        exec .blockProgramComplete s = .next (raise .service .journalJam
          (match j.flush with
           | none => u
           | some target => u.settled .flushJournal (if left target then .jammed else .ok)))) ∧
      (∀ d : Nat, blk = 63 → 1 ≤ d → d < 16 → (s.segment (k + Fin.ofNat 16 d)).state = .blank →
        (∀ e, 1 ≤ e → e < d → (s.segment (k + Fin.ofNat 16 e)).state ≠ .blank) → ∃ u : State, wrote .full u ∧
        u.segment (k + Fin.ofNat 16 d) = { s.segment (k + Fin.ofNat 16 d) with state := .filling 0 } ∧
        (∀ i : SegIx, i ≠ k → i ≠ k + Fin.ofNat 16 d → u.segment i = s.segment i) ∧ u.journal.jammed = false ∧ ends u)) ∧
    (∀ k q, j.program = some (.firstMark k q) →
      exec .firstSequenceMarkProgrammed s = .next { s with journal := { (j.modSegment k fun g =>
        { g with headerFirst := some q }) with program := none, erase := resumed } }) ∧
    (∀ k, j.program = some (.holdMark k) → exec .holdMarkProgrammed s = .next (State.settled { s with journal :=
      { (j.modSegment k fun g => { g with holdMark := true, hold := .held, holdPending := false }) with
        program := none, erase := resumed } } .holdSegment .ok)) ∧
    (∀ k, j.program = some (.releaseMark k) → exec .releaseMarkProgrammed s = .next (State.settled { s with journal :=
      { (j.modSegment k fun g => { g with releaseMark := true, hold := .released }) with
        program := none, erase := resumed } } .clearHold .ok)) ∧
    ∀ e, s.journal.program = none → s.journal.erase = some e → e.suspended = false → ∃ t : State,
      exec .segmentEraseComplete s = .next t ∧ t = { s with journal := t.journal } ∧ t.journal.erase = none ∧
      (t.segment e.segment).state = (if s.journal.jammed then .filling 0 else .blank) ∧
      (t.segment e.segment).guard = (s.segment e.segment).guard ∧ (t.segment e.segment).hold = .none ∧
      (∀ i : Fin 512, (t.segment e.segment).slots.get i.val = .blank) ∧
      ∀ j : SegIx, j ≠ e.segment → t.segment j = s.segment j)

/-! ### Corridor indicators (chapter 8) -/

/-- The indicator commands each withdraw SWEEP_DONE and BLINK_PHASE first (R171). WRITE LAMPS writes the lamps given of the chosen
set; SET DARK takes the flag (its byte, 0 clear and 1 set, is the model's choice, log entry 9); SET BLINK PERIOD the multiplier; SET
BLINK MODE starts the generator from STEADY, goes on between blinking modes, and stops it at STEADY, with a toggle start where the
phase was OFF. The clearing commands begin a walk at entry 0. -/
def Obligations.LampCommands : Prop :=
  ∀ (more : List Byte) (s : State), s.takes .service →
    let u := withdraw .service .blinkPhase (withdraw .service .sweepDone s)
    (∀ (r : RoomIx) (privacy makeup call alarm : Option Bool),
      let code (v : Option Bool) : List Byte := match v with | some false => [0] | some true => [1] | none => [2]
      let write (x : LampSet) : LampSet := { privacy := privacy.getD x.privacy, makeup := makeup.getD x.makeup,
                                             call := call.getD x.call, alarm := alarm.getD x.alarm }
      let lamps := code privacy ++ code makeup ++ code call ++ code alarm ++ more
      exec (.writeLamps .service (u16 r.val ++ [0] ++ lamps)) s = .next
        ((u.modLamp r fun e => { e with primary := write e.primary }).done .service .writeLamps []) ∧
      exec (.writeLamps .service (u16 r.val ++ [1] ++ lamps)) s = .next
        ((u.modLamp r fun e => { e with alternate := write e.alternate }).done .service .writeLamps []) ∧
      exec (.writeLamps .service (u16 r.val ++ [2] ++ lamps)) s = .next
        ((u.modLamp r fun e => { e with blinkSelect := write e.blinkSelect }).done .service .writeLamps [])) ∧
    (∀ v : Bool, exec (.setDark .service (uFlag v ++ more)) s = .next
      ({ u with lamps := { s.lamps with dark := v } }.done .service .setDark [])) ∧
    (∀ k : Nat, 1 ≤ k → k ≤ 8 → exec (.setBlinkPeriod .service (u8 k ++ more)) s = .next
      ({ u with lamps := { s.lamps with multiplier := k } }.done .service .setBlinkPeriod [])) ∧
    (∀ m : BlinkMode, m ≠ .steady → exec (.setBlinkMode .service (u8 m.code ++ more)) s = .next
      ({ u with lamps := if s.lamps.mode = BlinkMode.steady then
           { s.lamps with mode := m, phaseOn := true, toggleAt := some (s.supply.elapsed + s.lamps.multiplier * 8192) }
         else { s.lamps with mode := m } }.done .service .setBlinkMode [])) ∧
    (exec (.setBlinkMode .service (u8 0 ++ more)) s = .next
      ((let stopped : State := { u with lamps := { s.lamps with mode := .steady, phaseOn := true, toggleAt := none } }
        if s.lamps.mode ≠ .steady ∧ s.lamps.phaseOn = false then requestSweep .toggle stopped else stopped).done .service
          .setBlinkMode [])) ∧
    exec (.clearAlternate .service more) s = .next
      { (u.begun .service .clearAlternate) with lamps := { s.lamps with clearing := some (.alternate, 0) } } ∧
    exec (.clearBlinkSet .service more) s = .next
      { (u.begun .service .clearBlinkSet) with lamps := { s.lamps with clearing := some (.blinkSet, 0) } }

/-- A start request of a sweep (R168); one visit of a sweep (R169), which marks the door node of a room in a FULL sweep, or in a
TOGGLE sweep where the displayed lamps differ from the last sent, save a node whose mark its line clears at once, and which at
room 511 takes the sweep to DRAINING, or ends it where nothing is outstanding (R170); and one step of a clearing walk (R167),
which clears the set of one entry and leaves every other entry and the rest of the part as it stands; the step at entry 511 ends the
walk and answers the command. -/
def Obligations.SweepsAndWalks : Prop :=
  ∀ s : State, s.inRun = true →
    (∀ k : SweepKind, requestSweep k s = { s with lamps :=
      if s.lamps.sweep = .idle then { s.lamps with sweep := .marking k 0 }
      else { s.lamps with pendingStart := if s.lamps.pendingStart = some .full then some .full else some k } }) ∧
    (∀ (k : SweepKind) (r : RoomIx), s.lamps.sweep = .marking k r →
      let visited (next : Sweep) (t : State) : State := { t with lamps := { t.lamps with sweep := next } }
      ((s.room r).doorNode = none ∨ (∃ n, (s.room r).doorNode = some n ∧
          ((k = .toggle ∧ (s.lamp r).lastSent = some (s.displayed r)) ∨ (s.line n.line).state = .stopped ∨
            (s.node n).config.configured = false ∨ (s.node n).link = .offline)) →
        (∀ h : r.val + 1 < 512, exec .sweepVisit s = .next (visited (.marking k ⟨r.val + 1, h⟩) s)) ∧
        (r.val = 511 → exec .sweepVisit s = .next
          (if s.lamps.outstanding = [] then raise .service .sweepDone { s with lamps := { s.lamps with
             sweep := match s.lamps.pendingStart with | some j => .marking j 0 | none => .idle
             pendingStart := none } }
           else visited (.draining k) s))) ∧
      ∀ n, (s.room r).doorNode = some n → k = .full ∨ (s.lamp r).lastSent ≠ some (s.displayed r) →
        (s.line n.line).state ≠ .stopped → (s.node n).config.configured = true → (s.node n).link ≠ .offline → ∃ t : State,
        (∀ h : r.val + 1 < 512, exec .sweepVisit s = .next (visited (.marking k ⟨r.val + 1, h⟩) t)) ∧
        (r.val = 511 → exec .sweepVisit s = .next (visited (.draining k) t)) ∧
        t = { s with lamps := t.lamps, nodes := t.nodes, lines := t.lines } ∧
        t.node n = { s.node n with lampPending := true } ∧ (∀ m : NodeAddr, m ≠ n → t.node m = s.node m) ∧
        t.lamps = { s.lamps with
          outstanding := if n ∈ s.lamps.outstanding then s.lamps.outstanding else s.lamps.outstanding ++ [n] }) ∧
    ∀ (k : ClearKind) (r : RoomIx), s.lamps.clearing = some (k, r) → ∃ t : State, t = { s with lamps := t.lamps } ∧
      (∀ q : RoomIx, q ≠ r → t.lamp q = s.lamp q) ∧
      t.lamp r = (match k with
        | .alternate => { s.lamp r with alternate := ⟨false, false, false, false⟩ }
        | .blinkSet => { s.lamp r with blinkSelect := ⟨false, false, false, false⟩ }) ∧
      t.lamps = { s.lamps with entries := t.lamps.entries, clearing := t.lamps.clearing } ∧
      (∀ h : r.val + 1 < 512, t.lamps.clearing = some (k, ⟨r.val + 1, h⟩) ∧ exec .clearWalkStep s = .next t) ∧
      (r.val = 511 → t.lamps.clearing = none ∧ exec .clearWalkStep s = .next
        (t.settled (match k with | .alternate => .clearAlternate | .blinkSet => .clearBlinkSet) .ok))

/-! ### Clock, timers, supply and emergency keys (chapter 11) -/

/-- The timers. A timer that expires before the next minute tick lets time go on to its expiry and then takes its effect: a grant
window clears the grant; a held-open timer of an OPEN door in NORMAL mode makes the door HELD_OPEN with an ALARM record and
DOOR_ALARM, and lights the ALARM lamp of the room whose door node it is (R84); the open limit offers MINIBAR_HELD once; the flush timer makes a commit due; the blink generator toggles the phase,
raises BLINK_PHASE and requests a TOGGLE sweep. At a MINIBAR the window's expiry discards a session still in OPENING, without a
record (R126).
A session that is abandoned, because its node goes OFFLINE, its line is restarted or the part enters RETAIN, ends after its ALARM
record MINIBAR_ABANDONED with the lines made (R127); the sessions at some nodes go in the order of the table (the model's choice,
log entry 14). (That an event lets time go on to its deadline is the model's choice, log entry 2; the node and room of HELD_OPEN
are log entry 10; that the next toggle is reckoned from the last one due is log entry 29.) -/
def Obligations.Timers : Prop :=
  (∀ (n : NodeAddr) (due : Nat) (s : State), s.inRun = true → s.supply.elapsed < due →
    due < s.supply.elapsed + s.supply.toTick →
    let later := passPeriods (due - s.supply.elapsed) s
    (∀ g, (s.node n).grant = some g → due = g.since + 6 * 32768 → (s.node n).config.isMinibar = false →
      exec (.grantWindowExpiry n) s = .next (later.modNode n fun nd => { nd with grant := none })) ∧
    (∀ g, (s.node n).grant = some g → due = g.since + 6 * 32768 → (s.node n).config.isMinibar = true →
      exec (.grantWindowExpiry n) s = .next
        (let cleared := later.modNode n fun nd => { nd with grant := none }
         match s.charge.sessionAt n with
         | some x => if x.state = .opening then endSession x cleared else cleared
         | none => cleared)) ∧
    (∀ x, (s.node n).heldOpen = some x → due = x.expiry → (s.node n).mode ≠ .normal →
      exec (.heldOpenTimerExpiry n) s = .next (later.modNode n fun nd => { nd with heldOpen := none })) ∧
    (∀ x, (s.node n).heldOpen = some x → due = x.expiry → (s.node n).mode = .normal → (s.node n).door = .opened → ∃ t : State,
      exec (.heldOpenTimerExpiry n) s = .next (raise .service .doorAlarm (offer
        { kind := .heldOpen, cls := .alarm, time := later.now, node := some n, room := (s.node n).config.room,
          detail := BitVec.ofNat 16 x.limit } t)) ∧
      t.node n = { s.node n with door := .heldOpen, heldOpen := none } ∧ (∀ k : NodeAddr, k ≠ n → t.node k = s.node k) ∧
      t = { later with nodes := t.nodes, rooms := t.rooms, lamps := t.lamps } ∧
      t.alarmHanded s n .heldOpen (s.node n).latch ∧
      ∀ r : RoomIx, t.room r = if s.doorRoom n = some r then { s.room r with door := .heldOpen } else s.room r) ∧
    (∀ x, s.charge.sessionAt n = some x → x.limitAt = some due → x.state = .opened → x.limitNoticed = false →
      exec (.openLimitExpiry n) s = .next (offer
        { kind := .minibarHeld, cls := .notice, time := later.now, node := some n, room := some x.room }
        (putSession { x with limitAt := none, limitNoticed := true } later))) ∧
    (s.journal.flushAt = some due → exec .flushTimerExpiry s = .next
      { later with journal := { s.journal with flushAt := none, commitDue := true } }) ∧
    (s.lamps.toggleAt = some due → exec .blinkPhaseToggle s = .next (requestSweep .toggle (raise .service .blinkPhase
      { later with lamps := { s.lamps with
          phaseOn := !s.lamps.phaseOn, toggleAt := some (due + s.lamps.multiplier * 8192) } })))) ∧
  ∀ (which : NodeAddr → Bool) (s : State), abandonSessions which s =
    (s.charge.sessions.filter fun x => which x.node).foldl (fun t x => endSession x (offer
      { kind := .minibarAbandoned, cls := .alarm, time := t.now, node := some x.node, room := some x.room, key := some x.key,
        detail := BitVec.ofNat 16 x.linesMade } t)) s

/-- SET CLOCK gives the counter, clears its fraction and makes the clock RUNNING; CLOCK_SET is offered from UNSET with FFFFh, and
for a step of more than 300 s with its whole minutes. A minute tick, in RUN and in RETAIN, takes the counter to the next multiple of
60, asks for an EXPIRY job (R36), compares the passage windows of every COMMON_DOOR while the clock is RUNNING (R88), and in RUN asks
for a FULL sweep (R168). (That the tick event lets time go on to that multiple is the model's choice, log entry 3; that a part whose
retention domain is lost keeps no time log entry 19.) -/
def Obligations.Clock : Prop :=
  ∀ (time : HotelTime) (more : List Byte) (s : State),
    (s.takes .service →
      let set : State := { s with supply := { s.supply with counter := time, fraction := 0, clockRunning := true } }
      let step := max (s.supply.counter.toNat - time.toNat) (time.toNat - s.supply.counter.toNat)
      let recorded (detail : BitVec 16) : State :=
        offer { kind := .clockSet, cls := .notice, time := some time, detail := detail } set
      exec (.setClock .service (u32 time ++ more)) s = .next
        ((if s.supply.clockRunning = false then recorded 0xFFFF
          else if 300 < step then recorded (BitVec.ofNat 16 (min (step / 60) 65534)) else set).done .service .setClock [])) ∧
    (s.supply.power = .lost → exec .minuteTick s = .next s) ∧
    (s.supply.power ≠ .lost → s.supply.fraction < 32768 → ∃ t : State, exec .minuteTick s = .next t ∧
      let next := 60 * (s.supply.counter.toNat / 60 + 1)
      t.supply = { s.supply with
        counter := if next < 4294967296 then BitVec.ofNat 32 next else 0
        fraction := 0, elapsed := s.supply.elapsed + s.supply.toTick } ∧
      t = { s with supply := t.supply, keys := t.keys, lamps := t.lamps, nodes := t.nodes, lines := t.lines } ∧
      t.keys = { s.keys with scanQueue :=
        if ScanJob.expiry ∈ s.keys.scanQueue ∨ 8 ≤ s.keys.scanQueue.length then s.keys.scanQueue
        else s.keys.scanQueue ++ [.expiry] } ∧
      t.lamps = (if s.inRun = false then s.lamps
        else if s.lamps.sweep = .idle then { s.lamps with sweep := .marking .full 0 }
        else { s.lamps with pendingStart := some .full }) ∧
      (∀ l : LineIx, (s.line l).exchange = none → t.line l = s.line l) ∧
      (s.supply.clockRunning = false → t.nodes = s.nodes ∧ t.lines = s.lines) ∧
      (s.supply.clockRunning = true →
      ∀ n : NodeAddr, t.node n =
        (let nd := s.node n
         match nd.config with
         | .commonDoor _ ws =>
           let inside := ws.any fun w => inWindow w.start w.stop (minuteOfDay t.supply.counter)
           if ws = [] ∨ inside = nd.inside then nd
           else match nd.mode with
             | .normal => if inside then { nd with inside := true, mode := .passage, modePending := true }
               else { nd with inside := false }
             | .passage => if inside then { nd with inside := true }
               else { nd with
                 inside := false, mode := .normal, modePending := true
                 heldOpen := if nd.door = .opened then
                   some { expiry := t.supply.elapsed + nd.heldOpenLimit * 32768, limit := nd.heldOpenLimit } else nd.heldOpen }
             | .released .secured => { nd with inside := inside }
             | .released _ => { nd with inside := inside, mode := .released (if inside then .passage else .normal) }
             | .secured => { nd with inside := inside }
         | _ => nd)))

/-- The main supply. Its loss in RUN empties the Presentation Queue, the Verdict Queues and the marks, takes every node out of
service and records the time of loss; the ports, the keys, the Charge Queue, modes, latches, levels, peer notices and pending causes
stand. The sessions end as ABANDONED, with what that does to their rooms and folios; every room with a door node has its door
UNKNOWN. A program in flight and the programming of an emergency slot complete; the hold and release marks that wait are discarded
with the holds pending, and an erase is abandoned, which leaves its segment DIRTY. Its return in RETAIN is a warm restart: ports IDLE with the mark WARM, lines RUNNING or still STOPPED, configured nodes
UNPOLLED, every guard set, a commit due for waiting records, every last sent absent, a FULL sweep requested, the blink generator
started again in its mode, and POWER_RETURN recorded with the whole
minutes in RETAIN and raised; levels, peer notices and pending causes stand. A change of the backup cell changes its condition, and
in RETAIN a failed cell loses the retention domain; a loss with a LOW cell loses it at once. The return of a part that has lost it
is a cold start (log entry 18). The records of the sessions come before POWER_LOSS, whose detail is the number of presentations
discarded. (That a cell that fails in RUN reads LOW and a lost domain is the power state LOST is the model's choice, log entry 19,
the order of the blocks log entry 15, the clearing of every mark log entry 20.) -/
def Obligations.MainSupply : Prop :=
  ∀ s : State,
    (s.inRun = true → ∃ t : State, exec .mainSupplyLost s = .next t ∧
      t.verdict = { s.verdict with queue := [] } ∧ t.charge.sessions = [] ∧ t.charge.queue = s.charge.queue ∧
      t.keys = s.keys ∧ t.ports = s.ports ∧
      (∀ p : Port, t.att p = { s.att p with pending := (t.att p).pending } ∧
        ∀ c : Cause, s.isPending p c = true → t.isPending p c = true) ∧ t.supply = { s.supply with
        power := if s.supply.cell = .low then .lost else .retain
        lastLoss := some s.now, lossElapsed := s.supply.elapsed } ∧
      (∀ l : LineIx, t.line l = { s.line l with exchange := none, verdicts := [], busy := none }) ∧
      (∀ n : NodeAddr, t.node n = { s.node n with
        modePending := false, lampPending := false, grant := none, heldOpen := none, door := .unknown }) ∧
      t.lamps = { s.lamps with
        entries := t.lamps.entries, sweep := .idle, outstanding := [], pendingStart := none, clearing := none, toggleAt := none
        phaseOn := true } ∧
      (s.emergency.programming = none → t.emergency = s.emergency) ∧
      (∀ x, s.emergency.programming = some x → t.emergency.programming = none ∧
        tget t.emergency.slots x.slot = .written x.card x.zones ∧
        ∀ i : Fin 4, i ≠ x.slot → tget t.emergency.slots i = tget s.emergency.slots i) ∧
      ∃ u : State, u.charge = s.charge ∧ u.journal = s.journal ∧ u.supply = { s.supply with power := .retain } ∧
        (∀ r : RoomIx, u.room r =
          if (s.room r).doorNode.isSome then { s.room r with door := .unknown } else s.room r) ∧
        (∀ r : RoomIx, u.lamp r = match (s.room r).doorNode with
          | some n => if (s.node n).door = .unknown then s.lamp r
            else { s.lamp r with primary := { (s.lamp r).primary with alarm := (s.node n).latch } }
          | none => s.lamp r) ∧
        (let left := abandonSessions (fun _ => true) u
         let working : State := { left with supply := s.supply }
         t.charge = left.charge ∧ t.rooms = left.rooms ∧ (∀ r : RoomIx, t.lamp r = left.lamp r) ∧
         ∃ (v : State) (j : Journal),
          (match s.journal.program with
            | none => v = working
            | some (.block _ _ _) => exec .blockProgramComplete working = .next v
            | some (.firstMark _ _) => exec .firstSequenceMarkProgrammed working = .next v
            | some (.holdMark _) => exec .holdMarkProgrammed working = .next v
            | some (.releaseMark _) => exec .releaseMarkProgrammed working = .next v) ∧
          (∀ k : SegIx, tget j.segments k = { v.segment k with holdPending := false }) ∧
          j = { v.journal with
            segments := j.segments, erase := none, flush := none, flushAt := none, commitDue := false
            marks := v.journal.marks.filter fun c => match c with | .first _ _ => true | _ => false } ∧
          t.journal = (offer
            { kind := .powerLoss, cls := .notice, time := s.now, detail := BitVec.ofNat 16 s.verdict.queue.length }
            { left with journal := j }).journal)) ∧
    (s.supply.power = .lost → exec .mainSupplyReturn s = exec .coldStart s) ∧
    (s.supply.power = .retain → ∃ t : State, exec .mainSupplyReturn s = .next t ∧ t.inRun = true ∧
      (∀ p : Port, t.port p = { s.port p with phase := .idle, result := none, refusal := false, restart := .warm }) ∧
      (∀ l : LineIx, t.line l = { s.line l with
        silent := 0, rotation := 0, missedTotal := 0, badTotal := 0
        state := if (s.line l).state = .stopped then .stopped else .running }) ∧
      (∀ n : NodeAddr, t.node n = { s.node n with
        link := if (s.node n).config.configured then .unpolled else (s.node n).link
        missed := if (s.node n).config.configured then 0 else (s.node n).missed
        modePending := (s.node n).modePending && decide ((s.line n.line).state = .stopped)
        lampPending := (s.node n).lampPending && decide ((s.line n.line).state = .stopped)
        grant := none, heldOpen := none, door := .unknown }) ∧
      (∀ r : RoomIx, t.room r = if (s.room r).doorNode.isSome then { s.room r with door := .unknown } else s.room r) ∧
      (∀ p : Port, t.att p = { s.att p with pending := (t.att p).pending } ∧
        ∀ c : Cause, s.isPending p c = true → t.isPending p c = true) ∧
      (∃ u : State, (∀ k : SegIx, u.segment k = { s.segment k with guard := true }) ∧
        u.journal = { s.journal with segments := u.journal.segments, commitDue := decide (0 < s.journal.waiting) } ∧
        u.supply = { s.supply with power := .run } ∧ t.journal = (offer
          { kind := .powerReturn, cls := .notice, time := s.now,
            detail := BitVec.ofNat 16 (min ((s.supply.elapsed - s.supply.lossElapsed) / (60 * 32768)) 65534) } u).journal) ∧
      (∀ r : RoomIx, (t.lamp r).lastSent = none ∧
        ((∀ n, (s.room r).doorNode = some n → (s.node n).door = .unknown) → (t.lamp r).primary = (s.lamp r).primary)) ∧
      t.lamps = { s.lamps with
        entries := t.lamps.entries, phaseOn := true
        toggleAt := if s.lamps.mode = BlinkMode.steady then none else some (s.supply.elapsed + s.lamps.multiplier * 8192)
        sweep := if s.lamps.sweep = .idle then .marking .full 0 else s.lamps.sweep
        pendingStart := if s.lamps.sweep = .idle then s.lamps.pendingStart else some .full } ∧
      t.isPending .service .powerReturn = true ∧ t.keys = s.keys ∧ t.charge = s.charge ∧ t.verdict = s.verdict ∧
      t.emergency = s.emergency ∧
      t.supply = { s.supply with
        power := .run, lastReturn := some s.now, lastStart := .warm, warmRestarts := min (s.supply.warmRestarts + 1) 65535 }) ∧
    (s.inRun = true → ∀ c : CellChange, exec (.backupCellChange c) s = .next
      { s with supply := { s.supply with cell := if c = .good then .good else .low } }) ∧
    (s.supply.power = .retain → ∃ t : State, exec (.backupCellChange .failed) s = .next t ∧ t.supply.power = .lost)

/-- A cold start: every table at its initial contents, the Journal Array's slots and the emergency slots kept, the guards set, one
POWER_RETURN record with detail FFFFh staged, TABLES_LOST and CLOCK_UNSET pending on the Service port, JOURNAL_JAM as well where no
segment is FILLING, and no other cause of any port.
The rebuild of the directory (R160), of an array with no program in flight. A segment with a slot that cannot be read, or whose erase
was interrupted, is DIRTY; one with no record and a blank first-sequence slot is BLANK; every other is FULL with its lowest and highest
sequence. The hold states are those of the marks. The segment of the highest sequence goes on FILLING after its last programmed block,
or, where that is block 63, is FULL and the next BLANK segment in ring order fills; without a record the first BLANK segment from
segment 0 fills. The first sequence of the restart is one above the highest, or 0, and the cursor stands on the lowest. A segment whose
block program was in flight is DIRTY. (That a COLD_START event in a part in RUN is the power-up after a loss that the hold-up did not
cover is the model's choice, log entry 18; what is then left of a program or of an emergency slot's programming in flight is a free
value, log entry 40, and so are the marks of an erase cut short, log entry 13.) -/
def Obligations.ColdStart : Prop :=
  ∀ s : State, ∃ t : State, exec .coldStart s = .next t ∧ t.rooms = State.reset.rooms ∧ t.keys = State.reset.keys ∧
    t.verdict = State.reset.verdict ∧ t.nodes = State.reset.nodes ∧ t.lines = State.reset.lines ∧
    t.charge = State.reset.charge ∧ t.lamps = State.reset.lamps ∧ t.supply.power = .run ∧ t.supply.lastStart = .cold ∧
    t.supply.clockRunning = false ∧ t.supply.counter = 0 ∧ t.supply.warmRestarts = 0 ∧ t.supply.lastLoss = none ∧
    t.supply.lastReturn = none ∧ (∀ p : Port, (t.port p).phase = .idle ∧ (t.port p).result = none ∧ (t.port p).tag = 0 ∧
      (t.port p).refusal = false ∧ (t.port p).restart = .cold) ∧
    (∀ p : Port, (t.att p).levels = defaultLevels p ∧ (t.att p).noticeValue = 0 ∧ (t.att p).noticeSender = none ∧
      (t.att p).noticeReplaced = false) ∧
    (∀ (p : Port) (c : Cause), t.isPending p c = true ↔ p = .service ∧ (c = .tablesLost ∨ c = .clockUnset ∨
      (c = .journalJam ∧ ∀ (k : SegIx) (b : Nat), (t.segment k).state ≠ .filling b))) ∧
    (∃ r : Record, t.journal.staged = [r] ∧ r.kind = .powerReturn ∧ r.cls = .notice ∧ r.time = none ∧ r.detail = 0xFFFF ∧
      t.journal.nextSeq = r.seq + 1) ∧
    (∀ k : SegIx, (t.segment k).guard = true ∧ (t.segment k).holdPending = false) ∧
    t.journal.collected = none ∧ t.journal.overrun = 0 ∧ t.journal.droppedRoutine = 0 ∧ t.journal.droppedPriority = 0 ∧
    t.journal.noticeArmed = true ∧ t.journal.cursorLost = false ∧ t.journal.marks = [] ∧ t.journal.flush = none ∧
    t.journal.program = none ∧ t.journal.erase = none ∧ t.journal.flushAt = some (s.supply.elapsed + 65536) ∧
    (s.emergency.programming = none → t.emergency = s.emergency) ∧
    ((∀ k b m, s.journal.program ≠ some (.block k b m)) →
      ∀ (k : SegIx) (i : Fin 512), (t.segment k).slots.get i.val = (s.segment k).slots.get i.val) ∧
    (∀ k : SegIx, (s.segment k).interrupted = true ∨ (∃ i : Fin 512, ((s.segment k).slots.get i.val).reading = .unreadable) →
      (t.segment k).state = .dirty) ∧
    (∀ k b m, s.journal.program = some (.block k b m) → (t.segment k).state = .dirty ∧
      ∀ (g : SegIx) (i : Fin 512), 8 * b + m ≤ 512 → g ≠ k ∨ i.val < 8 * b ∨ 8 * b + m ≤ i.val →
        (t.segment g).slots.get i.val = (s.segment g).slots.get i.val) ∧
    (s.journal.program = none →
      let good (k : SegIx) : Prop := (s.segment k).interrupted = false ∧
        ∀ i : Fin 512, ((s.segment k).slots.get i.val).reading ≠ .unreadable
      let holds (k : SegIx) (r : Record) : Prop := good k ∧ ∃ i : Fin 512, (s.segment k).slots.get i.val = .written r
      let empty (k : SegIx) : Prop := good k ∧ (s.segment k).headerFirst = none ∧ ∀ r, ¬ holds k r
      let plain (k : SegIx) : Prop := (empty k → (t.segment k).state = .blank) ∧
        (good k → ¬ empty k → (t.segment k).state = .full)
      (∀ k : SegIx, (∀ r, ¬ holds k r) → (t.segment k).first = none ∧ (t.segment k).last = none) ∧
      (∀ k : SegIx, (s.segment k).interrupted = false ∨ (s.segment k).holdMark = false ∨ (s.segment k).releaseMark = false →
        (t.segment k).hold =
          if (s.segment k).holdMark then (if (s.segment k).releaseMark then .released else .held) else .none) ∧
      (∀ (k : SegIx) (c : Seq), (∀ r, holds k r → (r.seq - c).toNat < 2147483648) → ∀ r, holds k r →
        ((∀ q, holds k q → seqBelow q.seq r.seq = false) → (t.segment k).first = some r.seq) ∧
        ((∀ q, holds k q → seqBelow r.seq q.seq = false) → (t.segment k).last = some r.seq)) ∧
      ((∀ k r, ¬ holds k r) → t.journal.nextSeq = 1 ∧ t.journal.cursor = 0 ∧
        ((∀ k, ¬ empty k) → ∀ k, plain k) ∧
        ∀ k : SegIx, empty k → (∀ j : SegIx, j < k → ¬ empty j) →
          (t.segment k).state = .filling 0 ∧ ∀ j : SegIx, j ≠ k → plain j) ∧
      ∀ (c : Seq), (∀ k r, holds k r → (r.seq - c).toNat < 2147483648) →
        (∀ k r, holds k r → (∀ j q, holds j q → seqBelow q.seq r.seq = false) → t.journal.cursor = r.seq) ∧
        ∀ (k : SegIx) (r : Record), holds k r → (∀ j q, holds j q → seqBelow r.seq q.seq = false) →
          (∀ j q, holds j q → q.seq = r.seq → j = k) →
          t.journal.nextSeq = r.seq + 2 ∧
          ∀ b : Fin 64, (∃ (i : Fin 8) (q : Record), (s.segment k).slots.get (8 * b.val + i.val) = .written q) →
            (∀ (d : Fin 64) (i : Fin 8) (q : Record), b < d → (s.segment k).slots.get (8 * d.val + i.val) ≠ .written q) →
            (b.val < 63 → (t.segment k).state = .filling (b.val + 1) ∧ ∀ j : SegIx, j ≠ k → plain j) ∧
            (b.val = 63 → (t.segment k).state = .full ∧ ((∀ j, ¬ empty j) → ∀ j, plain j) ∧
              ∀ d : SegIx, empty (k + d) → (∀ e : SegIx, 0 < e → e < d → ¬ empty (k + e)) →
                (t.segment (k + d)).state = .filling 0 ∧ ∀ j : SegIx, j ≠ k + d → plain j))

/-- The Emergency Key Store. WRITE EMERGENCY KEY of a BLANK slot begins its programming and leaves the port WORKING; the slot still
reads BLANK until programming ends, when it is WRITTEN and the command is answered OK. FREEZE EMERGENCY KEY takes a WRITTEN slot to
FROZEN. A used slot is SLOT_USED, and a slot that is not WRITTEN is STATE to a freeze. -/
def Obligations.EmergencyKeys : Prop :=
  ∀ (k : Fin 4) (card : CardId) (zones : Set16) (more : List Byte) (s : State), zones ≠ 0 →
    (s.takes .service →
      exec (.writeEmergencyKey .service (u8 k.val ++ u64 card ++ u16 zones.toNat ++ more)) s = .next
        (if tget s.emergency.slots k = .blank then
          { s.begun .service .writeEmergencyKey with emergency := { s.emergency with
              programming := some { slot := k, card := card, zones := zones } } }
         else s.refused .service .writeEmergencyKey .slotUsed) ∧
      exec (.freezeEmergencyKey .service (u8 k.val ++ more)) s = .next
        (match tget s.emergency.slots k with
         | .written c z => { s with emergency := { s.emergency with
             slots := tset s.emergency.slots k (.frozen c z) } }.done .service .freezeEmergencyKey []
         | _ => s.refused .service .freezeEmergencyKey .state)) ∧
    (s.inRun = true → s.emergency.programming = some { slot := k, card := card, zones := zones } →
      (s.port .service).phase = .working .writeEmergencyKey → ∃ t : State, exec .emergencyProgrammingDone s = .next t ∧
      t.emergency = { slots := tset s.emergency.slots k (.written card zones), programming := none } ∧
      t = { s with emergency := t.emergency, ports := t.ports, attn := t.attn } ∧ (t.port .service).phase = .done ∧
      (t.port .service).result = some ⟨some 0x7A, .ok, []⟩ ∧ t.isPending .service .commandDone = true)

/-! ### Invariants -/

/-- The state after reset has every invariant. -/
def Obligations.ResetInvariants : Prop := State.reset.bounded ∧ State.reset.pairedWell ∧ State.reset.portsKept

/-- Every step keeps the bounds of the queues and tables. -/
def Obligations.BoundsKept : Prop := ∀ s t : State, s.bounded → step s = .next t → t.bounded

/-- Every step keeps the pairing of rooms symmetric. -/
def Obligations.PairingKept : Prop := ∀ s t : State, s.pairedWell → step s = .next t → t.pairedWell

/-- Every step keeps a WORKING port's result record empty and a DONE port's filled. -/
def Obligations.PortsKept : Prop := ∀ s t : State, s.portsKept → step s = .next t → t.portsKept
end

