-- ==== Sys2Proof/Laws/Operands.lean ====
section
/-! SUPPORT. What the field parsers read from the bytes that the field writers make (12.1). -/

namespace Sys2Proof.Machine

variable (more : List Byte)

theorem u16_value {n : Nat} (h : n < 65536) : n / 256 % 256 * 256 + n % 256 = n := by omega

/-- A two-byte field reads back the number written. -/
theorem u16At_u16 {n : Nat} (h : n < 65536) (before : List Byte) (k : Nat) (hk : before.length = k) :
    u16At (before ++ (u16 n ++ more)) k = n := by
  subst hk
  simp [u16At, u8At, byteAt, u16, List.getD_eq_getElem?_getD]
  omega

theorem u16At_head {n : Nat} (h : n < 65536) : u16At (u16 n ++ more) 0 = n := u16At_u16 more h [] 0 rfl

/-- A room index reads back. -/
theorem roomAt_u16 (r : RoomIx) (before : List Byte) (k : Nat) (hk : before.length = k) :
    roomAt (before ++ (u16 r.val ++ more)) k = some r := by
  unfold roomAt
  rw [u16At_u16 more (by omega) before k hk]
  exact (by simp [toFin?] : toFin? 512 r.val = some r)

@[simp] theorem roomAt_head (r : RoomIx) : roomAt (u16 r.val ++ more) 0 = some r := roomAt_u16 more r [] 0 rfl

@[simp] theorem parseRoom_u16 (r : RoomIx) : parseRoom (u16 r.val ++ more) = some r := roomAt_head more r

/-- A room index above 511 reads as none. -/
theorem roomAt_out {n : Nat} (h : n < 65536) (h' : 512 ≤ n) : roomAt (u16 n ++ more) 0 = none := by
  unfold roomAt
  rw [u16At_head more h]
  simp [toFin?]
  omega

/-- A node address reads back. -/
theorem nodeAt_uNode (n : NodeAddr) (before : List Byte) (k : Nat) (hk : before.length = k) :
    nodeAt (before ++ (uNode n ++ more)) k = some n := by
  subst hk
  obtain ⟨l, a⟩ := n
  have hl : l.val % 256 = l.val := Nat.mod_eq_of_lt (by omega)
  have ha : a.val % 256 = a.val := Nat.mod_eq_of_lt (by omega)
  simp [nodeAt, u8At, byteAt, uNode, List.getD_eq_getElem?_getD, toFin?, hl, ha]

@[simp] theorem nodeAt_head (n : NodeAddr) : nodeAt (uNode n ++ more) 0 = some n := nodeAt_uNode more n [] 0 rfl

@[simp] theorem parseNode_uNode (n : NodeAddr) : parseNode (uNode n ++ more) = some n := nodeAt_head more n

/-- A one-byte number reads back. -/
theorem u8At_u8 {n : Nat} (h : n < 256) (before : List Byte) (k : Nat) (hk : before.length = k) :
    u8At (before ++ (u8 n ++ more)) k = n := by
  subst hk
  simp [u8At, byteAt, u8, List.getD_eq_getElem?_getD]
  omega

theorem u8At_head {n : Nat} (h : n < 256) : u8At (u8 n ++ more) 0 = n := u8At_u8 more h [] 0 rfl

@[simp] theorem parseLine_u8 (l : LineIx) : parseLine (u8 l.val ++ more) = some l := by
  unfold parseLine
  rw [u8At_head more (by omega)]
  simp [toFin?]

@[simp] theorem parseSegment_u8 (k : SegIx) : parseSegment (u8 k.val ++ more) = some k := parseLine_u8 more k

@[simp] theorem parseProfileNumber_u8 (k : Fin 16) : parseProfileNumber (u8 k.val ++ more) = some k := parseLine_u8 more k

@[simp] theorem parseClass_u8 (k : Fin 4) : parseClass (u8 k.val ++ more) = some k := by
  unfold parseClass
  rw [u8At_head more (by omega)]
  simp [toFin?]

@[simp] theorem parseSlot_u8 (k : Fin 4) : parseSlot (u8 k.val ++ more) = some k := parseClass_u8 more k

@[simp] theorem parseFolio_u8 (f : FolioIx) : parseFolio (u8 f.val ++ more) = some f := by
  unfold parseFolio folioAt
  congr 1
  apply Fin.ext
  have : f.val < 256 := f.isLt
  simp [byteAt, u8]

/-- A count in its bounds reads back. -/
theorem countAt_u8 {low high n : Nat} (h : low ≤ n) (h' : n ≤ high) (hh : high < 256) :
    countAt low high (u8 n ++ more) 0 = some n := by
  unfold countAt
  rw [u8At_head more (by omega), if_pos ⟨h, h'⟩]

/-- Four bytes joined again are the word they were cut from. -/
theorem word_of_bytes (w : BitVec 32) :
    (w.extractLsb' 24 8 ++ w.extractLsb' 16 8 ++ w.extractLsb' 8 8 ++ w.extractLsb' 0 8 : BitVec 32) = w := by
  apply BitVec.eq_of_getLsbD_eq
  intro i hi
  simp only [BitVec.getLsbD_append, BitVec.getLsbD_extractLsb']
  split
  · simp [*]
  · split
    · have : i - 8 < 8 := by omega
      simp only [this, decide_true, Bool.true_and]; congr 1; omega
    · split
      · have : i - 8 - 8 < 8 := by omega
        simp only [this, decide_true, Bool.true_and]; congr 1; omega
      · have : i - 8 - 8 - 8 < 8 := by omega
        simp only [this, decide_true, Bool.true_and]; congr 1; omega

/-- Two words joined again are the identity they were cut from. -/
theorem card_of_words (c : CardId) : (c.extractLsb' 32 32 ++ c.extractLsb' 0 32 : BitVec 64) = c := by
  apply BitVec.eq_of_getLsbD_eq
  intro i hi
  simp only [BitVec.getLsbD_append, BitVec.getLsbD_extractLsb']
  split
  · simp [*]
  · have : i - 32 < 32 := by omega
    simp only [this, decide_true, Bool.true_and]; congr 1; omega

/-- A 32-bit field reads back. -/
theorem u32At_u32 (w : BitVec 32) (before : List Byte) (k : Nat) (hk : before.length = k) :
    u32At (before ++ (u32 w ++ more)) k = w := by
  subst hk
  rw [← word_of_bytes w]
  simp [u32At, byteAt, u32, List.getD_eq_getElem?_getD, word_of_bytes]

@[simp] theorem parseWord_u32 (w : BitVec 32) : parseWord (u32 w ++ more) = some w :=
  congrArg some (u32At_u32 more w [] 0 rfl)

/-- A card identity reads back. -/
theorem cardAt_u64 (c : CardId) (before : List Byte) (k : Nat) (hk : before.length = k) :
    cardAt (before ++ (u64 c ++ more)) k = c := by
  subst hk
  unfold cardAt u64
  rw [List.append_assoc, u32At_u32 _ _ before _ rfl, ← List.append_assoc before,
    u32At_u32 _ _ (before ++ u32 (c.extractLsb' 32 32)) _ (by simp [u32]), card_of_words]

@[simp] theorem parseCard_u64 (c : CardId) : parseCard (u64 c ++ more) = some c :=
  congrArg some (cardAt_u64 more c [] 0 rfl)

/-- A two-byte word reads back. -/
theorem word16At_u16 (w : BitVec 16) (before : List Byte) (k : Nat) (hk : before.length = k) :
    word16At (before ++ (u16 w.toNat ++ more)) k = w := by
  subst hk
  have h : word16At (before ++ (u16 w.toNat ++ more)) before.length
      = BitVec.ofNat 8 (w.toNat / 256) ++ BitVec.ofNat 8 w.toNat := by
    simp [word16At, byteAt, u16, List.getD_eq_getElem?_getD]
  rw [h]
  apply BitVec.eq_of_toNat_eq
  have : w.toNat < 65536 := w.isLt
  rw [BitVec.toNat_append]
  simp only [BitVec.toNat_ofNat]
  rw [← Nat.shiftLeft_add_eq_or_of_lt (by omega), Nat.shiftLeft_eq]
  omega

/-- A flag reads back. -/
theorem flagAt_uFlag (b : Bool) (before : List Byte) (k : Nat) (hk : before.length = k) :
    flagAt (before ++ (uFlag b ++ more)) k = some b := by
  subst hk
  cases b <;> simp [flagAt, byteAt, uFlag, u8, List.getD_eq_getElem?_getD]

/-- A set that is not empty reads back. -/
theorem parseSet_u16 (w : Set16) (h : w ≠ 0) : parseSet (u16 w.toNat ++ more) = some w := by
  have e : word16At (u16 w.toNat ++ more) 0 = w := word16At_u16 more w [] 0 rfl
  unfold parseSet
  rw [e, if_neg h]

end Sys2Proof.Machine
end

