-- ==== Sys2Proof/Laws/Table.lean ====
section
/-! SUPPORT. What reading a table gives after it is written, filled or mapped. -/

namespace Sys2Proof.Machine

variable {α β : Type}

@[simp] theorem Table.get_replicate (x : α) : ∀ (d i : Nat), (Table.replicate x d).get i = x
  | 0, _ => rfl
  | d + 1, i => by
    unfold Table.replicate Table.get
    split <;> exact Table.get_replicate x d _

theorem Table.get_set_same : ∀ {d : Nat} (v : Table α d) (i : Nat) (x : α), (v.set i x).get i = x
  | _, .leaf _, _, _ => rfl
  | d + 1, .node lo hi, i, x => by
    unfold Table.set
    split
    · rename_i h; simp only [Table.get, h, if_true]; exact Table.get_set_same lo i x
    · rename_i h; simp only [Table.get, h, if_false]; exact Table.get_set_same hi _ x

theorem Table.get_set_ne : ∀ {d : Nat} (v : Table α d) (i j : Nat) (x : α), i < 2 ^ d → j < 2 ^ d → i ≠ j →
    (v.set i x).get j = v.get j
  | 0, .leaf _, i, j, _, hi, hj, h => absurd (by omega) h
  | d + 1, .node lo hi, i, j, x, hi', hj', h => by
    have e : 2 ^ (d + 1) = 2 ^ d + 2 ^ d := by rw [pow_succ]; omega
    unfold Table.set
    by_cases a : i < 2 ^ d <;> by_cases b : j < 2 ^ d <;> simp only [Table.get, a, b, if_true, if_false]
    · exact Table.get_set_ne lo i j x a b h
    · exact Table.get_set_ne hi _ _ x (by omega) (by omega) (by omega)

theorem Table.get_mapFrom (f : Nat → α → β) : ∀ {d : Nat} (v : Table α d) (base i : Nat), i < 2 ^ d →
    (v.mapFrom f base).get i = f (base + i) (v.get i)
  | 0, .leaf x, base, i, h => by
    have : i = 0 := by omega
    subst this
    rfl
  | d + 1, .node lo hi, base, i, h => by
    have e : 2 ^ (d + 1) = 2 ^ d + 2 ^ d := by rw [pow_succ]; omega
    unfold Table.mapFrom
    by_cases a : i < 2 ^ d <;> simp only [Table.get, a, if_true, if_false]
    · exact Table.get_mapFrom f lo base i a
    · rw [Table.get_mapFrom f hi _ _ (by omega)]
      congr 1
      omega

/-- What a search finds meets the test, at an index of the table. -/
theorem Table.findFrom_some (p : α → Bool) : ∀ {d : Nat} (v : Table α d) (base k : Nat), v.findFrom p base = some k →
    base ≤ k ∧ k < base + 2 ^ d ∧ p (v.get (k - base)) = true
  | 0, .leaf x, base, k, h => by
    unfold Table.findFrom at h
    split at h
    · rename_i hx
      have : base = k := by simpa using h
      subst this
      exact ⟨Nat.le_refl _, by simp, hx⟩
    · cases h
  | d + 1, .node lo hi, base, k, h => by
    have e : 2 ^ (d + 1) = 2 ^ d + 2 ^ d := by rw [pow_succ]; omega
    unfold Table.findFrom at h
    cases hl : lo.findFrom p base with
    | some j =>
      rw [hl] at h
      have : j = k := by simpa using h
      subst this
      obtain ⟨a, b, c⟩ := Table.findFrom_some p lo base j hl
      have : j - base < 2 ^ d := by omega
      refine ⟨a, by omega, ?_⟩
      simp only [Table.get, this, if_true, c]
    | none =>
      rw [hl] at h
      obtain ⟨a, b, c⟩ := Table.findFrom_some p hi _ k (by simpa using h)
      have n : ¬ k - base < 2 ^ d := by omega
      simp only [Table.get, n, if_false]
      refine ⟨by omega, by omega, ?_⟩
      rw [show k - base - 2 ^ d = k - (base + 2 ^ d) by omega]
      exact c

/-- A search that finds nothing meets no record that passes the test. -/
theorem Table.findFrom_none (p : α → Bool) : ∀ {d : Nat} (v : Table α d) (base i : Nat), v.findFrom p base = none →
    i < 2 ^ d → p (v.get i) = false
  | 0, .leaf x, base, i, h, _ => by
    unfold Table.findFrom at h
    split at h
    · cases h
    · rename_i hx; simpa [Table.get] using hx
  | d + 1, .node lo hi, base, i, h, hi' => by
    have e : 2 ^ (d + 1) = 2 ^ d + 2 ^ d := by rw [pow_succ]; omega
    unfold Table.findFrom at h
    cases hl : lo.findFrom p base with
    | some j => rw [hl] at h; cases h
    | none =>
      rw [hl] at h
      by_cases a : i < 2 ^ d <;> simp only [Table.get, a, if_true, if_false]
      · exact Table.findFrom_none p lo base i hl a
      · exact Table.findFrom_none p hi _ _ (by simpa using h) (by omega)

/-! ### The same over fixed index ranges -/

@[simp] theorem tget_replicate {n : Nat} (x : α) (d : Nat) (i : Fin n) : tget (Table.replicate x d) i = x :=
  Table.get_replicate x d i.val

@[simp] theorem tget_tset_same {d n : Nat} (v : Table α d) (i : Fin n) (x : α) : tget (tset v i x) i = x :=
  Table.get_set_same v i.val x

theorem tget_tset_ne {d n : Nat} (hn : n ≤ 2 ^ d) (v : Table α d) (i j : Fin n) (x : α) (h : i ≠ j) :
    tget (tset v i x) j = tget v j :=
  Table.get_set_ne v i.val j.val x (lt_of_lt_of_le i.isLt hn) (lt_of_lt_of_le j.isLt hn) (fun e => h (Fin.ext e))

@[simp] theorem tget_tmod_same {d n : Nat} (v : Table α d) (i : Fin n) (f : α → α) : tget (tmod v i f) i = f (tget v i) :=
  tget_tset_same v i _

theorem tget_tmod_ne {d n : Nat} (hn : n ≤ 2 ^ d) (v : Table α d) (i j : Fin n) (f : α → α) (h : i ≠ j) :
    tget (tmod v i f) j = tget v j :=
  tget_tset_ne hn v i j _ h

theorem tget_tmap {d n : Nat} [NeZero n] (hn : n ≤ 2 ^ d) (v : Table α d) (f : Fin n → α → β) (i : Fin n) :
    tget (tmap n v f) i = f i (tget v i) := by
  unfold tget tmap
  rw [Table.get_mapFrom _ _ _ _ (lt_of_lt_of_le i.isLt hn)]
  congr 1
  apply Fin.ext
  simp [Fin.ofNat, Nat.mod_eq_of_lt i.isLt]

theorem toFin?_val {n : Nat} (i : Fin n) : toFin? n i.val = some i := by simp [toFin?]

theorem toFin?_some {n k : Nat} {i : Fin n} (h : toFin? n k = some i) : i.val = k := by
  unfold toFin? at h
  split at h
  · cases h; rfl
  · cases h

theorem tfind_some {d n : Nat} {v : Table α d} {p : α → Bool} {i : Fin n} (h : tfind n v p = some i) : p (tget v i) = true := by
  unfold tfind at h
  obtain ⟨k, hk, e⟩ := Option.bind_eq_some_iff.mp h
  obtain ⟨_, _, c⟩ := Table.findFrom_some p v 0 k hk
  rw [← toFin?_some e] at c
  simpa [tget] using c

theorem tfind_none {d n : Nat} (hn : n = 2 ^ d) {v : Table α d} {p : α → Bool} (h : tfind n v p = none) (i : Fin n) :
    p (tget v i) = false := by
  unfold tfind at h
  cases hk : v.findFrom p 0 with
  | none => exact Table.findFrom_none p v 0 i.val hk (hn ▸ i.isLt)
  | some k =>
    obtain ⟨_, b, _⟩ := Table.findFrom_some p v 0 k hk
    rw [hk] at h
    simp only [Option.bind_some] at h
    have : k < n := by omega
    simp [toFin?, this] at h

/-! ### Writing a record twice, or as it stands -/

theorem Table.set_set : ∀ {d : Nat} (v : Table α d) (i : Nat) (x y : α), (v.set i x).set i y = v.set i y
  | _, .leaf _, _, _, _ => rfl
  | d + 1, .node lo hi, i, x, y => by
    by_cases h : i < 2 ^ d <;> simp only [Table.set, h, if_true, if_false]
    · rw [Table.set_set lo i x y]
    · rw [Table.set_set hi _ x y]

theorem Table.set_get : ∀ {d : Nat} (v : Table α d) (i : Nat), v.set i (v.get i) = v
  | _, .leaf _, _ => rfl
  | d + 1, .node lo hi, i => by
    by_cases h : i < 2 ^ d <;> simp only [Table.set, Table.get, h, if_true, if_false]
    · rw [Table.set_get lo i]
    · rw [Table.set_get hi _]

@[simp] theorem tset_tset {d n : Nat} (v : Table α d) (i : Fin n) (x y : α) : tset (tset v i x) i y = tset v i y :=
  Table.set_set v i.val x y

@[simp] theorem tset_tget {d n : Nat} (v : Table α d) (i : Fin n) : tset v i (tget v i) = v := Table.set_get v i.val

/-- Two changes of one record are one change. -/
@[simp] theorem tmod_tmod {d n : Nat} (v : Table α d) (i : Fin n) (f g : α → α) :
    tmod (tmod v i f) i g = tmod v i fun x => g (f x) := by
  unfold tmod
  rw [tget_tset_same, tset_tset]

/-- A change that leaves the record as it stands leaves the table. -/
theorem tmod_id {d n : Nat} (v : Table α d) (i : Fin n) (f : α → α) (h : f (tget v i) = tget v i) : tmod v i f = v := by
  unfold tmod
  rw [h, tset_tget]

/-- Two changes that give one value give one table. -/
theorem tmod_congr {d n : Nat} (v : Table α d) (i : Fin n) (f g : α → α) (h : f (tget v i) = g (tget v i)) :
    tmod v i f = tmod v i g := by
  unfold tmod
  rw [h]

end Sys2Proof.Machine
end

