-- ==== Sys2Proof/Laws/State.lean ====
section
/-! SUPPORT. One lemma for each field and each update of State: what the update leaves as it stands, and what an accessor reads
after it. -/

namespace Sys2Proof.Machine

/-! ### What an accessor reads after an update -/

@[simp] theorem room_modRoom_same (s : State) (r : RoomIx) (f : Room → Room) : (s.modRoom r f).room r = f (s.room r) :=
  tget_tmod_same ..

theorem room_modRoom_ne (s : State) {r q : RoomIx} (f : Room → Room) (h : r ≠ q) : (s.modRoom r f).room q = s.room q :=
  tget_tmod_ne (by decide) _ _ _ _ h

@[simp] theorem entry_setEntry_same (s : State) (k : KeyIx) (e : KeyEntry) : (s.setEntry k e).entry k = some e :=
  tget_tset_same ..

theorem entry_setEntry_ne (s : State) {k j : KeyIx} (e : KeyEntry) (h : k ≠ j) : (s.setEntry k e).entry j = s.entry j :=
  tget_tset_ne (by decide) _ _ _ _ h

@[simp] theorem node_modNode_same (s : State) (n : NodeAddr) (f : Node → Node) : (s.modNode n f).node n = f (s.node n) := by
  simp [State.node, State.modNode]

theorem node_modNode_ne (s : State) {n m : NodeAddr} (f : Node → Node) (h : n ≠ m) : (s.modNode n f).node m = s.node m := by
  unfold State.node State.modNode
  by_cases e : n.line = m.line
  · have a : n.addr ≠ m.addr := fun c => h (by cases n; cases m; simp_all)
    simp only [e, tget_tmod_same]
    exact tget_tmod_ne (by decide) _ _ _ _ a
  · dsimp only
    rw [tget_tmod_ne (d := 4) (by decide) _ _ _ _ e]

@[simp] theorem line_modLine_same (s : State) (l : LineIx) (f : Line → Line) : (s.modLine l f).line l = f (s.line l) :=
  tget_tmod_same ..

theorem line_modLine_ne (s : State) {l m : LineIx} (f : Line → Line) (h : l ≠ m) : (s.modLine l f).line m = s.line m :=
  tget_tmod_ne (by decide) _ _ _ _ h

@[simp] theorem folio_modFolio_same (s : State) (k : FolioIx) (f : Folio → Folio) :
    (s.modFolio k f).folio k = f (s.folio k) := tget_tmod_same ..

theorem folio_modFolio_ne (s : State) {k j : FolioIx} (f : Folio → Folio) (h : k ≠ j) :
    (s.modFolio k f).folio j = s.folio j := tget_tmod_ne (by decide) _ _ _ _ h

@[simp] theorem lamp_modLamp_same (s : State) (r : RoomIx) (f : IndEntry → IndEntry) :
    (s.modLamp r f).lamp r = f (s.lamp r) := tget_tmod_same ..

theorem lamp_modLamp_ne (s : State) {r q : RoomIx} (f : IndEntry → IndEntry) (h : r ≠ q) :
    (s.modLamp r f).lamp q = s.lamp q := tget_tmod_ne (by decide) _ _ _ _ h

@[simp] theorem segment_modSegment_same (j : Journal) (g : SegIx) (f : Segment → Segment) :
    tget (j.modSegment g f).segments g = f (tget j.segments g) := tget_tmod_same ..

theorem segment_modSegment_ne (j : Journal) {g h : SegIx} (f : Segment → Segment) (e : g ≠ h) :
    tget (j.modSegment g f).segments h = tget j.segments h := tget_tmod_ne (by decide) _ _ _ _ e

@[simp] theorem get_mod_same {α : Type} (v : PerPort α) (p : Port) (f : α → α) : (v.mod p f).get p = f (v.get p) := by
  cases p <;> rfl

theorem get_mod_ne {α : Type} (v : PerPort α) {p q : Port} (f : α → α) (h : p ≠ q) : (v.mod p f).get q = v.get q := by
  cases p <;> cases q <;> first | rfl | exact absurd rfl h

@[simp] theorem port_modPort_same (s : State) (p : Port) (f : PortRec → PortRec) : (s.modPort p f).port p = f (s.port p) :=
  get_mod_same ..

theorem port_modPort_ne (s : State) {p q : Port} (f : PortRec → PortRec) (h : p ≠ q) : (s.modPort p f).port q = s.port q :=
  get_mod_ne _ _ h

@[simp] theorem att_modAttn_same (s : State) (p : Port) (f : Attn → Attn) : (s.modAttn p f).att p = f (s.att p) :=
  get_mod_same ..

theorem att_modAttn_ne (s : State) {p q : Port} (f : Attn → Attn) (h : p ≠ q) : (s.modAttn p f).att q = s.att q :=
  get_mod_ne _ _ h

/-! ### Field by field -/

/-! modPort changes ports only. -/

@[simp] theorem modPort_attn (s : State) (p : Port) (f : PortRec → PortRec) : (s.modPort p f).attn = s.attn := rfl
@[simp] theorem modPort_rooms (s : State) (p : Port) (f : PortRec → PortRec) : (s.modPort p f).rooms = s.rooms := rfl
@[simp] theorem modPort_keys (s : State) (p : Port) (f : PortRec → PortRec) : (s.modPort p f).keys = s.keys := rfl
@[simp] theorem modPort_verdict (s : State) (p : Port) (f : PortRec → PortRec) : (s.modPort p f).verdict = s.verdict := rfl
@[simp] theorem modPort_nodes (s : State) (p : Port) (f : PortRec → PortRec) : (s.modPort p f).nodes = s.nodes := rfl
@[simp] theorem modPort_lines (s : State) (p : Port) (f : PortRec → PortRec) : (s.modPort p f).lines = s.lines := rfl
@[simp] theorem modPort_charge (s : State) (p : Port) (f : PortRec → PortRec) : (s.modPort p f).charge = s.charge := rfl
@[simp] theorem modPort_journal (s : State) (p : Port) (f : PortRec → PortRec) : (s.modPort p f).journal = s.journal := rfl
@[simp] theorem modPort_lamps (s : State) (p : Port) (f : PortRec → PortRec) : (s.modPort p f).lamps = s.lamps := rfl
@[simp] theorem modPort_supply (s : State) (p : Port) (f : PortRec → PortRec) : (s.modPort p f).supply = s.supply := rfl
@[simp] theorem modPort_emergency (s : State) (p : Port) (f : PortRec → PortRec) : (s.modPort p f).emergency = s.emergency := rfl
@[simp] theorem modPort_pending (s : State) (p : Port) (f : PortRec → PortRec) : (s.modPort p f).pending = s.pending := rfl

/-! modAttn changes attn only. -/

@[simp] theorem modAttn_ports (s : State) (p : Port) (f : Attn → Attn) : (s.modAttn p f).ports = s.ports := rfl
@[simp] theorem modAttn_rooms (s : State) (p : Port) (f : Attn → Attn) : (s.modAttn p f).rooms = s.rooms := rfl
@[simp] theorem modAttn_keys (s : State) (p : Port) (f : Attn → Attn) : (s.modAttn p f).keys = s.keys := rfl
@[simp] theorem modAttn_verdict (s : State) (p : Port) (f : Attn → Attn) : (s.modAttn p f).verdict = s.verdict := rfl
@[simp] theorem modAttn_nodes (s : State) (p : Port) (f : Attn → Attn) : (s.modAttn p f).nodes = s.nodes := rfl
@[simp] theorem modAttn_lines (s : State) (p : Port) (f : Attn → Attn) : (s.modAttn p f).lines = s.lines := rfl
@[simp] theorem modAttn_charge (s : State) (p : Port) (f : Attn → Attn) : (s.modAttn p f).charge = s.charge := rfl
@[simp] theorem modAttn_journal (s : State) (p : Port) (f : Attn → Attn) : (s.modAttn p f).journal = s.journal := rfl
@[simp] theorem modAttn_lamps (s : State) (p : Port) (f : Attn → Attn) : (s.modAttn p f).lamps = s.lamps := rfl
@[simp] theorem modAttn_supply (s : State) (p : Port) (f : Attn → Attn) : (s.modAttn p f).supply = s.supply := rfl
@[simp] theorem modAttn_emergency (s : State) (p : Port) (f : Attn → Attn) : (s.modAttn p f).emergency = s.emergency := rfl
@[simp] theorem modAttn_pending (s : State) (p : Port) (f : Attn → Attn) : (s.modAttn p f).pending = s.pending := rfl

/-! modRoom changes rooms only. -/

@[simp] theorem modRoom_ports (s : State) (r : RoomIx) (f : Room → Room) : (s.modRoom r f).ports = s.ports := rfl
@[simp] theorem modRoom_attn (s : State) (r : RoomIx) (f : Room → Room) : (s.modRoom r f).attn = s.attn := rfl
@[simp] theorem modRoom_keys (s : State) (r : RoomIx) (f : Room → Room) : (s.modRoom r f).keys = s.keys := rfl
@[simp] theorem modRoom_verdict (s : State) (r : RoomIx) (f : Room → Room) : (s.modRoom r f).verdict = s.verdict := rfl
@[simp] theorem modRoom_nodes (s : State) (r : RoomIx) (f : Room → Room) : (s.modRoom r f).nodes = s.nodes := rfl
@[simp] theorem modRoom_lines (s : State) (r : RoomIx) (f : Room → Room) : (s.modRoom r f).lines = s.lines := rfl
@[simp] theorem modRoom_charge (s : State) (r : RoomIx) (f : Room → Room) : (s.modRoom r f).charge = s.charge := rfl
@[simp] theorem modRoom_journal (s : State) (r : RoomIx) (f : Room → Room) : (s.modRoom r f).journal = s.journal := rfl
@[simp] theorem modRoom_lamps (s : State) (r : RoomIx) (f : Room → Room) : (s.modRoom r f).lamps = s.lamps := rfl
@[simp] theorem modRoom_supply (s : State) (r : RoomIx) (f : Room → Room) : (s.modRoom r f).supply = s.supply := rfl
@[simp] theorem modRoom_emergency (s : State) (r : RoomIx) (f : Room → Room) : (s.modRoom r f).emergency = s.emergency := rfl
@[simp] theorem modRoom_pending (s : State) (r : RoomIx) (f : Room → Room) : (s.modRoom r f).pending = s.pending := rfl

/-! setEntry changes keys only. -/

@[simp] theorem setEntry_ports (s : State) (k : KeyIx) (e : KeyEntry) : (s.setEntry k e).ports = s.ports := rfl
@[simp] theorem setEntry_attn (s : State) (k : KeyIx) (e : KeyEntry) : (s.setEntry k e).attn = s.attn := rfl
@[simp] theorem setEntry_rooms (s : State) (k : KeyIx) (e : KeyEntry) : (s.setEntry k e).rooms = s.rooms := rfl
@[simp] theorem setEntry_verdict (s : State) (k : KeyIx) (e : KeyEntry) : (s.setEntry k e).verdict = s.verdict := rfl
@[simp] theorem setEntry_nodes (s : State) (k : KeyIx) (e : KeyEntry) : (s.setEntry k e).nodes = s.nodes := rfl
@[simp] theorem setEntry_lines (s : State) (k : KeyIx) (e : KeyEntry) : (s.setEntry k e).lines = s.lines := rfl
@[simp] theorem setEntry_charge (s : State) (k : KeyIx) (e : KeyEntry) : (s.setEntry k e).charge = s.charge := rfl
@[simp] theorem setEntry_journal (s : State) (k : KeyIx) (e : KeyEntry) : (s.setEntry k e).journal = s.journal := rfl
@[simp] theorem setEntry_lamps (s : State) (k : KeyIx) (e : KeyEntry) : (s.setEntry k e).lamps = s.lamps := rfl
@[simp] theorem setEntry_supply (s : State) (k : KeyIx) (e : KeyEntry) : (s.setEntry k e).supply = s.supply := rfl
@[simp] theorem setEntry_emergency (s : State) (k : KeyIx) (e : KeyEntry) : (s.setEntry k e).emergency = s.emergency := rfl
@[simp] theorem setEntry_pending (s : State) (k : KeyIx) (e : KeyEntry) : (s.setEntry k e).pending = s.pending := rfl

/-! modNode changes nodes only. -/

@[simp] theorem modNode_ports (s : State) (n : NodeAddr) (f : Node → Node) : (s.modNode n f).ports = s.ports := rfl
@[simp] theorem modNode_attn (s : State) (n : NodeAddr) (f : Node → Node) : (s.modNode n f).attn = s.attn := rfl
@[simp] theorem modNode_rooms (s : State) (n : NodeAddr) (f : Node → Node) : (s.modNode n f).rooms = s.rooms := rfl
@[simp] theorem modNode_keys (s : State) (n : NodeAddr) (f : Node → Node) : (s.modNode n f).keys = s.keys := rfl
@[simp] theorem modNode_verdict (s : State) (n : NodeAddr) (f : Node → Node) : (s.modNode n f).verdict = s.verdict := rfl
@[simp] theorem modNode_lines (s : State) (n : NodeAddr) (f : Node → Node) : (s.modNode n f).lines = s.lines := rfl
@[simp] theorem modNode_charge (s : State) (n : NodeAddr) (f : Node → Node) : (s.modNode n f).charge = s.charge := rfl
@[simp] theorem modNode_journal (s : State) (n : NodeAddr) (f : Node → Node) : (s.modNode n f).journal = s.journal := rfl
@[simp] theorem modNode_lamps (s : State) (n : NodeAddr) (f : Node → Node) : (s.modNode n f).lamps = s.lamps := rfl
@[simp] theorem modNode_supply (s : State) (n : NodeAddr) (f : Node → Node) : (s.modNode n f).supply = s.supply := rfl
@[simp] theorem modNode_emergency (s : State) (n : NodeAddr) (f : Node → Node) : (s.modNode n f).emergency = s.emergency := rfl
@[simp] theorem modNode_pending (s : State) (n : NodeAddr) (f : Node → Node) : (s.modNode n f).pending = s.pending := rfl

/-! modLine changes lines only. -/

@[simp] theorem modLine_ports (s : State) (l : LineIx) (f : Line → Line) : (s.modLine l f).ports = s.ports := rfl
@[simp] theorem modLine_attn (s : State) (l : LineIx) (f : Line → Line) : (s.modLine l f).attn = s.attn := rfl
@[simp] theorem modLine_rooms (s : State) (l : LineIx) (f : Line → Line) : (s.modLine l f).rooms = s.rooms := rfl
@[simp] theorem modLine_keys (s : State) (l : LineIx) (f : Line → Line) : (s.modLine l f).keys = s.keys := rfl
@[simp] theorem modLine_verdict (s : State) (l : LineIx) (f : Line → Line) : (s.modLine l f).verdict = s.verdict := rfl
@[simp] theorem modLine_nodes (s : State) (l : LineIx) (f : Line → Line) : (s.modLine l f).nodes = s.nodes := rfl
@[simp] theorem modLine_charge (s : State) (l : LineIx) (f : Line → Line) : (s.modLine l f).charge = s.charge := rfl
@[simp] theorem modLine_journal (s : State) (l : LineIx) (f : Line → Line) : (s.modLine l f).journal = s.journal := rfl
@[simp] theorem modLine_lamps (s : State) (l : LineIx) (f : Line → Line) : (s.modLine l f).lamps = s.lamps := rfl
@[simp] theorem modLine_supply (s : State) (l : LineIx) (f : Line → Line) : (s.modLine l f).supply = s.supply := rfl
@[simp] theorem modLine_emergency (s : State) (l : LineIx) (f : Line → Line) : (s.modLine l f).emergency = s.emergency := rfl
@[simp] theorem modLine_pending (s : State) (l : LineIx) (f : Line → Line) : (s.modLine l f).pending = s.pending := rfl

/-! modFolio changes charge only. -/

@[simp] theorem modFolio_ports (s : State) (k : FolioIx) (f : Folio → Folio) : (s.modFolio k f).ports = s.ports := rfl
@[simp] theorem modFolio_attn (s : State) (k : FolioIx) (f : Folio → Folio) : (s.modFolio k f).attn = s.attn := rfl
@[simp] theorem modFolio_rooms (s : State) (k : FolioIx) (f : Folio → Folio) : (s.modFolio k f).rooms = s.rooms := rfl
@[simp] theorem modFolio_keys (s : State) (k : FolioIx) (f : Folio → Folio) : (s.modFolio k f).keys = s.keys := rfl
@[simp] theorem modFolio_verdict (s : State) (k : FolioIx) (f : Folio → Folio) : (s.modFolio k f).verdict = s.verdict := rfl
@[simp] theorem modFolio_nodes (s : State) (k : FolioIx) (f : Folio → Folio) : (s.modFolio k f).nodes = s.nodes := rfl
@[simp] theorem modFolio_lines (s : State) (k : FolioIx) (f : Folio → Folio) : (s.modFolio k f).lines = s.lines := rfl
@[simp] theorem modFolio_journal (s : State) (k : FolioIx) (f : Folio → Folio) : (s.modFolio k f).journal = s.journal := rfl
@[simp] theorem modFolio_lamps (s : State) (k : FolioIx) (f : Folio → Folio) : (s.modFolio k f).lamps = s.lamps := rfl
@[simp] theorem modFolio_supply (s : State) (k : FolioIx) (f : Folio → Folio) : (s.modFolio k f).supply = s.supply := rfl
@[simp] theorem modFolio_emergency (s : State) (k : FolioIx) (f : Folio → Folio) : (s.modFolio k f).emergency = s.emergency := rfl
@[simp] theorem modFolio_pending (s : State) (k : FolioIx) (f : Folio → Folio) : (s.modFolio k f).pending = s.pending := rfl

/-! modLamp changes lamps only. -/

@[simp] theorem modLamp_ports (s : State) (r : RoomIx) (f : IndEntry → IndEntry) : (s.modLamp r f).ports = s.ports := rfl
@[simp] theorem modLamp_attn (s : State) (r : RoomIx) (f : IndEntry → IndEntry) : (s.modLamp r f).attn = s.attn := rfl
@[simp] theorem modLamp_rooms (s : State) (r : RoomIx) (f : IndEntry → IndEntry) : (s.modLamp r f).rooms = s.rooms := rfl
@[simp] theorem modLamp_keys (s : State) (r : RoomIx) (f : IndEntry → IndEntry) : (s.modLamp r f).keys = s.keys := rfl
@[simp] theorem modLamp_verdict (s : State) (r : RoomIx) (f : IndEntry → IndEntry) : (s.modLamp r f).verdict = s.verdict := rfl
@[simp] theorem modLamp_nodes (s : State) (r : RoomIx) (f : IndEntry → IndEntry) : (s.modLamp r f).nodes = s.nodes := rfl
@[simp] theorem modLamp_lines (s : State) (r : RoomIx) (f : IndEntry → IndEntry) : (s.modLamp r f).lines = s.lines := rfl
@[simp] theorem modLamp_charge (s : State) (r : RoomIx) (f : IndEntry → IndEntry) : (s.modLamp r f).charge = s.charge := rfl
@[simp] theorem modLamp_journal (s : State) (r : RoomIx) (f : IndEntry → IndEntry) : (s.modLamp r f).journal = s.journal := rfl
@[simp] theorem modLamp_supply (s : State) (r : RoomIx) (f : IndEntry → IndEntry) : (s.modLamp r f).supply = s.supply := rfl
@[simp] theorem modLamp_emergency (s : State) (r : RoomIx) (f : IndEntry → IndEntry) : (s.modLamp r f).emergency = s.emergency := rfl
@[simp] theorem modLamp_pending (s : State) (r : RoomIx) (f : IndEntry → IndEntry) : (s.modLamp r f).pending = s.pending := rfl

/-! modJournal changes journal only. -/

@[simp] theorem modJournal_ports (s : State) (f : Journal → Journal) : (s.modJournal f).ports = s.ports := rfl
@[simp] theorem modJournal_attn (s : State) (f : Journal → Journal) : (s.modJournal f).attn = s.attn := rfl
@[simp] theorem modJournal_rooms (s : State) (f : Journal → Journal) : (s.modJournal f).rooms = s.rooms := rfl
@[simp] theorem modJournal_keys (s : State) (f : Journal → Journal) : (s.modJournal f).keys = s.keys := rfl
@[simp] theorem modJournal_verdict (s : State) (f : Journal → Journal) : (s.modJournal f).verdict = s.verdict := rfl
@[simp] theorem modJournal_nodes (s : State) (f : Journal → Journal) : (s.modJournal f).nodes = s.nodes := rfl
@[simp] theorem modJournal_lines (s : State) (f : Journal → Journal) : (s.modJournal f).lines = s.lines := rfl
@[simp] theorem modJournal_charge (s : State) (f : Journal → Journal) : (s.modJournal f).charge = s.charge := rfl
@[simp] theorem modJournal_lamps (s : State) (f : Journal → Journal) : (s.modJournal f).lamps = s.lamps := rfl
@[simp] theorem modJournal_supply (s : State) (f : Journal → Journal) : (s.modJournal f).supply = s.supply := rfl
@[simp] theorem modJournal_emergency (s : State) (f : Journal → Journal) : (s.modJournal f).emergency = s.emergency := rfl
@[simp] theorem modJournal_pending (s : State) (f : Journal → Journal) : (s.modJournal f).pending = s.pending := rfl

/-! modLamps changes lamps only. -/

@[simp] theorem modLamps_ports (s : State) (f : Indicator → Indicator) : (s.modLamps f).ports = s.ports := rfl
@[simp] theorem modLamps_attn (s : State) (f : Indicator → Indicator) : (s.modLamps f).attn = s.attn := rfl
@[simp] theorem modLamps_rooms (s : State) (f : Indicator → Indicator) : (s.modLamps f).rooms = s.rooms := rfl
@[simp] theorem modLamps_keys (s : State) (f : Indicator → Indicator) : (s.modLamps f).keys = s.keys := rfl
@[simp] theorem modLamps_verdict (s : State) (f : Indicator → Indicator) : (s.modLamps f).verdict = s.verdict := rfl
@[simp] theorem modLamps_nodes (s : State) (f : Indicator → Indicator) : (s.modLamps f).nodes = s.nodes := rfl
@[simp] theorem modLamps_lines (s : State) (f : Indicator → Indicator) : (s.modLamps f).lines = s.lines := rfl
@[simp] theorem modLamps_charge (s : State) (f : Indicator → Indicator) : (s.modLamps f).charge = s.charge := rfl
@[simp] theorem modLamps_journal (s : State) (f : Indicator → Indicator) : (s.modLamps f).journal = s.journal := rfl
@[simp] theorem modLamps_supply (s : State) (f : Indicator → Indicator) : (s.modLamps f).supply = s.supply := rfl
@[simp] theorem modLamps_emergency (s : State) (f : Indicator → Indicator) : (s.modLamps f).emergency = s.emergency := rfl
@[simp] theorem modLamps_pending (s : State) (f : Indicator → Indicator) : (s.modLamps f).pending = s.pending := rfl

/-! raise changes attn only. -/

@[simp] theorem raise_ports (p : Port) (c : Cause) (s : State) : (raise p c s).ports = s.ports := rfl
@[simp] theorem raise_rooms (p : Port) (c : Cause) (s : State) : (raise p c s).rooms = s.rooms := rfl
@[simp] theorem raise_keys (p : Port) (c : Cause) (s : State) : (raise p c s).keys = s.keys := rfl
@[simp] theorem raise_verdict (p : Port) (c : Cause) (s : State) : (raise p c s).verdict = s.verdict := rfl
@[simp] theorem raise_nodes (p : Port) (c : Cause) (s : State) : (raise p c s).nodes = s.nodes := rfl
@[simp] theorem raise_lines (p : Port) (c : Cause) (s : State) : (raise p c s).lines = s.lines := rfl
@[simp] theorem raise_charge (p : Port) (c : Cause) (s : State) : (raise p c s).charge = s.charge := rfl
@[simp] theorem raise_journal (p : Port) (c : Cause) (s : State) : (raise p c s).journal = s.journal := rfl
@[simp] theorem raise_lamps (p : Port) (c : Cause) (s : State) : (raise p c s).lamps = s.lamps := rfl
@[simp] theorem raise_supply (p : Port) (c : Cause) (s : State) : (raise p c s).supply = s.supply := rfl
@[simp] theorem raise_emergency (p : Port) (c : Cause) (s : State) : (raise p c s).emergency = s.emergency := rfl
@[simp] theorem raise_pending (p : Port) (c : Cause) (s : State) : (raise p c s).pending = s.pending := rfl

/-! withdraw changes attn only. -/

@[simp] theorem withdraw_ports (p : Port) (c : Cause) (s : State) : (withdraw p c s).ports = s.ports := rfl
@[simp] theorem withdraw_rooms (p : Port) (c : Cause) (s : State) : (withdraw p c s).rooms = s.rooms := rfl
@[simp] theorem withdraw_keys (p : Port) (c : Cause) (s : State) : (withdraw p c s).keys = s.keys := rfl
@[simp] theorem withdraw_verdict (p : Port) (c : Cause) (s : State) : (withdraw p c s).verdict = s.verdict := rfl
@[simp] theorem withdraw_nodes (p : Port) (c : Cause) (s : State) : (withdraw p c s).nodes = s.nodes := rfl
@[simp] theorem withdraw_lines (p : Port) (c : Cause) (s : State) : (withdraw p c s).lines = s.lines := rfl
@[simp] theorem withdraw_charge (p : Port) (c : Cause) (s : State) : (withdraw p c s).charge = s.charge := rfl
@[simp] theorem withdraw_journal (p : Port) (c : Cause) (s : State) : (withdraw p c s).journal = s.journal := rfl
@[simp] theorem withdraw_lamps (p : Port) (c : Cause) (s : State) : (withdraw p c s).lamps = s.lamps := rfl
@[simp] theorem withdraw_supply (p : Port) (c : Cause) (s : State) : (withdraw p c s).supply = s.supply := rfl
@[simp] theorem withdraw_emergency (p : Port) (c : Cause) (s : State) : (withdraw p c s).emergency = s.emergency := rfl
@[simp] theorem withdraw_pending (p : Port) (c : Cause) (s : State) : (withdraw p c s).pending = s.pending := rfl

/-! placeResult changes ports only. -/

@[simp] theorem placeResult_attn (p : Port) (c : Option Byte) (r : Reply) (s : State) : (placeResult p c r s).attn = s.attn := rfl
@[simp] theorem placeResult_rooms (p : Port) (c : Option Byte) (r : Reply) (s : State) : (placeResult p c r s).rooms = s.rooms := rfl
@[simp] theorem placeResult_keys (p : Port) (c : Option Byte) (r : Reply) (s : State) : (placeResult p c r s).keys = s.keys := rfl
@[simp] theorem placeResult_verdict (p : Port) (c : Option Byte) (r : Reply) (s : State) : (placeResult p c r s).verdict = s.verdict := rfl
@[simp] theorem placeResult_nodes (p : Port) (c : Option Byte) (r : Reply) (s : State) : (placeResult p c r s).nodes = s.nodes := rfl
@[simp] theorem placeResult_lines (p : Port) (c : Option Byte) (r : Reply) (s : State) : (placeResult p c r s).lines = s.lines := rfl
@[simp] theorem placeResult_charge (p : Port) (c : Option Byte) (r : Reply) (s : State) : (placeResult p c r s).charge = s.charge := rfl
@[simp] theorem placeResult_journal (p : Port) (c : Option Byte) (r : Reply) (s : State) : (placeResult p c r s).journal = s.journal := rfl
@[simp] theorem placeResult_lamps (p : Port) (c : Option Byte) (r : Reply) (s : State) : (placeResult p c r s).lamps = s.lamps := rfl
@[simp] theorem placeResult_supply (p : Port) (c : Option Byte) (r : Reply) (s : State) : (placeResult p c r s).supply = s.supply := rfl
@[simp] theorem placeResult_emergency (p : Port) (c : Option Byte) (r : Reply) (s : State) : (placeResult p c r s).emergency = s.emergency := rfl
@[simp] theorem placeResult_pending (p : Port) (c : Option Byte) (r : Reply) (s : State) : (placeResult p c r s).pending = s.pending := rfl

/-! answer changes ports, attn only. -/

@[simp] theorem answer_rooms (p : Port) (c : Option Byte) (r : Reply) (s : State) : (answer p c r s).rooms = s.rooms := rfl
@[simp] theorem answer_keys (p : Port) (c : Option Byte) (r : Reply) (s : State) : (answer p c r s).keys = s.keys := rfl
@[simp] theorem answer_verdict (p : Port) (c : Option Byte) (r : Reply) (s : State) : (answer p c r s).verdict = s.verdict := rfl
@[simp] theorem answer_nodes (p : Port) (c : Option Byte) (r : Reply) (s : State) : (answer p c r s).nodes = s.nodes := rfl
@[simp] theorem answer_lines (p : Port) (c : Option Byte) (r : Reply) (s : State) : (answer p c r s).lines = s.lines := rfl
@[simp] theorem answer_charge (p : Port) (c : Option Byte) (r : Reply) (s : State) : (answer p c r s).charge = s.charge := rfl
@[simp] theorem answer_journal (p : Port) (c : Option Byte) (r : Reply) (s : State) : (answer p c r s).journal = s.journal := rfl
@[simp] theorem answer_lamps (p : Port) (c : Option Byte) (r : Reply) (s : State) : (answer p c r s).lamps = s.lamps := rfl
@[simp] theorem answer_supply (p : Port) (c : Option Byte) (r : Reply) (s : State) : (answer p c r s).supply = s.supply := rfl
@[simp] theorem answer_emergency (p : Port) (c : Option Byte) (r : Reply) (s : State) : (answer p c r s).emergency = s.emergency := rfl
@[simp] theorem answer_pending (p : Port) (c : Option Byte) (r : Reply) (s : State) : (answer p c r s).pending = s.pending := rfl

/-! openCommand changes ports only. -/

@[simp] theorem openCommand_attn (p : Port) (s : State) : (openCommand p s).attn = s.attn := rfl
@[simp] theorem openCommand_rooms (p : Port) (s : State) : (openCommand p s).rooms = s.rooms := rfl
@[simp] theorem openCommand_keys (p : Port) (s : State) : (openCommand p s).keys = s.keys := rfl
@[simp] theorem openCommand_verdict (p : Port) (s : State) : (openCommand p s).verdict = s.verdict := rfl
@[simp] theorem openCommand_nodes (p : Port) (s : State) : (openCommand p s).nodes = s.nodes := rfl
@[simp] theorem openCommand_lines (p : Port) (s : State) : (openCommand p s).lines = s.lines := rfl
@[simp] theorem openCommand_charge (p : Port) (s : State) : (openCommand p s).charge = s.charge := rfl
@[simp] theorem openCommand_journal (p : Port) (s : State) : (openCommand p s).journal = s.journal := rfl
@[simp] theorem openCommand_lamps (p : Port) (s : State) : (openCommand p s).lamps = s.lamps := rfl
@[simp] theorem openCommand_supply (p : Port) (s : State) : (openCommand p s).supply = s.supply := rfl
@[simp] theorem openCommand_emergency (p : Port) (s : State) : (openCommand p s).emergency = s.emergency := rfl
@[simp] theorem openCommand_pending (p : Port) (s : State) : (openCommand p s).pending = s.pending := rfl

/-! holdCommand changes ports only. -/

@[simp] theorem holdCommand_attn (p : Port) (c : Command) (s : State) : (holdCommand p c s).attn = s.attn := rfl
@[simp] theorem holdCommand_rooms (p : Port) (c : Command) (s : State) : (holdCommand p c s).rooms = s.rooms := rfl
@[simp] theorem holdCommand_keys (p : Port) (c : Command) (s : State) : (holdCommand p c s).keys = s.keys := rfl
@[simp] theorem holdCommand_verdict (p : Port) (c : Command) (s : State) : (holdCommand p c s).verdict = s.verdict := rfl
@[simp] theorem holdCommand_nodes (p : Port) (c : Command) (s : State) : (holdCommand p c s).nodes = s.nodes := rfl
@[simp] theorem holdCommand_lines (p : Port) (c : Command) (s : State) : (holdCommand p c s).lines = s.lines := rfl
@[simp] theorem holdCommand_charge (p : Port) (c : Command) (s : State) : (holdCommand p c s).charge = s.charge := rfl
@[simp] theorem holdCommand_journal (p : Port) (c : Command) (s : State) : (holdCommand p c s).journal = s.journal := rfl
@[simp] theorem holdCommand_lamps (p : Port) (c : Command) (s : State) : (holdCommand p c s).lamps = s.lamps := rfl
@[simp] theorem holdCommand_supply (p : Port) (c : Command) (s : State) : (holdCommand p c s).supply = s.supply := rfl
@[simp] theorem holdCommand_emergency (p : Port) (c : Command) (s : State) : (holdCommand p c s).emergency = s.emergency := rfl
@[simp] theorem holdCommand_pending (p : Port) (c : Command) (s : State) : (holdCommand p c s).pending = s.pending := rfl

/-! discardFrame changes ports only. -/

@[simp] theorem discardFrame_attn (p : Port) (s : State) : (discardFrame p s).attn = s.attn := rfl
@[simp] theorem discardFrame_rooms (p : Port) (s : State) : (discardFrame p s).rooms = s.rooms := rfl
@[simp] theorem discardFrame_keys (p : Port) (s : State) : (discardFrame p s).keys = s.keys := rfl
@[simp] theorem discardFrame_verdict (p : Port) (s : State) : (discardFrame p s).verdict = s.verdict := rfl
@[simp] theorem discardFrame_nodes (p : Port) (s : State) : (discardFrame p s).nodes = s.nodes := rfl
@[simp] theorem discardFrame_lines (p : Port) (s : State) : (discardFrame p s).lines = s.lines := rfl
@[simp] theorem discardFrame_charge (p : Port) (s : State) : (discardFrame p s).charge = s.charge := rfl
@[simp] theorem discardFrame_journal (p : Port) (s : State) : (discardFrame p s).journal = s.journal := rfl
@[simp] theorem discardFrame_lamps (p : Port) (s : State) : (discardFrame p s).lamps = s.lamps := rfl
@[simp] theorem discardFrame_supply (p : Port) (s : State) : (discardFrame p s).supply = s.supply := rfl
@[simp] theorem discardFrame_emergency (p : Port) (s : State) : (discardFrame p s).emergency = s.emergency := rfl
@[simp] theorem discardFrame_pending (p : Port) (s : State) : (discardFrame p s).pending = s.pending := rfl

/-! pushJob changes keys only. -/

@[simp] theorem pushJob_ports (j : ScanJob) (s : State) : (pushJob j s).ports = s.ports := rfl
@[simp] theorem pushJob_attn (j : ScanJob) (s : State) : (pushJob j s).attn = s.attn := rfl
@[simp] theorem pushJob_rooms (j : ScanJob) (s : State) : (pushJob j s).rooms = s.rooms := rfl
@[simp] theorem pushJob_verdict (j : ScanJob) (s : State) : (pushJob j s).verdict = s.verdict := rfl
@[simp] theorem pushJob_nodes (j : ScanJob) (s : State) : (pushJob j s).nodes = s.nodes := rfl
@[simp] theorem pushJob_lines (j : ScanJob) (s : State) : (pushJob j s).lines = s.lines := rfl
@[simp] theorem pushJob_charge (j : ScanJob) (s : State) : (pushJob j s).charge = s.charge := rfl
@[simp] theorem pushJob_journal (j : ScanJob) (s : State) : (pushJob j s).journal = s.journal := rfl
@[simp] theorem pushJob_lamps (j : ScanJob) (s : State) : (pushJob j s).lamps = s.lamps := rfl
@[simp] theorem pushJob_supply (j : ScanJob) (s : State) : (pushJob j s).supply = s.supply := rfl
@[simp] theorem pushJob_emergency (j : ScanJob) (s : State) : (pushJob j s).emergency = s.emergency := rfl
@[simp] theorem pushJob_pending (j : ScanJob) (s : State) : (pushJob j s).pending = s.pending := rfl

/-! walkTo changes keys only. -/

@[simp] theorem walkTo_ports (k : Option KeyIx) (s : State) : (walkTo k s).ports = s.ports := rfl
@[simp] theorem walkTo_attn (k : Option KeyIx) (s : State) : (walkTo k s).attn = s.attn := rfl
@[simp] theorem walkTo_rooms (k : Option KeyIx) (s : State) : (walkTo k s).rooms = s.rooms := rfl
@[simp] theorem walkTo_verdict (k : Option KeyIx) (s : State) : (walkTo k s).verdict = s.verdict := rfl
@[simp] theorem walkTo_nodes (k : Option KeyIx) (s : State) : (walkTo k s).nodes = s.nodes := rfl
@[simp] theorem walkTo_lines (k : Option KeyIx) (s : State) : (walkTo k s).lines = s.lines := rfl
@[simp] theorem walkTo_charge (k : Option KeyIx) (s : State) : (walkTo k s).charge = s.charge := rfl
@[simp] theorem walkTo_journal (k : Option KeyIx) (s : State) : (walkTo k s).journal = s.journal := rfl
@[simp] theorem walkTo_lamps (k : Option KeyIx) (s : State) : (walkTo k s).lamps = s.lamps := rfl
@[simp] theorem walkTo_supply (k : Option KeyIx) (s : State) : (walkTo k s).supply = s.supply := rfl
@[simp] theorem walkTo_emergency (k : Option KeyIx) (s : State) : (walkTo k s).emergency = s.emergency := rfl
@[simp] theorem walkTo_pending (k : Option KeyIx) (s : State) : (walkTo k s).pending = s.pending := rfl

/-! setBindings changes keys only. -/

@[simp] theorem setBindings_ports (k : KeyIx) (e : KeyEntry) (bs : List Binding) (s : State) : (setBindings k e bs s).ports = s.ports := rfl
@[simp] theorem setBindings_attn (k : KeyIx) (e : KeyEntry) (bs : List Binding) (s : State) : (setBindings k e bs s).attn = s.attn := rfl
@[simp] theorem setBindings_rooms (k : KeyIx) (e : KeyEntry) (bs : List Binding) (s : State) : (setBindings k e bs s).rooms = s.rooms := rfl
@[simp] theorem setBindings_verdict (k : KeyIx) (e : KeyEntry) (bs : List Binding) (s : State) : (setBindings k e bs s).verdict = s.verdict := rfl
@[simp] theorem setBindings_nodes (k : KeyIx) (e : KeyEntry) (bs : List Binding) (s : State) : (setBindings k e bs s).nodes = s.nodes := rfl
@[simp] theorem setBindings_lines (k : KeyIx) (e : KeyEntry) (bs : List Binding) (s : State) : (setBindings k e bs s).lines = s.lines := rfl
@[simp] theorem setBindings_charge (k : KeyIx) (e : KeyEntry) (bs : List Binding) (s : State) : (setBindings k e bs s).charge = s.charge := rfl
@[simp] theorem setBindings_journal (k : KeyIx) (e : KeyEntry) (bs : List Binding) (s : State) : (setBindings k e bs s).journal = s.journal := rfl
@[simp] theorem setBindings_lamps (k : KeyIx) (e : KeyEntry) (bs : List Binding) (s : State) : (setBindings k e bs s).lamps = s.lamps := rfl
@[simp] theorem setBindings_supply (k : KeyIx) (e : KeyEntry) (bs : List Binding) (s : State) : (setBindings k e bs s).supply = s.supply := rfl
@[simp] theorem setBindings_emergency (k : KeyIx) (e : KeyEntry) (bs : List Binding) (s : State) : (setBindings k e bs s).emergency = s.emergency := rfl
@[simp] theorem setBindings_pending (k : KeyIx) (e : KeyEntry) (bs : List Binding) (s : State) : (setBindings k e bs s).pending = s.pending := rfl

/-! appendRetired changes keys only. -/

@[simp] theorem appendRetired_ports (k : KeyIx) (s : State) : (appendRetired k s).ports = s.ports := rfl
@[simp] theorem appendRetired_attn (k : KeyIx) (s : State) : (appendRetired k s).attn = s.attn := rfl
@[simp] theorem appendRetired_rooms (k : KeyIx) (s : State) : (appendRetired k s).rooms = s.rooms := rfl
@[simp] theorem appendRetired_verdict (k : KeyIx) (s : State) : (appendRetired k s).verdict = s.verdict := rfl
@[simp] theorem appendRetired_nodes (k : KeyIx) (s : State) : (appendRetired k s).nodes = s.nodes := rfl
@[simp] theorem appendRetired_lines (k : KeyIx) (s : State) : (appendRetired k s).lines = s.lines := rfl
@[simp] theorem appendRetired_charge (k : KeyIx) (s : State) : (appendRetired k s).charge = s.charge := rfl
@[simp] theorem appendRetired_journal (k : KeyIx) (s : State) : (appendRetired k s).journal = s.journal := rfl
@[simp] theorem appendRetired_lamps (k : KeyIx) (s : State) : (appendRetired k s).lamps = s.lamps := rfl
@[simp] theorem appendRetired_supply (k : KeyIx) (s : State) : (appendRetired k s).supply = s.supply := rfl
@[simp] theorem appendRetired_emergency (k : KeyIx) (s : State) : (appendRetired k s).emergency = s.emergency := rfl
@[simp] theorem appendRetired_pending (k : KeyIx) (s : State) : (appendRetired k s).pending = s.pending := rfl

/-! writePrimary changes lamps only. -/

@[simp] theorem writePrimary_ports (r : RoomIx) (l : LampName) (v : Bool) (s : State) : (writePrimary r l v s).ports = s.ports := rfl
@[simp] theorem writePrimary_attn (r : RoomIx) (l : LampName) (v : Bool) (s : State) : (writePrimary r l v s).attn = s.attn := rfl
@[simp] theorem writePrimary_rooms (r : RoomIx) (l : LampName) (v : Bool) (s : State) : (writePrimary r l v s).rooms = s.rooms := rfl
@[simp] theorem writePrimary_keys (r : RoomIx) (l : LampName) (v : Bool) (s : State) : (writePrimary r l v s).keys = s.keys := rfl
@[simp] theorem writePrimary_verdict (r : RoomIx) (l : LampName) (v : Bool) (s : State) : (writePrimary r l v s).verdict = s.verdict := rfl
@[simp] theorem writePrimary_nodes (r : RoomIx) (l : LampName) (v : Bool) (s : State) : (writePrimary r l v s).nodes = s.nodes := rfl
@[simp] theorem writePrimary_lines (r : RoomIx) (l : LampName) (v : Bool) (s : State) : (writePrimary r l v s).lines = s.lines := rfl
@[simp] theorem writePrimary_charge (r : RoomIx) (l : LampName) (v : Bool) (s : State) : (writePrimary r l v s).charge = s.charge := rfl
@[simp] theorem writePrimary_journal (r : RoomIx) (l : LampName) (v : Bool) (s : State) : (writePrimary r l v s).journal = s.journal := rfl
@[simp] theorem writePrimary_supply (r : RoomIx) (l : LampName) (v : Bool) (s : State) : (writePrimary r l v s).supply = s.supply := rfl
@[simp] theorem writePrimary_emergency (r : RoomIx) (l : LampName) (v : Bool) (s : State) : (writePrimary r l v s).emergency = s.emergency := rfl
@[simp] theorem writePrimary_pending (r : RoomIx) (l : LampName) (v : Bool) (s : State) : (writePrimary r l v s).pending = s.pending := rfl

/-! bumpGeneration changes rooms only. -/

@[simp] theorem bumpGeneration_ports (r : RoomIx) (s : State) : (bumpGeneration r s).ports = s.ports := rfl
@[simp] theorem bumpGeneration_attn (r : RoomIx) (s : State) : (bumpGeneration r s).attn = s.attn := rfl
@[simp] theorem bumpGeneration_keys (r : RoomIx) (s : State) : (bumpGeneration r s).keys = s.keys := rfl
@[simp] theorem bumpGeneration_verdict (r : RoomIx) (s : State) : (bumpGeneration r s).verdict = s.verdict := rfl
@[simp] theorem bumpGeneration_nodes (r : RoomIx) (s : State) : (bumpGeneration r s).nodes = s.nodes := rfl
@[simp] theorem bumpGeneration_lines (r : RoomIx) (s : State) : (bumpGeneration r s).lines = s.lines := rfl
@[simp] theorem bumpGeneration_charge (r : RoomIx) (s : State) : (bumpGeneration r s).charge = s.charge := rfl
@[simp] theorem bumpGeneration_journal (r : RoomIx) (s : State) : (bumpGeneration r s).journal = s.journal := rfl
@[simp] theorem bumpGeneration_lamps (r : RoomIx) (s : State) : (bumpGeneration r s).lamps = s.lamps := rfl
@[simp] theorem bumpGeneration_supply (r : RoomIx) (s : State) : (bumpGeneration r s).supply = s.supply := rfl
@[simp] theorem bumpGeneration_emergency (r : RoomIx) (s : State) : (bumpGeneration r s).emergency = s.emergency := rfl
@[simp] theorem bumpGeneration_pending (r : RoomIx) (s : State) : (bumpGeneration r s).pending = s.pending := rfl

/-! addLive changes rooms only. -/

@[simp] theorem addLive_ports (r : RoomIx) (s : State) : (addLive r s).ports = s.ports := rfl
@[simp] theorem addLive_attn (r : RoomIx) (s : State) : (addLive r s).attn = s.attn := rfl
@[simp] theorem addLive_keys (r : RoomIx) (s : State) : (addLive r s).keys = s.keys := rfl
@[simp] theorem addLive_verdict (r : RoomIx) (s : State) : (addLive r s).verdict = s.verdict := rfl
@[simp] theorem addLive_nodes (r : RoomIx) (s : State) : (addLive r s).nodes = s.nodes := rfl
@[simp] theorem addLive_lines (r : RoomIx) (s : State) : (addLive r s).lines = s.lines := rfl
@[simp] theorem addLive_charge (r : RoomIx) (s : State) : (addLive r s).charge = s.charge := rfl
@[simp] theorem addLive_journal (r : RoomIx) (s : State) : (addLive r s).journal = s.journal := rfl
@[simp] theorem addLive_lamps (r : RoomIx) (s : State) : (addLive r s).lamps = s.lamps := rfl
@[simp] theorem addLive_supply (r : RoomIx) (s : State) : (addLive r s).supply = s.supply := rfl
@[simp] theorem addLive_emergency (r : RoomIx) (s : State) : (addLive r s).emergency = s.emergency := rfl
@[simp] theorem addLive_pending (r : RoomIx) (s : State) : (addLive r s).pending = s.pending := rfl

/-! dropLive changes rooms only. -/

@[simp] theorem dropLive_ports (r : RoomIx) (s : State) : (dropLive r s).ports = s.ports := rfl
@[simp] theorem dropLive_attn (r : RoomIx) (s : State) : (dropLive r s).attn = s.attn := rfl
@[simp] theorem dropLive_keys (r : RoomIx) (s : State) : (dropLive r s).keys = s.keys := rfl
@[simp] theorem dropLive_verdict (r : RoomIx) (s : State) : (dropLive r s).verdict = s.verdict := rfl
@[simp] theorem dropLive_nodes (r : RoomIx) (s : State) : (dropLive r s).nodes = s.nodes := rfl
@[simp] theorem dropLive_lines (r : RoomIx) (s : State) : (dropLive r s).lines = s.lines := rfl
@[simp] theorem dropLive_charge (r : RoomIx) (s : State) : (dropLive r s).charge = s.charge := rfl
@[simp] theorem dropLive_journal (r : RoomIx) (s : State) : (dropLive r s).journal = s.journal := rfl
@[simp] theorem dropLive_lamps (r : RoomIx) (s : State) : (dropLive r s).lamps = s.lamps := rfl
@[simp] theorem dropLive_supply (r : RoomIx) (s : State) : (dropLive r s).supply = s.supply := rfl
@[simp] theorem dropLive_emergency (r : RoomIx) (s : State) : (dropLive r s).emergency = s.emergency := rfl
@[simp] theorem dropLive_pending (r : RoomIx) (s : State) : (dropLive r s).pending = s.pending := rfl

/-! noteEntry changes rooms only. -/

@[simp] theorem noteEntry_ports (r : RoomIx) (t : Stamp) (s : State) : (noteEntry r t s).ports = s.ports := rfl
@[simp] theorem noteEntry_attn (r : RoomIx) (t : Stamp) (s : State) : (noteEntry r t s).attn = s.attn := rfl
@[simp] theorem noteEntry_keys (r : RoomIx) (t : Stamp) (s : State) : (noteEntry r t s).keys = s.keys := rfl
@[simp] theorem noteEntry_verdict (r : RoomIx) (t : Stamp) (s : State) : (noteEntry r t s).verdict = s.verdict := rfl
@[simp] theorem noteEntry_nodes (r : RoomIx) (t : Stamp) (s : State) : (noteEntry r t s).nodes = s.nodes := rfl
@[simp] theorem noteEntry_lines (r : RoomIx) (t : Stamp) (s : State) : (noteEntry r t s).lines = s.lines := rfl
@[simp] theorem noteEntry_charge (r : RoomIx) (t : Stamp) (s : State) : (noteEntry r t s).charge = s.charge := rfl
@[simp] theorem noteEntry_journal (r : RoomIx) (t : Stamp) (s : State) : (noteEntry r t s).journal = s.journal := rfl
@[simp] theorem noteEntry_lamps (r : RoomIx) (t : Stamp) (s : State) : (noteEntry r t s).lamps = s.lamps := rfl
@[simp] theorem noteEntry_supply (r : RoomIx) (t : Stamp) (s : State) : (noteEntry r t s).supply = s.supply := rfl
@[simp] theorem noteEntry_emergency (r : RoomIx) (t : Stamp) (s : State) : (noteEntry r t s).emergency = s.emergency := rfl
@[simp] theorem noteEntry_pending (r : RoomIx) (t : Stamp) (s : State) : (noteEntry r t s).pending = s.pending := rfl

/-! setGrant changes nodes only. -/

@[simp] theorem setGrant_ports (n : NodeAddr) (h : Holder) (s : State) : (setGrant n h s).ports = s.ports := rfl
@[simp] theorem setGrant_attn (n : NodeAddr) (h : Holder) (s : State) : (setGrant n h s).attn = s.attn := rfl
@[simp] theorem setGrant_rooms (n : NodeAddr) (h : Holder) (s : State) : (setGrant n h s).rooms = s.rooms := rfl
@[simp] theorem setGrant_keys (n : NodeAddr) (h : Holder) (s : State) : (setGrant n h s).keys = s.keys := rfl
@[simp] theorem setGrant_verdict (n : NodeAddr) (h : Holder) (s : State) : (setGrant n h s).verdict = s.verdict := rfl
@[simp] theorem setGrant_lines (n : NodeAddr) (h : Holder) (s : State) : (setGrant n h s).lines = s.lines := rfl
@[simp] theorem setGrant_charge (n : NodeAddr) (h : Holder) (s : State) : (setGrant n h s).charge = s.charge := rfl
@[simp] theorem setGrant_journal (n : NodeAddr) (h : Holder) (s : State) : (setGrant n h s).journal = s.journal := rfl
@[simp] theorem setGrant_lamps (n : NodeAddr) (h : Holder) (s : State) : (setGrant n h s).lamps = s.lamps := rfl
@[simp] theorem setGrant_supply (n : NodeAddr) (h : Holder) (s : State) : (setGrant n h s).supply = s.supply := rfl
@[simp] theorem setGrant_emergency (n : NodeAddr) (h : Holder) (s : State) : (setGrant n h s).emergency = s.emergency := rfl
@[simp] theorem setGrant_pending (n : NodeAddr) (h : Holder) (s : State) : (setGrant n h s).pending = s.pending := rfl

/-! setModeMark changes nodes, lines only. -/

@[simp] theorem setModeMark_ports (n : NodeAddr) (s : State) : (setModeMark n s).ports = s.ports := rfl
@[simp] theorem setModeMark_attn (n : NodeAddr) (s : State) : (setModeMark n s).attn = s.attn := rfl
@[simp] theorem setModeMark_rooms (n : NodeAddr) (s : State) : (setModeMark n s).rooms = s.rooms := rfl
@[simp] theorem setModeMark_keys (n : NodeAddr) (s : State) : (setModeMark n s).keys = s.keys := rfl
@[simp] theorem setModeMark_verdict (n : NodeAddr) (s : State) : (setModeMark n s).verdict = s.verdict := rfl
@[simp] theorem setModeMark_charge (n : NodeAddr) (s : State) : (setModeMark n s).charge = s.charge := rfl
@[simp] theorem setModeMark_journal (n : NodeAddr) (s : State) : (setModeMark n s).journal = s.journal := rfl
@[simp] theorem setModeMark_lamps (n : NodeAddr) (s : State) : (setModeMark n s).lamps = s.lamps := rfl
@[simp] theorem setModeMark_supply (n : NodeAddr) (s : State) : (setModeMark n s).supply = s.supply := rfl
@[simp] theorem setModeMark_emergency (n : NodeAddr) (s : State) : (setModeMark n s).emergency = s.emergency := rfl
@[simp] theorem setModeMark_pending (n : NodeAddr) (s : State) : (setModeMark n s).pending = s.pending := rfl

/-! setLampMark changes nodes, lines only. -/

@[simp] theorem setLampMark_ports (n : NodeAddr) (s : State) : (setLampMark n s).ports = s.ports := rfl
@[simp] theorem setLampMark_attn (n : NodeAddr) (s : State) : (setLampMark n s).attn = s.attn := rfl
@[simp] theorem setLampMark_rooms (n : NodeAddr) (s : State) : (setLampMark n s).rooms = s.rooms := rfl
@[simp] theorem setLampMark_keys (n : NodeAddr) (s : State) : (setLampMark n s).keys = s.keys := rfl
@[simp] theorem setLampMark_verdict (n : NodeAddr) (s : State) : (setLampMark n s).verdict = s.verdict := rfl
@[simp] theorem setLampMark_charge (n : NodeAddr) (s : State) : (setLampMark n s).charge = s.charge := rfl
@[simp] theorem setLampMark_journal (n : NodeAddr) (s : State) : (setLampMark n s).journal = s.journal := rfl
@[simp] theorem setLampMark_lamps (n : NodeAddr) (s : State) : (setLampMark n s).lamps = s.lamps := rfl
@[simp] theorem setLampMark_supply (n : NodeAddr) (s : State) : (setLampMark n s).supply = s.supply := rfl
@[simp] theorem setLampMark_emergency (n : NodeAddr) (s : State) : (setLampMark n s).emergency = s.emergency := rfl
@[simp] theorem setLampMark_pending (n : NodeAddr) (s : State) : (setLampMark n s).pending = s.pending := rfl

/-! changeModes changes nodes, lines only. -/

@[simp] theorem changeModes_ports (choose : NodeAddr → Node → Option Mode) (s : State) : (changeModes choose s).ports = s.ports := rfl
@[simp] theorem changeModes_attn (choose : NodeAddr → Node → Option Mode) (s : State) : (changeModes choose s).attn = s.attn := rfl
@[simp] theorem changeModes_rooms (choose : NodeAddr → Node → Option Mode) (s : State) : (changeModes choose s).rooms = s.rooms := rfl
@[simp] theorem changeModes_keys (choose : NodeAddr → Node → Option Mode) (s : State) : (changeModes choose s).keys = s.keys := rfl
@[simp] theorem changeModes_verdict (choose : NodeAddr → Node → Option Mode) (s : State) : (changeModes choose s).verdict = s.verdict := rfl
@[simp] theorem changeModes_charge (choose : NodeAddr → Node → Option Mode) (s : State) : (changeModes choose s).charge = s.charge := rfl
@[simp] theorem changeModes_journal (choose : NodeAddr → Node → Option Mode) (s : State) : (changeModes choose s).journal = s.journal := rfl
@[simp] theorem changeModes_lamps (choose : NodeAddr → Node → Option Mode) (s : State) : (changeModes choose s).lamps = s.lamps := rfl
@[simp] theorem changeModes_supply (choose : NodeAddr → Node → Option Mode) (s : State) : (changeModes choose s).supply = s.supply := rfl
@[simp] theorem changeModes_emergency (choose : NodeAddr → Node → Option Mode) (s : State) : (changeModes choose s).emergency = s.emergency := rfl
@[simp] theorem changeModes_pending (choose : NodeAddr → Node → Option Mode) (s : State) : (changeModes choose s).pending = s.pending := rfl

/-! leaveService changes nodes, rooms, lamps only. -/

@[simp] theorem leaveService_ports (which : NodeAddr → Bool) (s : State) : (leaveService which s).ports = s.ports := rfl
@[simp] theorem leaveService_attn (which : NodeAddr → Bool) (s : State) : (leaveService which s).attn = s.attn := rfl
@[simp] theorem leaveService_keys (which : NodeAddr → Bool) (s : State) : (leaveService which s).keys = s.keys := rfl
@[simp] theorem leaveService_verdict (which : NodeAddr → Bool) (s : State) : (leaveService which s).verdict = s.verdict := rfl
@[simp] theorem leaveService_lines (which : NodeAddr → Bool) (s : State) : (leaveService which s).lines = s.lines := rfl
@[simp] theorem leaveService_charge (which : NodeAddr → Bool) (s : State) : (leaveService which s).charge = s.charge := rfl
@[simp] theorem leaveService_journal (which : NodeAddr → Bool) (s : State) : (leaveService which s).journal = s.journal := rfl
@[simp] theorem leaveService_supply (which : NodeAddr → Bool) (s : State) : (leaveService which s).supply = s.supply := rfl
@[simp] theorem leaveService_emergency (which : NodeAddr → Bool) (s : State) : (leaveService which s).emergency = s.emergency := rfl
@[simp] theorem leaveService_pending (which : NodeAddr → Bool) (s : State) : (leaveService which s).pending = s.pending := rfl

/-! requestSweep changes lamps only. -/

@[simp] theorem requestSweep_ports (k : SweepKind) (s : State) : (requestSweep k s).ports = s.ports := rfl
@[simp] theorem requestSweep_attn (k : SweepKind) (s : State) : (requestSweep k s).attn = s.attn := rfl
@[simp] theorem requestSweep_rooms (k : SweepKind) (s : State) : (requestSweep k s).rooms = s.rooms := rfl
@[simp] theorem requestSweep_keys (k : SweepKind) (s : State) : (requestSweep k s).keys = s.keys := rfl
@[simp] theorem requestSweep_verdict (k : SweepKind) (s : State) : (requestSweep k s).verdict = s.verdict := rfl
@[simp] theorem requestSweep_nodes (k : SweepKind) (s : State) : (requestSweep k s).nodes = s.nodes := rfl
@[simp] theorem requestSweep_lines (k : SweepKind) (s : State) : (requestSweep k s).lines = s.lines := rfl
@[simp] theorem requestSweep_charge (k : SweepKind) (s : State) : (requestSweep k s).charge = s.charge := rfl
@[simp] theorem requestSweep_journal (k : SweepKind) (s : State) : (requestSweep k s).journal = s.journal := rfl
@[simp] theorem requestSweep_supply (k : SweepKind) (s : State) : (requestSweep k s).supply = s.supply := rfl
@[simp] theorem requestSweep_emergency (k : SweepKind) (s : State) : (requestSweep k s).emergency = s.emergency := rfl
@[simp] theorem requestSweep_pending (k : SweepKind) (s : State) : (requestSweep k s).pending = s.pending := rfl

/-! appendVerdict changes lines only. -/

@[simp] theorem appendVerdict_ports (l : LineIx) (v : QueuedVerdict) (s : State) : (appendVerdict l v s).ports = s.ports := rfl
@[simp] theorem appendVerdict_attn (l : LineIx) (v : QueuedVerdict) (s : State) : (appendVerdict l v s).attn = s.attn := rfl
@[simp] theorem appendVerdict_rooms (l : LineIx) (v : QueuedVerdict) (s : State) : (appendVerdict l v s).rooms = s.rooms := rfl
@[simp] theorem appendVerdict_keys (l : LineIx) (v : QueuedVerdict) (s : State) : (appendVerdict l v s).keys = s.keys := rfl
@[simp] theorem appendVerdict_verdict (l : LineIx) (v : QueuedVerdict) (s : State) : (appendVerdict l v s).verdict = s.verdict := rfl
@[simp] theorem appendVerdict_nodes (l : LineIx) (v : QueuedVerdict) (s : State) : (appendVerdict l v s).nodes = s.nodes := rfl
@[simp] theorem appendVerdict_charge (l : LineIx) (v : QueuedVerdict) (s : State) : (appendVerdict l v s).charge = s.charge := rfl
@[simp] theorem appendVerdict_journal (l : LineIx) (v : QueuedVerdict) (s : State) : (appendVerdict l v s).journal = s.journal := rfl
@[simp] theorem appendVerdict_lamps (l : LineIx) (v : QueuedVerdict) (s : State) : (appendVerdict l v s).lamps = s.lamps := rfl
@[simp] theorem appendVerdict_supply (l : LineIx) (v : QueuedVerdict) (s : State) : (appendVerdict l v s).supply = s.supply := rfl
@[simp] theorem appendVerdict_emergency (l : LineIx) (v : QueuedVerdict) (s : State) : (appendVerdict l v s).emergency = s.emergency := rfl
@[simp] theorem appendVerdict_pending (l : LineIx) (v : QueuedVerdict) (s : State) : (appendVerdict l v s).pending = s.pending := rfl

/-! markJudged changes verdict only. -/

@[simp] theorem markJudged_ports (i : Nat) (v : Verdict) (s : State) : (markJudged i v s).ports = s.ports := rfl
@[simp] theorem markJudged_attn (i : Nat) (v : Verdict) (s : State) : (markJudged i v s).attn = s.attn := rfl
@[simp] theorem markJudged_rooms (i : Nat) (v : Verdict) (s : State) : (markJudged i v s).rooms = s.rooms := rfl
@[simp] theorem markJudged_keys (i : Nat) (v : Verdict) (s : State) : (markJudged i v s).keys = s.keys := rfl
@[simp] theorem markJudged_nodes (i : Nat) (v : Verdict) (s : State) : (markJudged i v s).nodes = s.nodes := rfl
@[simp] theorem markJudged_lines (i : Nat) (v : Verdict) (s : State) : (markJudged i v s).lines = s.lines := rfl
@[simp] theorem markJudged_charge (i : Nat) (v : Verdict) (s : State) : (markJudged i v s).charge = s.charge := rfl
@[simp] theorem markJudged_journal (i : Nat) (v : Verdict) (s : State) : (markJudged i v s).journal = s.journal := rfl
@[simp] theorem markJudged_lamps (i : Nat) (v : Verdict) (s : State) : (markJudged i v s).lamps = s.lamps := rfl
@[simp] theorem markJudged_supply (i : Nat) (v : Verdict) (s : State) : (markJudged i v s).supply = s.supply := rfl
@[simp] theorem markJudged_emergency (i : Nat) (v : Verdict) (s : State) : (markJudged i v s).emergency = s.emergency := rfl
@[simp] theorem markJudged_pending (i : Nat) (v : Verdict) (s : State) : (markJudged i v s).pending = s.pending := rfl

/-! queueVerdict changes verdict, lines only. -/

@[simp] theorem queueVerdict_ports (i : Nat) (x : Gathered) (d : Decision) (s : State) : (queueVerdict i x d s).ports = s.ports := rfl
@[simp] theorem queueVerdict_attn (i : Nat) (x : Gathered) (d : Decision) (s : State) : (queueVerdict i x d s).attn = s.attn := rfl
@[simp] theorem queueVerdict_rooms (i : Nat) (x : Gathered) (d : Decision) (s : State) : (queueVerdict i x d s).rooms = s.rooms := rfl
@[simp] theorem queueVerdict_keys (i : Nat) (x : Gathered) (d : Decision) (s : State) : (queueVerdict i x d s).keys = s.keys := rfl
@[simp] theorem queueVerdict_nodes (i : Nat) (x : Gathered) (d : Decision) (s : State) : (queueVerdict i x d s).nodes = s.nodes := rfl
@[simp] theorem queueVerdict_charge (i : Nat) (x : Gathered) (d : Decision) (s : State) : (queueVerdict i x d s).charge = s.charge := rfl
@[simp] theorem queueVerdict_journal (i : Nat) (x : Gathered) (d : Decision) (s : State) : (queueVerdict i x d s).journal = s.journal := rfl
@[simp] theorem queueVerdict_lamps (i : Nat) (x : Gathered) (d : Decision) (s : State) : (queueVerdict i x d s).lamps = s.lamps := rfl
@[simp] theorem queueVerdict_supply (i : Nat) (x : Gathered) (d : Decision) (s : State) : (queueVerdict i x d s).supply = s.supply := rfl
@[simp] theorem queueVerdict_emergency (i : Nat) (x : Gathered) (d : Decision) (s : State) : (queueVerdict i x d s).emergency = s.emergency := rfl
@[simp] theorem queueVerdict_pending (i : Nat) (x : Gathered) (d : Decision) (s : State) : (queueVerdict i x d s).pending = s.pending := rfl

/-! releasePresentation changes verdict only. -/

@[simp] theorem releasePresentation_ports (l : LineIx) (s : State) : (releasePresentation l s).ports = s.ports := rfl
@[simp] theorem releasePresentation_attn (l : LineIx) (s : State) : (releasePresentation l s).attn = s.attn := rfl
@[simp] theorem releasePresentation_rooms (l : LineIx) (s : State) : (releasePresentation l s).rooms = s.rooms := rfl
@[simp] theorem releasePresentation_keys (l : LineIx) (s : State) : (releasePresentation l s).keys = s.keys := rfl
@[simp] theorem releasePresentation_nodes (l : LineIx) (s : State) : (releasePresentation l s).nodes = s.nodes := rfl
@[simp] theorem releasePresentation_lines (l : LineIx) (s : State) : (releasePresentation l s).lines = s.lines := rfl
@[simp] theorem releasePresentation_charge (l : LineIx) (s : State) : (releasePresentation l s).charge = s.charge := rfl
@[simp] theorem releasePresentation_journal (l : LineIx) (s : State) : (releasePresentation l s).journal = s.journal := rfl
@[simp] theorem releasePresentation_lamps (l : LineIx) (s : State) : (releasePresentation l s).lamps = s.lamps := rfl
@[simp] theorem releasePresentation_supply (l : LineIx) (s : State) : (releasePresentation l s).supply = s.supply := rfl
@[simp] theorem releasePresentation_emergency (l : LineIx) (s : State) : (releasePresentation l s).emergency = s.emergency := rfl
@[simp] theorem releasePresentation_pending (l : LineIx) (s : State) : (releasePresentation l s).pending = s.pending := rfl

/-! joinWatch changes verdict only. -/

@[simp] theorem joinWatch_ports (w : WatchEntry) (s : State) : (joinWatch w s).ports = s.ports := rfl
@[simp] theorem joinWatch_attn (w : WatchEntry) (s : State) : (joinWatch w s).attn = s.attn := rfl
@[simp] theorem joinWatch_rooms (w : WatchEntry) (s : State) : (joinWatch w s).rooms = s.rooms := rfl
@[simp] theorem joinWatch_keys (w : WatchEntry) (s : State) : (joinWatch w s).keys = s.keys := rfl
@[simp] theorem joinWatch_nodes (w : WatchEntry) (s : State) : (joinWatch w s).nodes = s.nodes := rfl
@[simp] theorem joinWatch_lines (w : WatchEntry) (s : State) : (joinWatch w s).lines = s.lines := rfl
@[simp] theorem joinWatch_charge (w : WatchEntry) (s : State) : (joinWatch w s).charge = s.charge := rfl
@[simp] theorem joinWatch_journal (w : WatchEntry) (s : State) : (joinWatch w s).journal = s.journal := rfl
@[simp] theorem joinWatch_lamps (w : WatchEntry) (s : State) : (joinWatch w s).lamps = s.lamps := rfl
@[simp] theorem joinWatch_supply (w : WatchEntry) (s : State) : (joinWatch w s).supply = s.supply := rfl
@[simp] theorem joinWatch_emergency (w : WatchEntry) (s : State) : (joinWatch w s).emergency = s.emergency := rfl
@[simp] theorem joinWatch_pending (w : WatchEntry) (s : State) : (joinWatch w s).pending = s.pending := rfl

/-! addSession changes charge only. -/

@[simp] theorem addSession_ports (x : Session) (s : State) : (addSession x s).ports = s.ports := rfl
@[simp] theorem addSession_attn (x : Session) (s : State) : (addSession x s).attn = s.attn := rfl
@[simp] theorem addSession_rooms (x : Session) (s : State) : (addSession x s).rooms = s.rooms := rfl
@[simp] theorem addSession_keys (x : Session) (s : State) : (addSession x s).keys = s.keys := rfl
@[simp] theorem addSession_verdict (x : Session) (s : State) : (addSession x s).verdict = s.verdict := rfl
@[simp] theorem addSession_nodes (x : Session) (s : State) : (addSession x s).nodes = s.nodes := rfl
@[simp] theorem addSession_lines (x : Session) (s : State) : (addSession x s).lines = s.lines := rfl
@[simp] theorem addSession_journal (x : Session) (s : State) : (addSession x s).journal = s.journal := rfl
@[simp] theorem addSession_lamps (x : Session) (s : State) : (addSession x s).lamps = s.lamps := rfl
@[simp] theorem addSession_supply (x : Session) (s : State) : (addSession x s).supply = s.supply := rfl
@[simp] theorem addSession_emergency (x : Session) (s : State) : (addSession x s).emergency = s.emergency := rfl
@[simp] theorem addSession_pending (x : Session) (s : State) : (addSession x s).pending = s.pending := rfl

/-! putSession changes charge only. -/

@[simp] theorem putSession_ports (x : Session) (s : State) : (putSession x s).ports = s.ports := rfl
@[simp] theorem putSession_attn (x : Session) (s : State) : (putSession x s).attn = s.attn := rfl
@[simp] theorem putSession_rooms (x : Session) (s : State) : (putSession x s).rooms = s.rooms := rfl
@[simp] theorem putSession_keys (x : Session) (s : State) : (putSession x s).keys = s.keys := rfl
@[simp] theorem putSession_verdict (x : Session) (s : State) : (putSession x s).verdict = s.verdict := rfl
@[simp] theorem putSession_nodes (x : Session) (s : State) : (putSession x s).nodes = s.nodes := rfl
@[simp] theorem putSession_lines (x : Session) (s : State) : (putSession x s).lines = s.lines := rfl
@[simp] theorem putSession_journal (x : Session) (s : State) : (putSession x s).journal = s.journal := rfl
@[simp] theorem putSession_lamps (x : Session) (s : State) : (putSession x s).lamps = s.lamps := rfl
@[simp] theorem putSession_supply (x : Session) (s : State) : (putSession x s).supply = s.supply := rfl
@[simp] theorem putSession_emergency (x : Session) (s : State) : (putSession x s).emergency = s.emergency := rfl
@[simp] theorem putSession_pending (x : Session) (s : State) : (putSession x s).pending = s.pending := rfl

/-! appendLine changes charge only. -/

@[simp] theorem appendLine_ports (f : FolioIx) (x : Session) (k : TraySlot) (t : TrayKind) (c : Nat) (a : Stamp) (s : State) : (appendLine f x k t c a s).ports = s.ports := rfl
@[simp] theorem appendLine_attn (f : FolioIx) (x : Session) (k : TraySlot) (t : TrayKind) (c : Nat) (a : Stamp) (s : State) : (appendLine f x k t c a s).attn = s.attn := rfl
@[simp] theorem appendLine_rooms (f : FolioIx) (x : Session) (k : TraySlot) (t : TrayKind) (c : Nat) (a : Stamp) (s : State) : (appendLine f x k t c a s).rooms = s.rooms := rfl
@[simp] theorem appendLine_keys (f : FolioIx) (x : Session) (k : TraySlot) (t : TrayKind) (c : Nat) (a : Stamp) (s : State) : (appendLine f x k t c a s).keys = s.keys := rfl
@[simp] theorem appendLine_verdict (f : FolioIx) (x : Session) (k : TraySlot) (t : TrayKind) (c : Nat) (a : Stamp) (s : State) : (appendLine f x k t c a s).verdict = s.verdict := rfl
@[simp] theorem appendLine_nodes (f : FolioIx) (x : Session) (k : TraySlot) (t : TrayKind) (c : Nat) (a : Stamp) (s : State) : (appendLine f x k t c a s).nodes = s.nodes := rfl
@[simp] theorem appendLine_lines (f : FolioIx) (x : Session) (k : TraySlot) (t : TrayKind) (c : Nat) (a : Stamp) (s : State) : (appendLine f x k t c a s).lines = s.lines := rfl
@[simp] theorem appendLine_journal (f : FolioIx) (x : Session) (k : TraySlot) (t : TrayKind) (c : Nat) (a : Stamp) (s : State) : (appendLine f x k t c a s).journal = s.journal := rfl
@[simp] theorem appendLine_lamps (f : FolioIx) (x : Session) (k : TraySlot) (t : TrayKind) (c : Nat) (a : Stamp) (s : State) : (appendLine f x k t c a s).lamps = s.lamps := rfl
@[simp] theorem appendLine_supply (f : FolioIx) (x : Session) (k : TraySlot) (t : TrayKind) (c : Nat) (a : Stamp) (s : State) : (appendLine f x k t c a s).supply = s.supply := rfl
@[simp] theorem appendLine_emergency (f : FolioIx) (x : Session) (k : TraySlot) (t : TrayKind) (c : Nat) (a : Stamp) (s : State) : (appendLine f x k t c a s).emergency = s.emergency := rfl
@[simp] theorem appendLine_pending (f : FolioIx) (x : Session) (k : TraySlot) (t : TrayKind) (c : Nat) (a : Stamp) (s : State) : (appendLine f x k t c a s).pending = s.pending := rfl

/-! queueMark changes journal only. -/

@[simp] theorem queueMark_ports (c : MarkClaim) (s : State) : (queueMark c s).ports = s.ports := rfl
@[simp] theorem queueMark_attn (c : MarkClaim) (s : State) : (queueMark c s).attn = s.attn := rfl
@[simp] theorem queueMark_rooms (c : MarkClaim) (s : State) : (queueMark c s).rooms = s.rooms := rfl
@[simp] theorem queueMark_keys (c : MarkClaim) (s : State) : (queueMark c s).keys = s.keys := rfl
@[simp] theorem queueMark_verdict (c : MarkClaim) (s : State) : (queueMark c s).verdict = s.verdict := rfl
@[simp] theorem queueMark_nodes (c : MarkClaim) (s : State) : (queueMark c s).nodes = s.nodes := rfl
@[simp] theorem queueMark_lines (c : MarkClaim) (s : State) : (queueMark c s).lines = s.lines := rfl
@[simp] theorem queueMark_charge (c : MarkClaim) (s : State) : (queueMark c s).charge = s.charge := rfl
@[simp] theorem queueMark_lamps (c : MarkClaim) (s : State) : (queueMark c s).lamps = s.lamps := rfl
@[simp] theorem queueMark_supply (c : MarkClaim) (s : State) : (queueMark c s).supply = s.supply := rfl
@[simp] theorem queueMark_emergency (c : MarkClaim) (s : State) : (queueMark c s).emergency = s.emergency := rfl
@[simp] theorem queueMark_pending (c : MarkClaim) (s : State) : (queueMark c s).pending = s.pending := rfl

/-! writeGuards changes journal only. -/

@[simp] theorem writeGuards_ports (v : Bool) (g : Set16) (s : State) : (writeGuards v g s).ports = s.ports := rfl
@[simp] theorem writeGuards_attn (v : Bool) (g : Set16) (s : State) : (writeGuards v g s).attn = s.attn := rfl
@[simp] theorem writeGuards_rooms (v : Bool) (g : Set16) (s : State) : (writeGuards v g s).rooms = s.rooms := rfl
@[simp] theorem writeGuards_keys (v : Bool) (g : Set16) (s : State) : (writeGuards v g s).keys = s.keys := rfl
@[simp] theorem writeGuards_verdict (v : Bool) (g : Set16) (s : State) : (writeGuards v g s).verdict = s.verdict := rfl
@[simp] theorem writeGuards_nodes (v : Bool) (g : Set16) (s : State) : (writeGuards v g s).nodes = s.nodes := rfl
@[simp] theorem writeGuards_lines (v : Bool) (g : Set16) (s : State) : (writeGuards v g s).lines = s.lines := rfl
@[simp] theorem writeGuards_charge (v : Bool) (g : Set16) (s : State) : (writeGuards v g s).charge = s.charge := rfl
@[simp] theorem writeGuards_lamps (v : Bool) (g : Set16) (s : State) : (writeGuards v g s).lamps = s.lamps := rfl
@[simp] theorem writeGuards_supply (v : Bool) (g : Set16) (s : State) : (writeGuards v g s).supply = s.supply := rfl
@[simp] theorem writeGuards_emergency (v : Bool) (g : Set16) (s : State) : (writeGuards v g s).emergency = s.emergency := rfl
@[simp] theorem writeGuards_pending (v : Bool) (g : Set16) (s : State) : (writeGuards v g s).pending = s.pending := rfl

/-! beginExchange changes lines only. -/

@[simp] theorem beginExchange_ports (l : LineIx) (a : Fin 64) (x : OutFrame) (s : State) : (beginExchange l a x s).ports = s.ports := rfl
@[simp] theorem beginExchange_attn (l : LineIx) (a : Fin 64) (x : OutFrame) (s : State) : (beginExchange l a x s).attn = s.attn := rfl
@[simp] theorem beginExchange_rooms (l : LineIx) (a : Fin 64) (x : OutFrame) (s : State) : (beginExchange l a x s).rooms = s.rooms := rfl
@[simp] theorem beginExchange_keys (l : LineIx) (a : Fin 64) (x : OutFrame) (s : State) : (beginExchange l a x s).keys = s.keys := rfl
@[simp] theorem beginExchange_verdict (l : LineIx) (a : Fin 64) (x : OutFrame) (s : State) : (beginExchange l a x s).verdict = s.verdict := rfl
@[simp] theorem beginExchange_nodes (l : LineIx) (a : Fin 64) (x : OutFrame) (s : State) : (beginExchange l a x s).nodes = s.nodes := rfl
@[simp] theorem beginExchange_charge (l : LineIx) (a : Fin 64) (x : OutFrame) (s : State) : (beginExchange l a x s).charge = s.charge := rfl
@[simp] theorem beginExchange_journal (l : LineIx) (a : Fin 64) (x : OutFrame) (s : State) : (beginExchange l a x s).journal = s.journal := rfl
@[simp] theorem beginExchange_lamps (l : LineIx) (a : Fin 64) (x : OutFrame) (s : State) : (beginExchange l a x s).lamps = s.lamps := rfl
@[simp] theorem beginExchange_supply (l : LineIx) (a : Fin 64) (x : OutFrame) (s : State) : (beginExchange l a x s).supply = s.supply := rfl
@[simp] theorem beginExchange_emergency (l : LineIx) (a : Fin 64) (x : OutFrame) (s : State) : (beginExchange l a x s).emergency = s.emergency := rfl
@[simp] theorem beginExchange_pending (l : LineIx) (a : Fin 64) (x : OutFrame) (s : State) : (beginExchange l a x s).pending = s.pending := rfl

/-! endExchange changes lines only. -/

@[simp] theorem endExchange_ports (l : LineIx) (s : State) : (endExchange l s).ports = s.ports := rfl
@[simp] theorem endExchange_attn (l : LineIx) (s : State) : (endExchange l s).attn = s.attn := rfl
@[simp] theorem endExchange_rooms (l : LineIx) (s : State) : (endExchange l s).rooms = s.rooms := rfl
@[simp] theorem endExchange_keys (l : LineIx) (s : State) : (endExchange l s).keys = s.keys := rfl
@[simp] theorem endExchange_verdict (l : LineIx) (s : State) : (endExchange l s).verdict = s.verdict := rfl
@[simp] theorem endExchange_nodes (l : LineIx) (s : State) : (endExchange l s).nodes = s.nodes := rfl
@[simp] theorem endExchange_charge (l : LineIx) (s : State) : (endExchange l s).charge = s.charge := rfl
@[simp] theorem endExchange_journal (l : LineIx) (s : State) : (endExchange l s).journal = s.journal := rfl
@[simp] theorem endExchange_lamps (l : LineIx) (s : State) : (endExchange l s).lamps = s.lamps := rfl
@[simp] theorem endExchange_supply (l : LineIx) (s : State) : (endExchange l s).supply = s.supply := rfl
@[simp] theorem endExchange_emergency (l : LineIx) (s : State) : (endExchange l s).emergency = s.emergency := rfl
@[simp] theorem endExchange_pending (l : LineIx) (s : State) : (endExchange l s).pending = s.pending := rfl

/-! dropBusy changes lines only. -/

@[simp] theorem dropBusy_ports (l : LineIx) (s : State) : (dropBusy l s).ports = s.ports := rfl
@[simp] theorem dropBusy_attn (l : LineIx) (s : State) : (dropBusy l s).attn = s.attn := rfl
@[simp] theorem dropBusy_rooms (l : LineIx) (s : State) : (dropBusy l s).rooms = s.rooms := rfl
@[simp] theorem dropBusy_keys (l : LineIx) (s : State) : (dropBusy l s).keys = s.keys := rfl
@[simp] theorem dropBusy_verdict (l : LineIx) (s : State) : (dropBusy l s).verdict = s.verdict := rfl
@[simp] theorem dropBusy_nodes (l : LineIx) (s : State) : (dropBusy l s).nodes = s.nodes := rfl
@[simp] theorem dropBusy_charge (l : LineIx) (s : State) : (dropBusy l s).charge = s.charge := rfl
@[simp] theorem dropBusy_journal (l : LineIx) (s : State) : (dropBusy l s).journal = s.journal := rfl
@[simp] theorem dropBusy_lamps (l : LineIx) (s : State) : (dropBusy l s).lamps = s.lamps := rfl
@[simp] theorem dropBusy_supply (l : LineIx) (s : State) : (dropBusy l s).supply = s.supply := rfl
@[simp] theorem dropBusy_emergency (l : LineIx) (s : State) : (dropBusy l s).emergency = s.emergency := rfl
@[simp] theorem dropBusy_pending (l : LineIx) (s : State) : (dropBusy l s).pending = s.pending := rfl

/-! configureNode changes nodes only. -/

@[simp] theorem configureNode_ports (a : NodeWrite) (s : State) : (configureNode a s).ports = s.ports := rfl
@[simp] theorem configureNode_attn (a : NodeWrite) (s : State) : (configureNode a s).attn = s.attn := rfl
@[simp] theorem configureNode_rooms (a : NodeWrite) (s : State) : (configureNode a s).rooms = s.rooms := rfl
@[simp] theorem configureNode_keys (a : NodeWrite) (s : State) : (configureNode a s).keys = s.keys := rfl
@[simp] theorem configureNode_verdict (a : NodeWrite) (s : State) : (configureNode a s).verdict = s.verdict := rfl
@[simp] theorem configureNode_lines (a : NodeWrite) (s : State) : (configureNode a s).lines = s.lines := rfl
@[simp] theorem configureNode_charge (a : NodeWrite) (s : State) : (configureNode a s).charge = s.charge := rfl
@[simp] theorem configureNode_journal (a : NodeWrite) (s : State) : (configureNode a s).journal = s.journal := rfl
@[simp] theorem configureNode_lamps (a : NodeWrite) (s : State) : (configureNode a s).lamps = s.lamps := rfl
@[simp] theorem configureNode_supply (a : NodeWrite) (s : State) : (configureNode a s).supply = s.supply := rfl
@[simp] theorem configureNode_emergency (a : NodeWrite) (s : State) : (configureNode a s).emergency = s.emergency := rfl
@[simp] theorem configureNode_pending (a : NodeWrite) (s : State) : (configureNode a s).pending = s.pending := rfl

/-! clearModeMarks changes nodes only. -/

@[simp] theorem clearModeMarks_ports (which : NodeAddr → Bool) (s : State) : (clearModeMarks which s).ports = s.ports := rfl
@[simp] theorem clearModeMarks_attn (which : NodeAddr → Bool) (s : State) : (clearModeMarks which s).attn = s.attn := rfl
@[simp] theorem clearModeMarks_rooms (which : NodeAddr → Bool) (s : State) : (clearModeMarks which s).rooms = s.rooms := rfl
@[simp] theorem clearModeMarks_keys (which : NodeAddr → Bool) (s : State) : (clearModeMarks which s).keys = s.keys := rfl
@[simp] theorem clearModeMarks_verdict (which : NodeAddr → Bool) (s : State) : (clearModeMarks which s).verdict = s.verdict := rfl
@[simp] theorem clearModeMarks_lines (which : NodeAddr → Bool) (s : State) : (clearModeMarks which s).lines = s.lines := rfl
@[simp] theorem clearModeMarks_charge (which : NodeAddr → Bool) (s : State) : (clearModeMarks which s).charge = s.charge := rfl
@[simp] theorem clearModeMarks_journal (which : NodeAddr → Bool) (s : State) : (clearModeMarks which s).journal = s.journal := rfl
@[simp] theorem clearModeMarks_lamps (which : NodeAddr → Bool) (s : State) : (clearModeMarks which s).lamps = s.lamps := rfl
@[simp] theorem clearModeMarks_supply (which : NodeAddr → Bool) (s : State) : (clearModeMarks which s).supply = s.supply := rfl
@[simp] theorem clearModeMarks_emergency (which : NodeAddr → Bool) (s : State) : (clearModeMarks which s).emergency = s.emergency := rfl
@[simp] theorem clearModeMarks_pending (which : NodeAddr → Bool) (s : State) : (clearModeMarks which s).pending = s.pending := rfl

/-! unpollNodes changes nodes only. -/

@[simp] theorem unpollNodes_ports (which : NodeAddr → Bool) (s : State) : (unpollNodes which s).ports = s.ports := rfl
@[simp] theorem unpollNodes_attn (which : NodeAddr → Bool) (s : State) : (unpollNodes which s).attn = s.attn := rfl
@[simp] theorem unpollNodes_rooms (which : NodeAddr → Bool) (s : State) : (unpollNodes which s).rooms = s.rooms := rfl
@[simp] theorem unpollNodes_keys (which : NodeAddr → Bool) (s : State) : (unpollNodes which s).keys = s.keys := rfl
@[simp] theorem unpollNodes_verdict (which : NodeAddr → Bool) (s : State) : (unpollNodes which s).verdict = s.verdict := rfl
@[simp] theorem unpollNodes_lines (which : NodeAddr → Bool) (s : State) : (unpollNodes which s).lines = s.lines := rfl
@[simp] theorem unpollNodes_charge (which : NodeAddr → Bool) (s : State) : (unpollNodes which s).charge = s.charge := rfl
@[simp] theorem unpollNodes_journal (which : NodeAddr → Bool) (s : State) : (unpollNodes which s).journal = s.journal := rfl
@[simp] theorem unpollNodes_lamps (which : NodeAddr → Bool) (s : State) : (unpollNodes which s).lamps = s.lamps := rfl
@[simp] theorem unpollNodes_supply (which : NodeAddr → Bool) (s : State) : (unpollNodes which s).supply = s.supply := rfl
@[simp] theorem unpollNodes_emergency (which : NodeAddr → Bool) (s : State) : (unpollNodes which s).emergency = s.emergency := rfl
@[simp] theorem unpollNodes_pending (which : NodeAddr → Bool) (s : State) : (unpollNodes which s).pending = s.pending := rfl

/-! linesRetain changes nodes, lines only. -/

@[simp] theorem linesRetain_ports (s : State) : (linesRetain s).ports = s.ports := rfl
@[simp] theorem linesRetain_attn (s : State) : (linesRetain s).attn = s.attn := rfl
@[simp] theorem linesRetain_rooms (s : State) : (linesRetain s).rooms = s.rooms := rfl
@[simp] theorem linesRetain_keys (s : State) : (linesRetain s).keys = s.keys := rfl
@[simp] theorem linesRetain_verdict (s : State) : (linesRetain s).verdict = s.verdict := rfl
@[simp] theorem linesRetain_charge (s : State) : (linesRetain s).charge = s.charge := rfl
@[simp] theorem linesRetain_journal (s : State) : (linesRetain s).journal = s.journal := rfl
@[simp] theorem linesRetain_lamps (s : State) : (linesRetain s).lamps = s.lamps := rfl
@[simp] theorem linesRetain_supply (s : State) : (linesRetain s).supply = s.supply := rfl
@[simp] theorem linesRetain_emergency (s : State) : (linesRetain s).emergency = s.emergency := rfl
@[simp] theorem linesRetain_pending (s : State) : (linesRetain s).pending = s.pending := rfl

/-! indicatorTaken changes attn only. -/

@[simp] theorem indicatorTaken_ports (s : State) : (indicatorTaken s).ports = s.ports := rfl
@[simp] theorem indicatorTaken_rooms (s : State) : (indicatorTaken s).rooms = s.rooms := rfl
@[simp] theorem indicatorTaken_keys (s : State) : (indicatorTaken s).keys = s.keys := rfl
@[simp] theorem indicatorTaken_verdict (s : State) : (indicatorTaken s).verdict = s.verdict := rfl
@[simp] theorem indicatorTaken_nodes (s : State) : (indicatorTaken s).nodes = s.nodes := rfl
@[simp] theorem indicatorTaken_lines (s : State) : (indicatorTaken s).lines = s.lines := rfl
@[simp] theorem indicatorTaken_charge (s : State) : (indicatorTaken s).charge = s.charge := rfl
@[simp] theorem indicatorTaken_journal (s : State) : (indicatorTaken s).journal = s.journal := rfl
@[simp] theorem indicatorTaken_lamps (s : State) : (indicatorTaken s).lamps = s.lamps := rfl
@[simp] theorem indicatorTaken_supply (s : State) : (indicatorTaken s).supply = s.supply := rfl
@[simp] theorem indicatorTaken_emergency (s : State) : (indicatorTaken s).emergency = s.emergency := rfl
@[simp] theorem indicatorTaken_pending (s : State) : (indicatorTaken s).pending = s.pending := rfl

/-! passPeriods changes supply only. -/

@[simp] theorem passPeriods_ports (k : Nat) (s : State) : (passPeriods k s).ports = s.ports := rfl
@[simp] theorem passPeriods_attn (k : Nat) (s : State) : (passPeriods k s).attn = s.attn := rfl
@[simp] theorem passPeriods_rooms (k : Nat) (s : State) : (passPeriods k s).rooms = s.rooms := rfl
@[simp] theorem passPeriods_keys (k : Nat) (s : State) : (passPeriods k s).keys = s.keys := rfl
@[simp] theorem passPeriods_verdict (k : Nat) (s : State) : (passPeriods k s).verdict = s.verdict := rfl
@[simp] theorem passPeriods_nodes (k : Nat) (s : State) : (passPeriods k s).nodes = s.nodes := rfl
@[simp] theorem passPeriods_lines (k : Nat) (s : State) : (passPeriods k s).lines = s.lines := rfl
@[simp] theorem passPeriods_charge (k : Nat) (s : State) : (passPeriods k s).charge = s.charge := rfl
@[simp] theorem passPeriods_journal (k : Nat) (s : State) : (passPeriods k s).journal = s.journal := rfl
@[simp] theorem passPeriods_lamps (k : Nat) (s : State) : (passPeriods k s).lamps = s.lamps := rfl
@[simp] theorem passPeriods_emergency (k : Nat) (s : State) : (passPeriods k s).emergency = s.emergency := rfl
@[simp] theorem passPeriods_pending (k : Nat) (s : State) : (passPeriods k s).pending = s.pending := rfl

/-! setPower changes supply only. -/

@[simp] theorem setPower_ports (p : Power) (s : State) : (setPower p s).ports = s.ports := rfl
@[simp] theorem setPower_attn (p : Power) (s : State) : (setPower p s).attn = s.attn := rfl
@[simp] theorem setPower_rooms (p : Power) (s : State) : (setPower p s).rooms = s.rooms := rfl
@[simp] theorem setPower_keys (p : Power) (s : State) : (setPower p s).keys = s.keys := rfl
@[simp] theorem setPower_verdict (p : Power) (s : State) : (setPower p s).verdict = s.verdict := rfl
@[simp] theorem setPower_nodes (p : Power) (s : State) : (setPower p s).nodes = s.nodes := rfl
@[simp] theorem setPower_lines (p : Power) (s : State) : (setPower p s).lines = s.lines := rfl
@[simp] theorem setPower_charge (p : Power) (s : State) : (setPower p s).charge = s.charge := rfl
@[simp] theorem setPower_journal (p : Power) (s : State) : (setPower p s).journal = s.journal := rfl
@[simp] theorem setPower_lamps (p : Power) (s : State) : (setPower p s).lamps = s.lamps := rfl
@[simp] theorem setPower_emergency (p : Power) (s : State) : (setPower p s).emergency = s.emergency := rfl
@[simp] theorem setPower_pending (p : Power) (s : State) : (setPower p s).pending = s.pending := rfl

end Sys2Proof.Machine
end

