-- ==== Sys2Proof/Laws/Touches.lean ====
section
/-! SUPPORT. For each shared operation that decides by cases: the parts of State it may change, said once, and each part it leaves as
it stands. -/

namespace Sys2Proof.Machine

/-- What answerLong may change. -/
theorem answerLong_touches (c : Command) (r : Reply) (s : State) :
    answerLong c r s =
      { s with ports := (answerLong c r s).ports, attn := (answerLong c r s).attn } := by
  unfold answerLong; split <;> rfl

@[simp] theorem answerLong_rooms (c : Command) (r : Reply) (s : State) : (answerLong c r s).rooms = s.rooms := by
  rw [answerLong_touches]
@[simp] theorem answerLong_keys (c : Command) (r : Reply) (s : State) : (answerLong c r s).keys = s.keys := by
  rw [answerLong_touches]
@[simp] theorem answerLong_verdict (c : Command) (r : Reply) (s : State) : (answerLong c r s).verdict = s.verdict := by
  rw [answerLong_touches]
@[simp] theorem answerLong_nodes (c : Command) (r : Reply) (s : State) : (answerLong c r s).nodes = s.nodes := by
  rw [answerLong_touches]
@[simp] theorem answerLong_lines (c : Command) (r : Reply) (s : State) : (answerLong c r s).lines = s.lines := by
  rw [answerLong_touches]
@[simp] theorem answerLong_charge (c : Command) (r : Reply) (s : State) : (answerLong c r s).charge = s.charge := by
  rw [answerLong_touches]
@[simp] theorem answerLong_journal (c : Command) (r : Reply) (s : State) : (answerLong c r s).journal = s.journal := by
  rw [answerLong_touches]
@[simp] theorem answerLong_lamps (c : Command) (r : Reply) (s : State) : (answerLong c r s).lamps = s.lamps := by
  rw [answerLong_touches]
@[simp] theorem answerLong_supply (c : Command) (r : Reply) (s : State) : (answerLong c r s).supply = s.supply := by
  rw [answerLong_touches]
@[simp] theorem answerLong_emergency (c : Command) (r : Reply) (s : State) : (answerLong c r s).emergency = s.emergency := by
  rw [answerLong_touches]
@[simp] theorem answerLong_pending (c : Command) (r : Reply) (s : State) : (answerLong c r s).pending = s.pending := by
  rw [answerLong_touches]

/-- What settleFlush may change. -/
theorem settleFlush_touches (s : State) :
    settleFlush s =
      { s with ports := (settleFlush s).ports, attn := (settleFlush s).attn, journal := (settleFlush s).journal } := by
  unfold settleFlush
  split
  · split
    · rfl
    · unfold answerLong; split <;> rfl
  · rfl

@[simp] theorem settleFlush_rooms (s : State) : (settleFlush s).rooms = s.rooms := by
  rw [settleFlush_touches]
@[simp] theorem settleFlush_keys (s : State) : (settleFlush s).keys = s.keys := by
  rw [settleFlush_touches]
@[simp] theorem settleFlush_verdict (s : State) : (settleFlush s).verdict = s.verdict := by
  rw [settleFlush_touches]
@[simp] theorem settleFlush_nodes (s : State) : (settleFlush s).nodes = s.nodes := by
  rw [settleFlush_touches]
@[simp] theorem settleFlush_lines (s : State) : (settleFlush s).lines = s.lines := by
  rw [settleFlush_touches]
@[simp] theorem settleFlush_charge (s : State) : (settleFlush s).charge = s.charge := by
  rw [settleFlush_touches]
@[simp] theorem settleFlush_lamps (s : State) : (settleFlush s).lamps = s.lamps := by
  rw [settleFlush_touches]
@[simp] theorem settleFlush_supply (s : State) : (settleFlush s).supply = s.supply := by
  rw [settleFlush_touches]
@[simp] theorem settleFlush_emergency (s : State) : (settleFlush s).emergency = s.emergency := by
  rw [settleFlush_touches]
@[simp] theorem settleFlush_pending (s : State) : (settleFlush s).pending = s.pending := by
  rw [settleFlush_touches]

/-- What offer may change. -/
theorem offer_touches (o : Offer) (s : State) :
    offer o s =
      { s with ports := (offer o s).ports, attn := (offer o s).attn, journal := (offer o s).journal } := by
  unfold offer
  simp only
  split
  · rfl
  · rw [settleFlush_touches]
    split <;> rfl

@[simp] theorem offer_rooms (o : Offer) (s : State) : (offer o s).rooms = s.rooms := by
  rw [offer_touches]
@[simp] theorem offer_keys (o : Offer) (s : State) : (offer o s).keys = s.keys := by
  rw [offer_touches]
@[simp] theorem offer_verdict (o : Offer) (s : State) : (offer o s).verdict = s.verdict := by
  rw [offer_touches]
@[simp] theorem offer_nodes (o : Offer) (s : State) : (offer o s).nodes = s.nodes := by
  rw [offer_touches]
@[simp] theorem offer_lines (o : Offer) (s : State) : (offer o s).lines = s.lines := by
  rw [offer_touches]
@[simp] theorem offer_charge (o : Offer) (s : State) : (offer o s).charge = s.charge := by
  rw [offer_touches]
@[simp] theorem offer_lamps (o : Offer) (s : State) : (offer o s).lamps = s.lamps := by
  rw [offer_touches]
@[simp] theorem offer_supply (o : Offer) (s : State) : (offer o s).supply = s.supply := by
  rw [offer_touches]
@[simp] theorem offer_emergency (o : Offer) (s : State) : (offer o s).emergency = s.emergency := by
  rw [offer_touches]
@[simp] theorem offer_pending (o : Offer) (s : State) : (offer o s).pending = s.pending := by
  rw [offer_touches]

/-- What settleSweep may change. -/
theorem settleSweep_touches (s : State) :
    settleSweep s =
      { s with attn := (settleSweep s).attn, lamps := (settleSweep s).lamps } := by
  unfold settleSweep; split <;> rfl

@[simp] theorem settleSweep_ports (s : State) : (settleSweep s).ports = s.ports := by
  rw [settleSweep_touches]
@[simp] theorem settleSweep_rooms (s : State) : (settleSweep s).rooms = s.rooms := by
  rw [settleSweep_touches]
@[simp] theorem settleSweep_keys (s : State) : (settleSweep s).keys = s.keys := by
  rw [settleSweep_touches]
@[simp] theorem settleSweep_verdict (s : State) : (settleSweep s).verdict = s.verdict := by
  rw [settleSweep_touches]
@[simp] theorem settleSweep_nodes (s : State) : (settleSweep s).nodes = s.nodes := by
  rw [settleSweep_touches]
@[simp] theorem settleSweep_lines (s : State) : (settleSweep s).lines = s.lines := by
  rw [settleSweep_touches]
@[simp] theorem settleSweep_charge (s : State) : (settleSweep s).charge = s.charge := by
  rw [settleSweep_touches]
@[simp] theorem settleSweep_journal (s : State) : (settleSweep s).journal = s.journal := by
  rw [settleSweep_touches]
@[simp] theorem settleSweep_supply (s : State) : (settleSweep s).supply = s.supply := by
  rw [settleSweep_touches]
@[simp] theorem settleSweep_emergency (s : State) : (settleSweep s).emergency = s.emergency := by
  rw [settleSweep_touches]
@[simp] theorem settleSweep_pending (s : State) : (settleSweep s).pending = s.pending := by
  rw [settleSweep_touches]

/-- What clearLampMarks may change. -/
theorem clearLampMarks_touches (which : NodeAddr → Bool) (s : State) :
    clearLampMarks which s =
      { s with attn := (clearLampMarks which s).attn, nodes := (clearLampMarks which s).nodes, lines := (clearLampMarks which s).lines, lamps := (clearLampMarks which s).lamps } := by
  unfold clearLampMarks; rw [settleSweep_touches]

@[simp] theorem clearLampMarks_ports (which : NodeAddr → Bool) (s : State) : (clearLampMarks which s).ports = s.ports := by
  rw [clearLampMarks_touches]
@[simp] theorem clearLampMarks_rooms (which : NodeAddr → Bool) (s : State) : (clearLampMarks which s).rooms = s.rooms := by
  rw [clearLampMarks_touches]
@[simp] theorem clearLampMarks_keys (which : NodeAddr → Bool) (s : State) : (clearLampMarks which s).keys = s.keys := by
  rw [clearLampMarks_touches]
@[simp] theorem clearLampMarks_verdict (which : NodeAddr → Bool) (s : State) : (clearLampMarks which s).verdict = s.verdict := by
  rw [clearLampMarks_touches]
@[simp] theorem clearLampMarks_charge (which : NodeAddr → Bool) (s : State) : (clearLampMarks which s).charge = s.charge := by
  rw [clearLampMarks_touches]
@[simp] theorem clearLampMarks_journal (which : NodeAddr → Bool) (s : State) : (clearLampMarks which s).journal = s.journal := by
  rw [clearLampMarks_touches]
@[simp] theorem clearLampMarks_supply (which : NodeAddr → Bool) (s : State) : (clearLampMarks which s).supply = s.supply := by
  rw [clearLampMarks_touches]
@[simp] theorem clearLampMarks_emergency (which : NodeAddr → Bool) (s : State) : (clearLampMarks which s).emergency = s.emergency := by
  rw [clearLampMarks_touches]
@[simp] theorem clearLampMarks_pending (which : NodeAddr → Bool) (s : State) : (clearLampMarks which s).pending = s.pending := by
  rw [clearLampMarks_touches]

/-- What setPrivacy may change. -/
theorem setPrivacy_touches (r : RoomIx) (v : Bool) (s : State) :
    setPrivacy r v s =
      { s with rooms := (setPrivacy r v s).rooms, lamps := (setPrivacy r v s).lamps } := by
  unfold setPrivacy; split <;> rfl

@[simp] theorem setPrivacy_ports (r : RoomIx) (v : Bool) (s : State) : (setPrivacy r v s).ports = s.ports := by
  rw [setPrivacy_touches]
@[simp] theorem setPrivacy_attn (r : RoomIx) (v : Bool) (s : State) : (setPrivacy r v s).attn = s.attn := by
  rw [setPrivacy_touches]
@[simp] theorem setPrivacy_keys (r : RoomIx) (v : Bool) (s : State) : (setPrivacy r v s).keys = s.keys := by
  rw [setPrivacy_touches]
@[simp] theorem setPrivacy_verdict (r : RoomIx) (v : Bool) (s : State) : (setPrivacy r v s).verdict = s.verdict := by
  rw [setPrivacy_touches]
@[simp] theorem setPrivacy_nodes (r : RoomIx) (v : Bool) (s : State) : (setPrivacy r v s).nodes = s.nodes := by
  rw [setPrivacy_touches]
@[simp] theorem setPrivacy_lines (r : RoomIx) (v : Bool) (s : State) : (setPrivacy r v s).lines = s.lines := by
  rw [setPrivacy_touches]
@[simp] theorem setPrivacy_charge (r : RoomIx) (v : Bool) (s : State) : (setPrivacy r v s).charge = s.charge := by
  rw [setPrivacy_touches]
@[simp] theorem setPrivacy_journal (r : RoomIx) (v : Bool) (s : State) : (setPrivacy r v s).journal = s.journal := by
  rw [setPrivacy_touches]
@[simp] theorem setPrivacy_supply (r : RoomIx) (v : Bool) (s : State) : (setPrivacy r v s).supply = s.supply := by
  rw [setPrivacy_touches]
@[simp] theorem setPrivacy_emergency (r : RoomIx) (v : Bool) (s : State) : (setPrivacy r v s).emergency = s.emergency := by
  rw [setPrivacy_touches]
@[simp] theorem setPrivacy_pending (r : RoomIx) (v : Bool) (s : State) : (setPrivacy r v s).pending = s.pending := by
  rw [setPrivacy_touches]

/-- What setMakeup may change. -/
theorem setMakeup_touches (r : RoomIx) (v : Bool) (s : State) :
    setMakeup r v s =
      { s with rooms := (setMakeup r v s).rooms, lamps := (setMakeup r v s).lamps } := by
  unfold setMakeup; split <;> rfl

@[simp] theorem setMakeup_ports (r : RoomIx) (v : Bool) (s : State) : (setMakeup r v s).ports = s.ports := by
  rw [setMakeup_touches]
@[simp] theorem setMakeup_attn (r : RoomIx) (v : Bool) (s : State) : (setMakeup r v s).attn = s.attn := by
  rw [setMakeup_touches]
@[simp] theorem setMakeup_keys (r : RoomIx) (v : Bool) (s : State) : (setMakeup r v s).keys = s.keys := by
  rw [setMakeup_touches]
@[simp] theorem setMakeup_verdict (r : RoomIx) (v : Bool) (s : State) : (setMakeup r v s).verdict = s.verdict := by
  rw [setMakeup_touches]
@[simp] theorem setMakeup_nodes (r : RoomIx) (v : Bool) (s : State) : (setMakeup r v s).nodes = s.nodes := by
  rw [setMakeup_touches]
@[simp] theorem setMakeup_lines (r : RoomIx) (v : Bool) (s : State) : (setMakeup r v s).lines = s.lines := by
  rw [setMakeup_touches]
@[simp] theorem setMakeup_charge (r : RoomIx) (v : Bool) (s : State) : (setMakeup r v s).charge = s.charge := by
  rw [setMakeup_touches]
@[simp] theorem setMakeup_journal (r : RoomIx) (v : Bool) (s : State) : (setMakeup r v s).journal = s.journal := by
  rw [setMakeup_touches]
@[simp] theorem setMakeup_supply (r : RoomIx) (v : Bool) (s : State) : (setMakeup r v s).supply = s.supply := by
  rw [setMakeup_touches]
@[simp] theorem setMakeup_emergency (r : RoomIx) (v : Bool) (s : State) : (setMakeup r v s).emergency = s.emergency := by
  rw [setMakeup_touches]
@[simp] theorem setMakeup_pending (r : RoomIx) (v : Bool) (s : State) : (setMakeup r v s).pending = s.pending := by
  rw [setMakeup_touches]

/-- What settleFolio may change. -/
theorem settleFolio_touches (f : FolioIx) (s : State) :
    settleFolio f s =
      { s with attn := (settleFolio f s).attn, charge := (settleFolio f s).charge } := by
  unfold settleFolio; split <;> rfl

@[simp] theorem settleFolio_ports (f : FolioIx) (s : State) : (settleFolio f s).ports = s.ports := by
  rw [settleFolio_touches]
@[simp] theorem settleFolio_rooms (f : FolioIx) (s : State) : (settleFolio f s).rooms = s.rooms := by
  rw [settleFolio_touches]
@[simp] theorem settleFolio_keys (f : FolioIx) (s : State) : (settleFolio f s).keys = s.keys := by
  rw [settleFolio_touches]
@[simp] theorem settleFolio_verdict (f : FolioIx) (s : State) : (settleFolio f s).verdict = s.verdict := by
  rw [settleFolio_touches]
@[simp] theorem settleFolio_nodes (f : FolioIx) (s : State) : (settleFolio f s).nodes = s.nodes := by
  rw [settleFolio_touches]
@[simp] theorem settleFolio_lines (f : FolioIx) (s : State) : (settleFolio f s).lines = s.lines := by
  rw [settleFolio_touches]
@[simp] theorem settleFolio_journal (f : FolioIx) (s : State) : (settleFolio f s).journal = s.journal := by
  rw [settleFolio_touches]
@[simp] theorem settleFolio_lamps (f : FolioIx) (s : State) : (settleFolio f s).lamps = s.lamps := by
  rw [settleFolio_touches]
@[simp] theorem settleFolio_supply (f : FolioIx) (s : State) : (settleFolio f s).supply = s.supply := by
  rw [settleFolio_touches]
@[simp] theorem settleFolio_emergency (f : FolioIx) (s : State) : (settleFolio f s).emergency = s.emergency := by
  rw [settleFolio_touches]
@[simp] theorem settleFolio_pending (f : FolioIx) (s : State) : (settleFolio f s).pending = s.pending := by
  rw [settleFolio_touches]

/-- What removeFromFolio may change. -/
theorem removeFromFolio_touches (f : Option FolioIx) (r : RoomIx) (s : State) :
    removeFromFolio f r s =
      { s with attn := (removeFromFolio f r s).attn, charge := (removeFromFolio f r s).charge } := by
  unfold removeFromFolio
  split
  · rw [settleFolio_touches]; rfl
  · rfl

@[simp] theorem removeFromFolio_ports (f : Option FolioIx) (r : RoomIx) (s : State) : (removeFromFolio f r s).ports = s.ports := by
  rw [removeFromFolio_touches]
@[simp] theorem removeFromFolio_rooms (f : Option FolioIx) (r : RoomIx) (s : State) : (removeFromFolio f r s).rooms = s.rooms := by
  rw [removeFromFolio_touches]
@[simp] theorem removeFromFolio_keys (f : Option FolioIx) (r : RoomIx) (s : State) : (removeFromFolio f r s).keys = s.keys := by
  rw [removeFromFolio_touches]
@[simp] theorem removeFromFolio_verdict (f : Option FolioIx) (r : RoomIx) (s : State) : (removeFromFolio f r s).verdict = s.verdict := by
  rw [removeFromFolio_touches]
@[simp] theorem removeFromFolio_nodes (f : Option FolioIx) (r : RoomIx) (s : State) : (removeFromFolio f r s).nodes = s.nodes := by
  rw [removeFromFolio_touches]
@[simp] theorem removeFromFolio_lines (f : Option FolioIx) (r : RoomIx) (s : State) : (removeFromFolio f r s).lines = s.lines := by
  rw [removeFromFolio_touches]
@[simp] theorem removeFromFolio_journal (f : Option FolioIx) (r : RoomIx) (s : State) : (removeFromFolio f r s).journal = s.journal := by
  rw [removeFromFolio_touches]
@[simp] theorem removeFromFolio_lamps (f : Option FolioIx) (r : RoomIx) (s : State) : (removeFromFolio f r s).lamps = s.lamps := by
  rw [removeFromFolio_touches]
@[simp] theorem removeFromFolio_supply (f : Option FolioIx) (r : RoomIx) (s : State) : (removeFromFolio f r s).supply = s.supply := by
  rw [removeFromFolio_touches]
@[simp] theorem removeFromFolio_emergency (f : Option FolioIx) (r : RoomIx) (s : State) : (removeFromFolio f r s).emergency = s.emergency := by
  rw [removeFromFolio_touches]
@[simp] theorem removeFromFolio_pending (f : Option FolioIx) (r : RoomIx) (s : State) : (removeFromFolio f r s).pending = s.pending := by
  rw [removeFromFolio_touches]

/-- What vacate may change. -/
theorem vacate_touches (r : RoomIx) (s : State) :
    vacate r s =
      { s with attn := (vacate r s).attn, rooms := (vacate r s).rooms, charge := (vacate r s).charge, lamps := (vacate r s).lamps } := by
  unfold vacate; simp only; rw [removeFromFolio_touches]; rfl

@[simp] theorem vacate_ports (r : RoomIx) (s : State) : (vacate r s).ports = s.ports := by
  rw [vacate_touches]
@[simp] theorem vacate_keys (r : RoomIx) (s : State) : (vacate r s).keys = s.keys := by
  rw [vacate_touches]
@[simp] theorem vacate_verdict (r : RoomIx) (s : State) : (vacate r s).verdict = s.verdict := by
  rw [vacate_touches]
@[simp] theorem vacate_nodes (r : RoomIx) (s : State) : (vacate r s).nodes = s.nodes := by
  rw [vacate_touches]
@[simp] theorem vacate_lines (r : RoomIx) (s : State) : (vacate r s).lines = s.lines := by
  rw [vacate_touches]
@[simp] theorem vacate_journal (r : RoomIx) (s : State) : (vacate r s).journal = s.journal := by
  rw [vacate_touches]
@[simp] theorem vacate_supply (r : RoomIx) (s : State) : (vacate r s).supply = s.supply := by
  rw [vacate_touches]
@[simp] theorem vacate_emergency (r : RoomIx) (s : State) : (vacate r s).emergency = s.emergency := by
  rw [vacate_touches]
@[simp] theorem vacate_pending (r : RoomIx) (s : State) : (vacate r s).pending = s.pending := by
  rw [vacate_touches]

/-- What settleRoom may change. -/
theorem settleRoom_touches (r : RoomIx) (s : State) :
    settleRoom r s =
      { s with attn := (settleRoom r s).attn, rooms := (settleRoom r s).rooms, charge := (settleRoom r s).charge, lamps := (settleRoom r s).lamps } := by
  unfold settleRoom
  split
  · rw [vacate_touches]
  · rfl

@[simp] theorem settleRoom_ports (r : RoomIx) (s : State) : (settleRoom r s).ports = s.ports := by
  rw [settleRoom_touches]
@[simp] theorem settleRoom_keys (r : RoomIx) (s : State) : (settleRoom r s).keys = s.keys := by
  rw [settleRoom_touches]
@[simp] theorem settleRoom_verdict (r : RoomIx) (s : State) : (settleRoom r s).verdict = s.verdict := by
  rw [settleRoom_touches]
@[simp] theorem settleRoom_nodes (r : RoomIx) (s : State) : (settleRoom r s).nodes = s.nodes := by
  rw [settleRoom_touches]
@[simp] theorem settleRoom_lines (r : RoomIx) (s : State) : (settleRoom r s).lines = s.lines := by
  rw [settleRoom_touches]
@[simp] theorem settleRoom_journal (r : RoomIx) (s : State) : (settleRoom r s).journal = s.journal := by
  rw [settleRoom_touches]
@[simp] theorem settleRoom_supply (r : RoomIx) (s : State) : (settleRoom r s).supply = s.supply := by
  rw [settleRoom_touches]
@[simp] theorem settleRoom_emergency (r : RoomIx) (s : State) : (settleRoom r s).emergency = s.emergency := by
  rw [settleRoom_touches]
@[simp] theorem settleRoom_pending (r : RoomIx) (s : State) : (settleRoom r s).pending = s.pending := by
  rw [settleRoom_touches]

/-- What endSession may change. -/
theorem endSession_touches (x : Session) (s : State) :
    endSession x s =
      { s with attn := (endSession x s).attn, rooms := (endSession x s).rooms, charge := (endSession x s).charge, lamps := (endSession x s).lamps } := by
  unfold endSession
  simp only
  split
  · rw [settleFolio_touches, settleRoom_touches]
  · rw [settleRoom_touches]

@[simp] theorem endSession_ports (x : Session) (s : State) : (endSession x s).ports = s.ports := by
  rw [endSession_touches]
@[simp] theorem endSession_keys (x : Session) (s : State) : (endSession x s).keys = s.keys := by
  rw [endSession_touches]
@[simp] theorem endSession_verdict (x : Session) (s : State) : (endSession x s).verdict = s.verdict := by
  rw [endSession_touches]
@[simp] theorem endSession_nodes (x : Session) (s : State) : (endSession x s).nodes = s.nodes := by
  rw [endSession_touches]
@[simp] theorem endSession_lines (x : Session) (s : State) : (endSession x s).lines = s.lines := by
  rw [endSession_touches]
@[simp] theorem endSession_journal (x : Session) (s : State) : (endSession x s).journal = s.journal := by
  rw [endSession_touches]
@[simp] theorem endSession_supply (x : Session) (s : State) : (endSession x s).supply = s.supply := by
  rw [endSession_touches]
@[simp] theorem endSession_emergency (x : Session) (s : State) : (endSession x s).emergency = s.emergency := by
  rw [endSession_touches]
@[simp] theorem endSession_pending (x : Session) (s : State) : (endSession x s).pending = s.pending := by
  rw [endSession_touches]

/-- What abandonSession may change. -/
theorem abandonSession_touches (s : State) (x : Session) :
    abandonSession s x =
      { s with ports := (abandonSession s x).ports, attn := (abandonSession s x).attn, rooms := (abandonSession s x).rooms, charge := (abandonSession s x).charge, journal := (abandonSession s x).journal, lamps := (abandonSession s x).lamps } := by
  unfold abandonSession; rw [endSession_touches, offer_touches]

@[simp] theorem abandonSession_keys (s : State) (x : Session) : (abandonSession s x).keys = s.keys := by
  rw [abandonSession_touches]
@[simp] theorem abandonSession_verdict (s : State) (x : Session) : (abandonSession s x).verdict = s.verdict := by
  rw [abandonSession_touches]
@[simp] theorem abandonSession_nodes (s : State) (x : Session) : (abandonSession s x).nodes = s.nodes := by
  rw [abandonSession_touches]
@[simp] theorem abandonSession_lines (s : State) (x : Session) : (abandonSession s x).lines = s.lines := by
  rw [abandonSession_touches]
@[simp] theorem abandonSession_supply (s : State) (x : Session) : (abandonSession s x).supply = s.supply := by
  rw [abandonSession_touches]
@[simp] theorem abandonSession_emergency (s : State) (x : Session) : (abandonSession s x).emergency = s.emergency := by
  rw [abandonSession_touches]
@[simp] theorem abandonSession_pending (s : State) (x : Session) : (abandonSession s x).pending = s.pending := by
  rw [abandonSession_touches]

/-- What setDoor may change. -/
theorem setDoor_touches (n : NodeAddr) (d : DoorCond) (a : Bool) (s : State) :
    setDoor n d a s =
      { s with rooms := (setDoor n d a s).rooms, nodes := (setDoor n d a s).nodes, lamps := (setDoor n d a s).lamps } := by
  unfold setDoor
  simp only
  split
  · rfl
  · split <;> split <;> rfl

@[simp] theorem setDoor_ports (n : NodeAddr) (d : DoorCond) (a : Bool) (s : State) : (setDoor n d a s).ports = s.ports := by
  rw [setDoor_touches]
@[simp] theorem setDoor_attn (n : NodeAddr) (d : DoorCond) (a : Bool) (s : State) : (setDoor n d a s).attn = s.attn := by
  rw [setDoor_touches]
@[simp] theorem setDoor_keys (n : NodeAddr) (d : DoorCond) (a : Bool) (s : State) : (setDoor n d a s).keys = s.keys := by
  rw [setDoor_touches]
@[simp] theorem setDoor_verdict (n : NodeAddr) (d : DoorCond) (a : Bool) (s : State) : (setDoor n d a s).verdict = s.verdict := by
  rw [setDoor_touches]
@[simp] theorem setDoor_lines (n : NodeAddr) (d : DoorCond) (a : Bool) (s : State) : (setDoor n d a s).lines = s.lines := by
  rw [setDoor_touches]
@[simp] theorem setDoor_charge (n : NodeAddr) (d : DoorCond) (a : Bool) (s : State) : (setDoor n d a s).charge = s.charge := by
  rw [setDoor_touches]
@[simp] theorem setDoor_journal (n : NodeAddr) (d : DoorCond) (a : Bool) (s : State) : (setDoor n d a s).journal = s.journal := by
  rw [setDoor_touches]
@[simp] theorem setDoor_supply (n : NodeAddr) (d : DoorCond) (a : Bool) (s : State) : (setDoor n d a s).supply = s.supply := by
  rw [setDoor_touches]
@[simp] theorem setDoor_emergency (n : NodeAddr) (d : DoorCond) (a : Bool) (s : State) : (setDoor n d a s).emergency = s.emergency := by
  rw [setDoor_touches]
@[simp] theorem setDoor_pending (n : NodeAddr) (d : DoorCond) (a : Bool) (s : State) : (setDoor n d a s).pending = s.pending := by
  rw [setDoor_touches]

/-- What handDoor may change. -/
theorem handDoor_touches (n : NodeAddr) (s : State) :
    handDoor n s =
      { s with rooms := (handDoor n s).rooms } := by
  unfold handDoor; split <;> rfl

@[simp] theorem handDoor_ports (n : NodeAddr) (s : State) : (handDoor n s).ports = s.ports := by
  rw [handDoor_touches]
@[simp] theorem handDoor_attn (n : NodeAddr) (s : State) : (handDoor n s).attn = s.attn := by
  rw [handDoor_touches]
@[simp] theorem handDoor_keys (n : NodeAddr) (s : State) : (handDoor n s).keys = s.keys := by
  rw [handDoor_touches]
@[simp] theorem handDoor_verdict (n : NodeAddr) (s : State) : (handDoor n s).verdict = s.verdict := by
  rw [handDoor_touches]
@[simp] theorem handDoor_nodes (n : NodeAddr) (s : State) : (handDoor n s).nodes = s.nodes := by
  rw [handDoor_touches]
@[simp] theorem handDoor_lines (n : NodeAddr) (s : State) : (handDoor n s).lines = s.lines := by
  rw [handDoor_touches]
@[simp] theorem handDoor_charge (n : NodeAddr) (s : State) : (handDoor n s).charge = s.charge := by
  rw [handDoor_touches]
@[simp] theorem handDoor_journal (n : NodeAddr) (s : State) : (handDoor n s).journal = s.journal := by
  rw [handDoor_touches]
@[simp] theorem handDoor_lamps (n : NodeAddr) (s : State) : (handDoor n s).lamps = s.lamps := by
  rw [handDoor_touches]
@[simp] theorem handDoor_supply (n : NodeAddr) (s : State) : (handDoor n s).supply = s.supply := by
  rw [handDoor_touches]
@[simp] theorem handDoor_emergency (n : NodeAddr) (s : State) : (handDoor n s).emergency = s.emergency := by
  rw [handDoor_touches]
@[simp] theorem handDoor_pending (n : NodeAddr) (s : State) : (handDoor n s).pending = s.pending := by
  rw [handDoor_touches]

/-- What rewriteEntry may change. -/
theorem rewriteEntry_touches (k : KeyIx) (e : KeyEntry) (s : State) :
    rewriteEntry k e s =
      { s with attn := (rewriteEntry k e s).attn, keys := (rewriteEntry k e s).keys } := by
  unfold rewriteEntry; simp only; split <;> rfl

@[simp] theorem rewriteEntry_ports (k : KeyIx) (e : KeyEntry) (s : State) : (rewriteEntry k e s).ports = s.ports := by
  rw [rewriteEntry_touches]
@[simp] theorem rewriteEntry_rooms (k : KeyIx) (e : KeyEntry) (s : State) : (rewriteEntry k e s).rooms = s.rooms := by
  rw [rewriteEntry_touches]
@[simp] theorem rewriteEntry_verdict (k : KeyIx) (e : KeyEntry) (s : State) : (rewriteEntry k e s).verdict = s.verdict := by
  rw [rewriteEntry_touches]
@[simp] theorem rewriteEntry_nodes (k : KeyIx) (e : KeyEntry) (s : State) : (rewriteEntry k e s).nodes = s.nodes := by
  rw [rewriteEntry_touches]
@[simp] theorem rewriteEntry_lines (k : KeyIx) (e : KeyEntry) (s : State) : (rewriteEntry k e s).lines = s.lines := by
  rw [rewriteEntry_touches]
@[simp] theorem rewriteEntry_charge (k : KeyIx) (e : KeyEntry) (s : State) : (rewriteEntry k e s).charge = s.charge := by
  rw [rewriteEntry_touches]
@[simp] theorem rewriteEntry_journal (k : KeyIx) (e : KeyEntry) (s : State) : (rewriteEntry k e s).journal = s.journal := by
  rw [rewriteEntry_touches]
@[simp] theorem rewriteEntry_lamps (k : KeyIx) (e : KeyEntry) (s : State) : (rewriteEntry k e s).lamps = s.lamps := by
  rw [rewriteEntry_touches]
@[simp] theorem rewriteEntry_supply (k : KeyIx) (e : KeyEntry) (s : State) : (rewriteEntry k e s).supply = s.supply := by
  rw [rewriteEntry_touches]
@[simp] theorem rewriteEntry_emergency (k : KeyIx) (e : KeyEntry) (s : State) : (rewriteEntry k e s).emergency = s.emergency := by
  rw [rewriteEntry_touches]
@[simp] theorem rewriteEntry_pending (k : KeyIx) (e : KeyEntry) (s : State) : (rewriteEntry k e s).pending = s.pending := by
  rw [rewriteEntry_touches]

/-- What rebindEntry may change. -/
theorem rebindEntry_touches (k : KeyIx) (e : KeyEntry) (b : Binding) (t : RoomIx) (s : State) :
    rebindEntry k e b t s =
      { s with rooms := (rebindEntry k e b t s).rooms, keys := (rebindEntry k e b t s).keys } := by
  unfold rebindEntry; simp only; split <;> rfl

@[simp] theorem rebindEntry_ports (k : KeyIx) (e : KeyEntry) (b : Binding) (t : RoomIx) (s : State) : (rebindEntry k e b t s).ports = s.ports := by
  rw [rebindEntry_touches]
@[simp] theorem rebindEntry_attn (k : KeyIx) (e : KeyEntry) (b : Binding) (t : RoomIx) (s : State) : (rebindEntry k e b t s).attn = s.attn := by
  rw [rebindEntry_touches]
@[simp] theorem rebindEntry_verdict (k : KeyIx) (e : KeyEntry) (b : Binding) (t : RoomIx) (s : State) : (rebindEntry k e b t s).verdict = s.verdict := by
  rw [rebindEntry_touches]
@[simp] theorem rebindEntry_nodes (k : KeyIx) (e : KeyEntry) (b : Binding) (t : RoomIx) (s : State) : (rebindEntry k e b t s).nodes = s.nodes := by
  rw [rebindEntry_touches]
@[simp] theorem rebindEntry_lines (k : KeyIx) (e : KeyEntry) (b : Binding) (t : RoomIx) (s : State) : (rebindEntry k e b t s).lines = s.lines := by
  rw [rebindEntry_touches]
@[simp] theorem rebindEntry_charge (k : KeyIx) (e : KeyEntry) (b : Binding) (t : RoomIx) (s : State) : (rebindEntry k e b t s).charge = s.charge := by
  rw [rebindEntry_touches]
@[simp] theorem rebindEntry_journal (k : KeyIx) (e : KeyEntry) (b : Binding) (t : RoomIx) (s : State) : (rebindEntry k e b t s).journal = s.journal := by
  rw [rebindEntry_touches]
@[simp] theorem rebindEntry_lamps (k : KeyIx) (e : KeyEntry) (b : Binding) (t : RoomIx) (s : State) : (rebindEntry k e b t s).lamps = s.lamps := by
  rw [rebindEntry_touches]
@[simp] theorem rebindEntry_supply (k : KeyIx) (e : KeyEntry) (b : Binding) (t : RoomIx) (s : State) : (rebindEntry k e b t s).supply = s.supply := by
  rw [rebindEntry_touches]
@[simp] theorem rebindEntry_emergency (k : KeyIx) (e : KeyEntry) (b : Binding) (t : RoomIx) (s : State) : (rebindEntry k e b t s).emergency = s.emergency := by
  rw [rebindEntry_touches]
@[simp] theorem rebindEntry_pending (k : KeyIx) (e : KeyEntry) (b : Binding) (t : RoomIx) (s : State) : (rebindEntry k e b t s).pending = s.pending := by
  rw [rebindEntry_touches]

end Sys2Proof.Machine
end

