-- ==== Sys2Proof/Laws/Ports.lean ====
section
/-! SUPPORT. Everything a command frame can do on its port, one lemma for each case of takeCommand. -/

namespace Sys2Proof.Machine

variable {α : Type}

theorem takes_listening {s : State} {p : Port} (h : s.takes p) : s.listening p = true := by
  simp [State.listening, h.1, h.2.1]

/-- COMMAND_DONE is cause 0 of every port. -/
theorem raise_commandDone (p : Port) (s : State) :
    raise p .commandDone s = s.modAttn p fun a => { a with pending := a.pending.set 0 true } := by
  cases p <;> rfl

theorem modPort_modPort (s : State) (p : Port) (f g : PortRec → PortRec) :
    (s.modPort p f).modPort p g = s.modPort p fun q => g (f q) := by
  cases p <;> rfl

/-- An answer after the opening of a command is State.answered. -/
theorem answer_open (p : Port) (code : Option Byte) (r : Reply) (s : State) :
    answer p code r (openCommand p s) = s.answered p code r := by
  unfold answer
  rw [raise_commandDone]
  unfold placeResult openCommand State.answered
  rw [modPort_modPort]

/-- An answer after the opening and holding of a command is State.answered. -/
theorem answer_hold (p : Port) (c : Command) (code : Option Byte) (r : Reply) (s : State) :
    answer p code r (holdCommand p c (openCommand p s)) = s.answered p code r := by
  unfold answer
  rw [raise_commandDone]
  unfold placeResult holdCommand openCommand State.answered
  rw [modPort_modPort, modPort_modPort]

theorem hold_open (p : Port) (c : Command) (s : State) : holdCommand p c (openCommand p s) = s.begun p c := by
  unfold holdCommand openCommand State.begun
  rw [modPort_modPort]

theorem begun_eq (p : Port) (c : Command) (s : State) : s.begun p c = { s with ports := (s.begun p c).ports } := rfl

section
variable {c : Command} {p : Port} {ps : List Byte} {parse : List Byte → Option α} {owner : α → State → Owned} {s : State}

/-- A port that takes no frame is left as it stands (R174, R182). -/
theorem takeCommand_deaf (h : s.listening p = false) : takeCommand c p ps parse owner s = s := by
  simp [takeCommand, h]

/-- A WORKING port discards the frame (R178). -/
theorem takeCommand_working (h : s.listening p = true) (w : (s.port p).phase.isWorking = true) :
    takeCommand c p ps parse owner s = discardFrame p s := by
  simp [takeCommand, h, w]

/-- Check 1 (R176). -/
theorem takeCommand_truncated (h : s.takes p) (short : ps.length < c.needed ps) :
    takeCommand c p ps parse owner s = s.refused p c .truncated := by
  simp only [takeCommand, takes_listening h, h.2.2, portChecks, short, if_true]
  exact answer_open ..

/-- Check 3 (R177). -/
theorem takeCommand_notPermitted (h : s.takes p) (long : ¬ ps.length < c.needed ps) (d : c.permitted p = false) :
    takeCommand c p ps parse owner s = s.refused p c .notPermitted := by
  simp only [takeCommand, takes_listening h, h.2.2, portChecks, long, d, if_true, if_false]
  exact answer_open ..

/-- Check 4 (R177). -/
theorem takeCommand_badParam (h : s.takes p) (long : ¬ ps.length < c.needed ps) (d : c.permitted p = true)
    (e : parse ps = none) : takeCommand c p ps parse owner s = s.refused p c .badParam := by
  simp [takeCommand, takes_listening h, h.2.2, portChecks, long, d, e]
  exact answer_open ..

/-- A command that reaches its owner (R177). -/
theorem takeCommand_owned (h : s.takes p) (long : ¬ ps.length < c.needed ps) (d : c.permitted p = true) {a : α}
    (e : parse ps = some a) :
    takeCommand c p ps parse owner s =
      match owner a (s.begun p c) with
      | (t, some r) => answer p (some c.code) r t
      | (t, none) => t := by
  have checks : portChecks c p ps parse = .ok a := by simp [portChecks, long, d, e]
  rewrite [← hold_open, takeCommand, if_neg (by simp [takes_listening h]), if_neg (by simp [h.2.2]), checks]
  rfl

/-- A command that its owner refuses, changing nothing. -/
theorem takeCommand_refused (h : s.takes p) (long : ¬ ps.length < c.needed ps) (d : c.permitted p = true) {a : α}
    (e : parse ps = some a) {code : ResultCode} (o : owner a (s.begun p c) = refuse code (s.begun p c)) :
    takeCommand c p ps parse owner s = s.refused p c code := by
  rw [takeCommand_owned h long d e, o, ← hold_open]
  exact answer_hold ..

/-- A command that its owner takes and answers with OK. -/
theorem takeCommand_accepted (h : s.takes p) (long : ¬ ps.length < c.needed ps) (d : c.permitted p = true) {a : α}
    (e : parse ps = some a) {data : List Byte} {t : State} (o : owner a (s.begun p c) = accept data (t.begun p c)) :
    takeCommand c p ps parse owner s = t.done p c data := by
  rw [takeCommand_owned h long d e, o, ← hold_open]
  exact answer_hold ..

/-- A command that its owner takes and answers with another code. -/
theorem takeCommand_coded (h : s.takes p) (long : ¬ ps.length < c.needed ps) (d : c.permitted p = true) {a : α}
    (e : parse ps = some a) {r : Reply} {t : State} (o : owner a (s.begun p c) = (t.begun p c, some r)) :
    takeCommand c p ps parse owner s = t.answered p (some c.code) r := by
  rw [takeCommand_owned h long d e, o, ← hold_open]
  exact answer_hold ..

/-- A command that its owner takes and answers later (R179). -/
theorem takeCommand_begun (h : s.takes p) (long : ¬ ps.length < c.needed ps) (d : c.permitted p = true) {a : α}
    (e : parse ps = some a) {t : State} (o : owner a (s.begun p c) = (t, none)) : takeCommand c p ps parse owner s = t := by
  rw [takeCommand_owned h long d e, o]

end

/-! ### Records offered while a command is with its owner -/

theorem port_begun_same (s : State) (p : Port) (c : Command) : ((s.begun p c).port p).phase = .working c := by
  simp [State.begun]

theorem port_begun_ne (s : State) {p q : Port} (c : Command) (h : p ≠ q) : (s.begun p c).port q = s.port q :=
  port_modPort_ne s _ h

/-- The begun command of a port that was not WORKING is no obstacle to another command's late answer. -/
theorem answerLong_begun (l c : Command) (r : Reply) (p : Port) (s : State) (h : (s.port p).phase.isWorking = false)
    (d : c ≠ l) : answerLong l r (s.begun p c) = (answerLong l r s).begun p c := by
  have run : (s.begun p c).inRun = s.inRun := rfl
  unfold answerLong
  rw [run]
  by_cases hp : p = .service
  · subst hp
    have a : (s.begun .service c).port .service = { (s.port .service) with
      tag := (s.port .service).tag + 1, phase := .working c, result := none } := by simp [State.begun]
    have b : ¬ (s.inRun = true ∧ (s.port .service).phase = .working l) := by
      rintro ⟨-, e⟩
      rw [e] at h
      cases h
    have b' : ¬ (s.inRun = true ∧ ((s.begun .service c).port .service).phase = .working l) := by
      rw [port_begun_same]
      rintro ⟨-, e⟩
      exact d (by injection e)
    rw [if_neg b, if_neg b']
  · rw [port_begun_ne s c hp]
    split
    · cases p with
      | front => rfl
      | charge => rfl
      | service => exact absurd rfl hp
    · rfl

/-- An offer is the same before and after the port holds a command other than FLUSH JOURNAL. -/
theorem offer_begun (o : Offer) (p : Port) (c : Command) (s : State) (h : (s.port p).phase.isWorking = false)
    (d : c ≠ .flushJournal) : offer o (s.begun p c) = (offer o s).begun p c := by
  have f (t : State) (ht : (t.port p).phase.isWorking = false) : settleFlush (t.begun p c) = (settleFlush t).begun p c := by
    unfold settleFlush
    have e : (t.begun p c).journal = t.journal := rfl
    rw [e]
    split
    · split
      · rfl
      · exact answerLong_begun _ c _ p { t with journal := { t.journal with flush := none } } ht d
    · rfl
  unfold offer
  have e : (s.begun p c).journal = s.journal := rfl
  have e' : (s.begun p c).inRun = s.inRun := rfl
  have e'' : (s.begun p c).supply = s.supply := rfl
  simp only [e, e', e'']
  split
  · rfl
  · split
    · exact f (raise .service .stagingDrop { s with journal := s.journal.taken o s.inRun s.supply.elapsed }) h
    · exact f { s with journal := s.journal.taken o s.inRun s.supply.elapsed } h

/-- In RUN, the answer of an operation that takes time is what `State.settled` says. -/
theorem answerLong_settled (c : Command) (code : ResultCode) (s : State) (h : s.inRun = true) :
    answerLong c ⟨code, []⟩ s = s.settled c code := by
  unfold answerLong State.settled
  simp only [h, true_and]
  split
  · unfold answer
    rw [raise_commandDone]
    rfl
  · rfl

/-- An offer leaves no port WORKING that was not. -/
theorem offer_isWorking (o : Offer) (p : Port) (s : State) (h : (s.port p).phase.isWorking = false) :
    ((offer o s).port p).phase.isWorking = false := by
  have g (l : Command) (r : Reply) (t : State) (ht : (t.port p).phase.isWorking = false) :
      ((answerLong l r t).port p).phase.isWorking = false := by
    unfold answerLong
    split
    · cases p <;> first | exact ht | rfl
    · exact ht
  have f (t : State) (ht : (t.port p).phase.isWorking = false) : ((settleFlush t).port p).phase.isWorking = false := by
    unfold settleFlush
    split
    · split
      · exact ht
      · exact g _ _ { t with journal := { t.journal with flush := none } } ht
    · exact ht
  unfold offer
  simp only
  split
  · exact h
  · split
    · exact f (raise .service .stagingDrop { s with journal := s.journal.taken o s.inRun s.supply.elapsed }) h
    · exact f { s with journal := s.journal.taken o s.inRun s.supply.elapsed } h

end Sys2Proof.Machine
end

