-- ==== Sys2Proof/Laws/Claims.lean ====
section
/-! SUPPORT. What the Key Register's arbiter does with the Verdict Engine's waiting claims (R43 to R45), and what a command that claims
the key entries is once they are served. -/

namespace Sys2Proof.Machine

/-- What a claim may change: rooms' live-key counts and key entries. -/
theorem takeClaim_touches (c : VeClaim) (s : State) :
    takeClaim c s = { s with
      rooms := (takeClaim c s).rooms, keys := { s.keys with entries := (takeClaim c s).keys.entries } } := by
  unfold takeClaim
  split
  · split
    · split <;> rfl
    · rfl
  · split
    · split
      · unfold rebindEntry
        simp only
        split <;> rfl
      · rfl
    · rfl

/-- A claim reads no port. -/
theorem takeClaim_withPorts (c : VeClaim) (s : State) (x : PerPort PortRec) :
    takeClaim c { s with ports := x } = { takeClaim c s with ports := x } := by
  unfold takeClaim
  have e (k : KeyIx) : State.entry { s with ports := x } k = s.entry k := rfl
  split
  · rw [e]
    split
    · split <;> rfl
    · rfl
  · rw [e]
    split
    · split
      · unfold rebindEntry
        simp only
        split <;> rfl
      · rfl
    · rfl

/-- A claim reads no other claim. -/
theorem takeClaim_withClaims (c : VeClaim) (s : State) (x : List VeClaim) :
    takeClaim c { s with keys := { s.keys with claims := x } } =
      { takeClaim c s with keys := { (takeClaim c s).keys with claims := x } } := by
  unfold takeClaim
  have e (k : KeyIx) : State.entry { s with keys := { s.keys with claims := x } } k = s.entry k := rfl
  split
  · rw [e]
    split
    · split <;> rfl
    · rfl
  · rw [e]
    split
    · split
      · unfold rebindEntry
        simp only
        split <;> rfl
      · rfl
    · rfl

/-- With no claim waiting nothing is served. -/
@[simp] theorem serveWaiting_none (s : State) (h : s.keys.claims = []) : serveWaiting s = s := by
  unfold serveWaiting
  rw [h]
  show { s with keys := { s.keys with claims := [] } } = s
  rw [← h]

/-- The oldest claim is served first, and then the others. -/
theorem serveWaiting_cons (c : VeClaim) (rest : List VeClaim) (s : State) (h : s.keys.claims = c :: rest) :
    serveWaiting s = serveWaiting (takeClaim c { s with keys := { s.keys with claims := rest } }) := by
  have e : (takeClaim c { s with keys := { s.keys with claims := rest } }).keys.claims = rest := by
    rw [takeClaim_withClaims]
  rw [serveWaiting, h, List.foldl_cons]
  unfold serveWaiting
  rw [e]
  congr 1
  rw [takeClaim_withClaims c s rest, takeClaim_withClaims c s []]

/-- What serving may change. -/
theorem serveWaiting_touches (s : State) :
    serveWaiting s = { s with
      rooms := (serveWaiting s).rooms, keys := { s.keys with entries := (serveWaiting s).keys.entries, claims := [] } } := by
  have f (cs : List VeClaim) : ∀ t : State, cs.foldl (fun t c => takeClaim c t) t = { t with
      rooms := (cs.foldl (fun t c => takeClaim c t) t).rooms
      keys := { t.keys with entries := (cs.foldl (fun t c => takeClaim c t) t).keys.entries } } := by
    induction cs with
    | nil => intro t; rfl
    | cons c cs ih =>
      intro t
      rw [List.foldl_cons]
      have a := ih (takeClaim c t)
      have b := takeClaim_touches c t
      rw [a]
      generalize (cs.foldl (fun t c => takeClaim c t) (takeClaim c t)) = u
      rw [b]
  unfold serveWaiting
  rw [f]

@[simp] theorem serveWaiting_ports (s : State) : (serveWaiting s).ports = s.ports := by rw [serveWaiting_touches]
@[simp] theorem serveWaiting_attn (s : State) : (serveWaiting s).attn = s.attn := by rw [serveWaiting_touches]
@[simp] theorem serveWaiting_verdict (s : State) : (serveWaiting s).verdict = s.verdict := by rw [serveWaiting_touches]
@[simp] theorem serveWaiting_nodes (s : State) : (serveWaiting s).nodes = s.nodes := by rw [serveWaiting_touches]
@[simp] theorem serveWaiting_lines (s : State) : (serveWaiting s).lines = s.lines := by rw [serveWaiting_touches]
@[simp] theorem serveWaiting_charge (s : State) : (serveWaiting s).charge = s.charge := by rw [serveWaiting_touches]
@[simp] theorem serveWaiting_journal (s : State) : (serveWaiting s).journal = s.journal := by rw [serveWaiting_touches]
@[simp] theorem serveWaiting_lamps (s : State) : (serveWaiting s).lamps = s.lamps := by rw [serveWaiting_touches]
@[simp] theorem serveWaiting_supply (s : State) : (serveWaiting s).supply = s.supply := by rw [serveWaiting_touches]
@[simp] theorem serveWaiting_emergency (s : State) : (serveWaiting s).emergency = s.emergency := by rw [serveWaiting_touches]
@[simp] theorem serveWaiting_pending (s : State) : (serveWaiting s).pending = s.pending := by rw [serveWaiting_touches]
@[simp] theorem serveWaiting_claims (s : State) : (serveWaiting s).keys.claims = [] := by rw [serveWaiting_touches]
@[simp] theorem serveWaiting_scanQueue (s : State) : (serveWaiting s).keys.scanQueue = s.keys.scanQueue := by rw [serveWaiting_touches]
@[simp] theorem serveWaiting_walk (s : State) : (serveWaiting s).keys.walk = s.keys.walk := by rw [serveWaiting_touches]
@[simp] theorem serveWaiting_retired (s : State) : (serveWaiting s).keys.retired = s.keys.retired := by rw [serveWaiting_touches]
@[simp] theorem serveWaiting_lowArmed (s : State) : (serveWaiting s).keys.lowArmed = s.keys.lowArmed := by rw [serveWaiting_touches]
@[simp] theorem serveWaiting_inRun (s : State) : (serveWaiting s).inRun = s.inRun := by rw [serveWaiting_touches]; rfl
@[simp] theorem serveWaiting_port (s : State) (p : Port) : (serveWaiting s).port p = s.port p := by rw [serveWaiting_touches]; rfl

/-- Serving reads no port. -/
theorem serveWaiting_withPorts (s : State) (x : PerPort PortRec) :
    serveWaiting { s with ports := x } = { serveWaiting s with ports := x } := by
  have f (cs : List VeClaim) : ∀ t : State, cs.foldl (fun t c => takeClaim c t) { t with ports := x } =
      { cs.foldl (fun t c => takeClaim c t) t with ports := x } := by
    induction cs with
    | nil => intro t; rfl
    | cons c cs ih =>
      intro t
      rw [List.foldl_cons, List.foldl_cons, takeClaim_withPorts, ih]
  exact f s.keys.claims { s with keys := { s.keys with claims := [] } }

/-- The claims that wait are the same before and after a command is begun on a port. -/
theorem serveWaiting_begun (s : State) (p : Port) (c : Command) : serveWaiting (s.begun p c) = (serveWaiting s).begun p c := by
  have e : ((serveWaiting s).begun p c).ports = (s.begun p c).ports := by
    unfold State.begun State.modPort
    dsimp only
    rw [serveWaiting_ports]
  rw [begun_eq p c (serveWaiting s), e, begun_eq, serveWaiting_withPorts]

/-- A port takes a command after the serving as before it. -/
theorem serveWaiting_takes {s : State} {p : Port} (h : s.takes p) : (serveWaiting s).takes p := by
  simpa [State.takes] using h

/-- A command that claims the key entries, once it has passed its checks: the waiting claims are served first, and the command then is
what it is of a part in which none waits (R45). -/
theorem takeCommand_arbitrated {α : Type} {c : Command} {p : Port} {ps : List Byte} {parse : List Byte → Option α}
    {owner : α → State → Owned} {s : State} (h : s.takes p) (long : ¬ ps.length < c.needed ps) (d : c.permitted p = true) {a : α}
    (e : parse ps = some a) :
    takeCommand c p ps parse (arbitrated owner) s = takeCommand c p ps parse owner (serveWaiting s) := by
  rw [takeCommand_owned h long d e, takeCommand_owned (serveWaiting_takes h) long d e]
  unfold arbitrated
  rw [serveWaiting_begun]

end Sys2Proof.Machine
end

