-- ==== Sys2Proof/Laws/Doors.lean ====
section
/-! SUPPORT. What a change of a node's door condition or alarm latch does to the lamps (R84, R163). -/

namespace Sys2Proof.Machine

theorem alarmLit_eq (door : DoorCond) (latch : Bool) :
    alarmLit door latch = (decide (door = .forced ∨ door = .heldOpen) || latch) := by
  cases door <;> cases latch <;> rfl

/-- A write of the derived ALARM lamp of a room changes that lamp alone. -/
theorem writePrimary_alarm (q : RoomIx) (v : Bool) (s : State) :
    (writePrimary q .alarm v s).lamps = { s.lamps with entries := (writePrimary q .alarm v s).lamps.entries } ∧
    ∀ r : RoomIx, (writePrimary q .alarm v s).lamp r =
      if q = r then { s.lamp r with primary := { (s.lamp r).primary with alarm := v } } else s.lamp r := by
  refine ⟨rfl, fun r => ?_⟩
  unfold writePrimary
  by_cases h : q = r
  · subst h
    rw [if_pos rfl, lamp_modLamp_same]
    rfl
  · rw [if_neg h, lamp_modLamp_ne s _ h]

/-- What setDoor does to the lamps. -/
theorem setDoor_alarmHanded (n : NodeAddr) (door : DoorCond) (latch : Bool) (s : State) :
    (setDoor n door latch s).alarmHanded s n door latch := by
  unfold setDoor State.alarmHanded
  simp only
  cases hd : s.doorRoom n with
  | none => exact ⟨rfl, fun r => by rw [if_neg (by simp)]; rfl⟩
  | some q =>
    by_cases e : (s.node n).door = door ∧ (s.node n).latch = latch
    · simp only [e, and_self, if_true]
      exact ⟨rfl, fun r => by rw [if_neg (by simp)]; rfl⟩
    · have ne : (s.node n).door ≠ door ∨ (s.node n).latch ≠ latch := not_and_or.mp e
      have core (t : State) (ht : t.lamps = s.lamps) : (writePrimary q .alarm (alarmLit door latch) t).lamps =
            { s.lamps with entries := (writePrimary q .alarm (alarmLit door latch) t).lamps.entries } ∧
          ∀ r : RoomIx, (writePrimary q .alarm (alarmLit door latch) t).lamp r =
            if some q = some r ∧ ((s.node n).door ≠ door ∨ (s.node n).latch ≠ latch) then
              { s.lamp r with primary :=
                { (s.lamp r).primary with alarm := decide (door = .forced ∨ door = .heldOpen) || latch } }
            else s.lamp r := by
        have same (r : RoomIx) : t.lamp r = s.lamp r := by unfold State.lamp; rw [ht]
        have w := writePrimary_alarm q (alarmLit door latch) t
        refine ⟨by rw [w.1, ht], fun r => ?_⟩
        rw [w.2 r, same r, alarmLit_eq]
        by_cases h : q = r
        · rw [if_pos h, if_pos ⟨congrArg some h, ne⟩]
        · rw [if_neg h, if_neg fun c => h (Option.some.inj c.1)]
      simp only [if_neg e]
      split <;> exact core _ rfl

end Sys2Proof.Machine
end

