-- ==== Sys2Proof/Laws/Slots.lean ====
section
/-! SUPPORT. How the rebuild judges the slots of the Journal Array, and what a part without a program in flight loses at a cold start:
nothing (R160, R199). -/

namespace Sys2Proof.Machine

/-- A blank slot is judged blank. -/
@[simp] theorem reading_blank : Slot.blank.reading = .blank := by decide +kernel

/-- The 30 bytes of a record that its check covers end in the mark 0000h. -/
theorem Record.bytes_eq (r : Record) : ∃ body : List Byte, body.length = 28 ∧
    r.bytes = (body ++ [0, 0]) ++ crcBytes (body ++ [0, 0]) := by
  unfold Record.bytes
  dsimp only
  refine ⟨_, ?_, rfl⟩
  cases r.node <;> simp [u32, u32?, u8, u16, u64, uNode]

/-- Every record is judged valid. -/
@[simp] theorem reading_written (r : Record) : (Slot.written r).reading = .valid := by
  obtain ⟨body, h, e⟩ := r.bytes_eq
  have d : (body ++ [0, 0] ++ crcBytes (body ++ [0, 0])).drop 28 = [0, 0] ++ crcBytes (body ++ [0, 0]) := by
    rw [List.append_assoc, ← h, List.drop_left]
  have t : (body ++ [0, 0] ++ crcBytes (body ++ [0, 0])).take 30 = body ++ [0, 0] := by
    rw [List.take_left' (by simp [h])]
  have f : r.bytes ≠ List.replicate 32 0xFF := by
    intro c
    have a := congrArg (List.drop 28) c
    rw [e, d] at a
    simp [crcBytes] at a
  show readingOf r.bytes = .valid
  unfold readingOf
  rw [if_neg f, e, d, t, if_pos rfl]

/-- With no program in flight nothing of the array is torn. -/
@[simp] theorem Journal.torn_idle (j : Journal) (elapsed : Nat) (h : j.program = none) : j.torn elapsed = j := by
  unfold Journal.torn
  rw [h]

/-- With no programming in flight nothing of the Emergency Key Store is torn. -/
@[simp] theorem EmergencyStore.torn_idle (e : EmergencyStore) (elapsed : Nat) (h : e.programming = none) :
    e.torn elapsed = e := by
  unfold EmergencyStore.torn
  rw [h]

end Sys2Proof.Machine
end

