-- ==== Sys2Proof/Laws/Verdicts.lean ====
section
/-! SUPPORT. The tests of rooms and sides that the statements speak of are those that a judgement makes. -/

namespace Sys2Proof.Machine

/-- A key binds a room where the judgement finds a current binding to it (R20, R69). -/
theorem State.binds_eq_boundTo (s : State) (e : KeyEntry) (r : RoomIx) : s.binds e r = s.boundTo e r := by
  unfold State.binds State.boundTo
  congr 1
  funext b
  by_cases h : b.room = r <;> simp [State.isCurrent, h]

/-- A profile permits a room where the judgement's permission of R53 is given. -/
theorem Profile.permits_eq (p : Profile) (rm : Room) : p.permits rm = (p.roomPermission rm).isOk := by
  unfold Profile.permits Profile.roomPermission
  cases rm.standsOccupied <;> cases p.enterOccupied <;> cases p.makeupOnly <;> cases rm.makeup <;> cases p.enterVacant <;> rfl

/-- A key opens the near side where the judgement's near test passes (R74). -/
theorem State.nearOpens_eq_nearTest (s : State) (e : KeyEntry) (near : RoomIx) :
    s.nearOpens e near = s.nearTest e (s.profile e.profile) near := by
  unfold State.nearOpens State.nearTest
  rw [s.binds_eq_boundTo, Profile.permits_eq]
  cases (s.profile e.profile).roomPermission (s.room near) <;> rfl

/-- A key opens the far side where the judgement's far test passes (R75). -/
theorem State.farOpens_eq_farTest (s : State) (e : KeyEntry) (near far : RoomIx) :
    s.farOpens e near far = s.farTest e (s.profile e.profile) near far := by
  unfold State.farOpens State.farTest State.sharedFolio
  simp only [State.binds_eq_boundTo, Profile.permits_eq, Bool.and_assoc]
  cases (s.profile e.profile).roomPermission (s.room far) <;> simp [Except.isOk, Except.toBool, Profile.overrideTest]
  cases (s.room far).isBlocked <;> cases (s.profile e.profile).overrideBlock <;> cases (s.room far).privacy <;>
    cases (s.profile e.profile).overridePrivacy <;> simp

end Sys2Proof.Machine
end

