-- ==== Sys2Proof/WellFormed.lean ====
section
/-! DEFINITION. Well-formedness of an event: what the rows of the table say of an event beyond its operands' types. -/

namespace Sys2Proof

/-- An event is one the part can meet: the code of an UNKNOWN_COMMAND is not in the command index (R176), and a received frame
holds at least one byte (R96). A parameter list of any length is a frame a master can send (R175, R176). -/
def Instr.wf : Instr → Bool
  | .checkIn _ _ => true
  | .checkOut _ _ => true
  | .moveStay _ _ => true
  | .blockRoom _ _ => true
  | .unblockRoom _ _ => true
  | .writeRoom _ _ => true
  | .pairRooms _ _ => true
  | .unpairRooms _ _ => true
  | .setMakeup _ _ => true
  | .readRoom _ _ => true
  | .issueGuestKey _ _ => true
  | .issueStaffKey _ _ => true
  | .revokeKey _ _ => true
  | .reportLost _ _ => true
  | .suspendKey _ _ => true
  | .resumeKey _ _ => true
  | .extendKey _ _ => true
  | .revokeRoomKeys _ _ => true
  | .readKey _ _ => true
  | .keyCounts _ _ => true
  | .writeProfile _ _ => true
  | .readProfile _ _ => true
  | .watchAdd _ _ => true
  | .watchRemove _ _ => true
  | .readWatch _ _ => true
  | .clearAlarm _ _ => true
  | .setNodeMode _ _ => true
  | .releaseZones _ _ => true
  | .restoreZones _ _ => true
  | .unlatchNode _ _ => true
  | .writeNode _ _ => true
  | .readNode _ _ => true
  | .stopLine _ _ => true
  | .startLine _ _ => true
  | .restartLine _ _ => true
  | .readLine _ _ => true
  | .openFolio _ _ => true
  | .closeFolio _ _ => true
  | .readFolio _ _ => true
  | .setAllowance _ _ => true
  | .holdFolio _ _ => true
  | .releaseFolio _ _ => true
  | .writePrices _ _ => true
  | .readPrices _ _ => true
  | .peekCharges _ _ => true
  | .takeCharges _ _ => true
  | .readSessions _ _ => true
  | .flushJournal _ _ => true
  | .releaseGuards _ _ => true
  | .setGuards _ _ => true
  | .holdSegment _ _ => true
  | .clearHold _ _ => true
  | .setCursor _ _ => true
  | .readRecords _ _ => true
  | .readSegmentWrapped _ _ => true
  | .markCollected _ _ => true
  | .journalStatus _ _ => true
  | .writeLamps _ _ => true
  | .setBlinkMode _ _ => true
  | .setBlinkPeriod _ _ => true
  | .setDark _ _ => true
  | .clearAlternate _ _ => true
  | .clearBlinkSet _ _ => true
  | .readLamps _ _ => true
  | .vector _ _ => true
  | .setCauseLevels _ _ => true
  | .peerNotice _ _ => true
  | .setClock _ _ => true
  | .readClock _ _ => true
  | .writeEmergencyKey _ _ => true
  | .freezeEmergencyKey _ _ => true
  | .readEmergencyKey _ _ => true
  | .partStatus _ _ => true
  | .unknownCommand _ code => code.all fun c => (Command.ofCode c).isNone
  | .commandFrameDiscarded _ => true
  | .statusFrame _ _ => true
  | .resultFrame _ _ => true
  | .portReset _ => true
  | .rotationTurn _ => true
  | .verdictFrame _ => true
  | .busyReply _ => true
  | .modeFrame _ => true
  | .quiet _ => true
  | .ack _ => true
  | .present _ _ _ => true
  | .doorOpened _ => true
  | .doorClosed _ => true
  | .bolt _ _ => true
  | .button _ _ => true
  | .tray _ _ _ => true
  | .invalidAnswer _ frame => !frame.isEmpty
  | .answerWindowExpiry _ => true
  | .presentationJudgement => true
  | .useReport => true
  | .rebindClaim => true
  | .grantWindowExpiry _ => true
  | .heldOpenTimerExpiry _ => true
  | .openLimitExpiry _ => true
  | .flushTimerExpiry => true
  | .blinkPhaseToggle => true
  | .minuteTick => true
  | .sweepVisit => true
  | .clearWalkStep => true
  | .scanJobStart => true
  | .scanStep => true
  | .blockProgramStart => true
  | .markProgramStart => true
  | .eraseStart => true
  | .eraseSuspend => true
  | .blockProgramComplete => true
  | .firstSequenceMarkProgrammed => true
  | .holdMarkProgrammed => true
  | .releaseMarkProgrammed => true
  | .segmentEraseComplete => true
  | .emergencyProgrammingDone => true
  | .mainSupplyLost => true
  | .mainSupplyReturn => true
  | .coldStart => true
  | .backupCellChange _ => true
  | .portResetAsserted _ => true

end Sys2Proof
end

