-- ==== Sys2Proof/Tests/Slice0.lean ====
section
/-! SUPPORT. The model's own tests: well-formedness refuses what it must, one small check for each command and event, and for each
statement with premises a state and operands that meet them. Each test that has premises shows them first and, after them, what
the event does. -/

namespace Sys2Proof.Tests

open Sys2Proof.Machine

/-! ### Helpers -/

/-- The state after an event that answers a next state. -/
def after (c : Instr) (s : State) : State :=
  match exec c s with
  | .next t => t
  | _ => s

/-- The state after one step. -/
def stepped (s : State) : State :=
  match step s with
  | .next t => t
  | _ => s

/-- The state right after reset. -/
abbrev s0 : State := State.reset

/-- A clock that runs at a time. -/
def clocked (t : HotelTime) (s : State) : State := { s with supply := { s.supply with clockRunning := true, counter := t } }

/-- A room in a phase. -/
def phased (r : RoomIx) (p : RoomPhase) (s : State) : State := s.modRoom r fun rm => { rm with phase := p }

/-- A card. -/
abbrev card : CardId := 0x1122334455667788

/-- A guest key of the card. -/
def guest (bs : List Binding) (st : Standing) : KeyEntry :=
  { card := card, body := .guest bs, standing := st, profile := 0, validFrom := 0, validUntil := 600000, presentations := 0,
    uses := 0, lastUse := none, issuer := .front }

/-- A configured ONLINE node that a POLL frame waits for. -/
def polled (n : NodeAddr) (c : NodeConfig) (s : State) : State :=
  (s.modNode n fun nd => { nd with config := c, link := .online }).modLine n.line fun ln =>
    { ln with exchange := some { addr := n.addr, frame := .poll, markAgain := false } }

/-- A node's configuration. -/
def configured (n : NodeAddr) (c : NodeConfig) (s : State) : State := s.modNode n fun nd => { nd with config := c }

/-- A presentation of the card that waits to be judged. -/
def waiting (n : NodeAddr) (arrival : Stamp) (s : State) : State :=
  { s with verdict := { s.verdict with queue :=
    [{ node := n, side := .a, card := card, arrival := arrival, verdict := none }] } }

/-- A scan queue and the index of the running walk. -/
def scanning (js : List ScanJob) (k : Option KeyIx) (s : State) : State :=
  { s with keys := { s.keys with scanQueue := js, walk := k } }

/-- A supply state. -/
def powered (p : Power) (s : State) : State := { s with supply := { s.supply with power := p } }

/-- A port in a phase. -/
def portIn (p : Port) (ph : PortPhase) (s : State) : State := s.modPort p fun q => { q with phase := ph }

/-- A journal record that carries a sequence. -/
def record (q : Seq) (c : RecordClass) : Record := { Record.coldStart q with cls := c }

/-- A minibar session. -/
def session (f : Option FolioIx) (st : SessionState) (reserved : Nat) : Session :=
  { state := st, room := 7, node := ⟨1, 2⟩, key := 3, folio := f, reserved := reserved, linesMade := 0, time := 0,
    limitNoticed := false, limitAt := some 5 }

abbrev n12 : NodeAddr := ⟨1, 2⟩

set_option maxRecDepth 20000
set_option Elab.async false

/-! ### Well-formedness -/

theorem test_wf_unknown_code_of_index : (Instr.unknownCommand .front (some 0x01)).wf = false := by decide
theorem test_wf_unknown_code : (Instr.unknownCommand .front (some 0x00)).wf = true ∧ (Instr.unknownCommand .front none).wf = true := by
  decide
theorem test_wf_empty_frame : (Instr.invalidAnswer 3 []).wf = false := by decide
theorem test_wf_frame : (Instr.invalidAnswer 3 [0x00]).wf = true := by decide

/-! ### The queue, reset and formats -/

theorem test_decode_no_row_has_bits : decodeTableWord 8 1 = none := by decide

theorem test_step_takes_front : (stepped { s0 with pending := [.setClock .service (u32 61), .minuteTick] }).pending = [.minuteTick] ∧
    (stepped { s0 with pending := [.setClock .service (u32 61), .minuteTick] }).supply.counter = 61 := by decide +kernel

theorem test_step_idle : s0.supply.power ≠ .lost ∧ 1 < s0.supply.toTick ∧ (stepped s0).supply.elapsed = 1 ∧
    (stepped s0).supply.fraction = 1 := by decide +kernel

theorem test_poll_bytes : OutFrame.bytes 5 .poll = [0x05, 0x10, 0x00, 0x24, 0x1F] := by decide +kernel

theorem test_answer_round_trip : answerOf 63 ((Answer.present .b card).bytes 63) = some (.present .b card) ∧
    answerOf 5 ((Answer.quiet).bytes 6) = none := by decide +kernel

theorem test_command_codes : Command.checkIn.code = 0x01 ∧ Command.ofCode 0x7D = some .partStatus ∧ Command.ofCode 0x00 = none := by
  decide +kernel

/-! ### Ports and attention -/

/-- A Service port WORKING on HOLD SEGMENT. -/
def held : State := portIn .service (.working .holdSegment) s0

theorem test_checks_truncated : s0.takes .front ∧ [0, 5].length < Command.checkIn.needed [0, 5] ∧
    after (.checkIn .front [0, 5]) s0 = s0.refused .front .checkIn .truncated := by decide +kernel

theorem test_checks_permission : s0.takes .service ∧ Command.checkIn.needed [0, 5, 0, 0, 0, 0] ≤ [0, 5, 0, 0, 0, 0].length ∧
    Command.checkIn.permitted .service = false ∧
    after (.checkIn .service [0, 5, 0, 0, 0, 0]) s0 = s0.refused .service .checkIn .notPermitted := by decide +kernel

theorem test_checks_no_code : after (.unknownCommand .front none) s0 = s0.answered .front none ⟨.truncated, []⟩ := by decide +kernel

theorem test_checks_unknown_code : Command.ofCode 0x00 = none ∧
    after (.unknownCommand .front (some 0)) s0 = s0.answered .front (some 0) ⟨.unknownCommand, []⟩ := by decide +kernel

theorem test_deaf_retain : (powered .retain s0).inRun = false ∧ after (.readRoom .front [0, 5]) (powered .retain s0) =
    powered .retain s0 := by decide +kernel

theorem test_deaf_reset : ((after (.portResetAsserted .front) s0).port .front).resetHeld = true ∧
    after (.statusFrame .front 5) (after (.portResetAsserted .front) s0) = after (.portResetAsserted .front) s0 := by decide +kernel

theorem test_discarded_frame : held.inRun = true ∧ (held.port .service).resetHeld = false ∧
    (held.port .service).phase.isWorking = true ∧
    after (.readRoom .service [0, 5]) held = held.modPort .service (fun q => { q with refusal := true }) ∧
    after (.commandFrameDiscarded .service) held = held.modPort .service (fun q => { q with refusal := true }) ∧
    (none : Option Byte).bind Command.ofCode = none ∧
    after (.unknownCommand .service none) held = held.modPort .service (fun q => { q with refusal := true }) := by decide +kernel

theorem test_refusal_marker_cleared : (powered .retain held).supply.power = .retain ∧
    ((after .mainSupplyReturn (powered .retain (after (.commandFrameDiscarded .service) held))).port .service).refusal = false ∧
    ((after (.statusFrame .service 5) (after (.commandFrameDiscarded .service) held)).port .service).refusal = false ∧
    ((after (.portReset .service) (after (.commandFrameDiscarded .service) held)).port .service).refusal = false := by decide +kernel

theorem test_ranges_room : s0.takes .front ∧ Command.checkOut.permitted .front = true ∧ Command.checkOut.needed (u16 512) ≤ (u16 512).length ∧
    512 ≤ u16At (u16 512) 0 ∧ after (.checkOut .front (u16 512)) s0 = s0.refused .front .checkOut .badParam := by decide +kernel

theorem test_ranges_line : s0.takes .service ∧ Command.stopLine.permitted .service = true ∧ Command.stopLine.needed (u8 16) ≤ (u8 16).length ∧
    16 ≤ u8At (u8 16) 0 ∧ after (.stopLine .service (u8 16)) s0 = s0.refused .service .stopLine .badParam := by decide +kernel

theorem test_ranges_slot : s0.takes .service ∧ Command.freezeEmergencyKey.permitted .service = true ∧
    Command.freezeEmergencyKey.needed (u8 4) ≤ (u8 4).length ∧ 4 ≤ u8At (u8 4) 0 ∧
    after (.freezeEmergencyKey .service (u8 4)) s0 = s0.refused .service .freezeEmergencyKey .badParam := by decide +kernel

theorem test_ranges_set : s0.takes .service ∧ Command.releaseZones.permitted .service = true ∧
    Command.releaseZones.needed (u16 0) ≤ (u16 0).length ∧ u16At (u16 0) 0 = 0 ∧
    after (.releaseZones .service (u16 0)) s0 = s0.refused .service .releaseZones .badParam := by decide +kernel

theorem test_status_frame : s0.inRun = true ∧ (s0.port .front).resetHeld = false ∧
    ((after (.statusFrame .front 3) s0).port .front).dataOut = (s0.statusBlock .front).take 3 ∧
    ((after (.statusFrame .front 3) s0).port .front).restart = .none := by decide +kernel

theorem test_result_frame : ((after (.readRoom .front [0, 5]) s0).port .front).result =
      some ⟨some Command.readRoom.code, .ok, s0.roomRecord 5⟩ ∧
    ((after (.resultFrame .front 40) (after (.readRoom .front [0, 5]) s0)).port .front).phase = .idle ∧
    ((after (.resultFrame .front 33) (after (.readRoom .front [0, 5]) s0)).port .front).phase = .done ∧
    (s0.port .front).result = none := by decide +kernel

theorem test_port_reset : held.inRun = true ∧ ((after (.portReset .service) held).port .service).phase = .working .holdSegment ∧
    ((after (.portReset .front) (after (.readRoom .front [0, 5]) s0)).port .front).phase = .idle ∧
    ((after (.portReset .front) (after (.readRoom .front [0, 5]) s0)).port .front).tag = 1 := by decide +kernel

theorem test_cause_number : (Cause.commandDone.number .front) = some 0 ∧ (Cause.tablesLost.number .service) = some 12 ∧
    (raise .service .tablesLost s0).isPending .service .tablesLost = true ∧
    (withdraw .service .tablesLost s0).isPending .service .tablesLost = false := by decide +kernel

theorem test_levels : s0.takes .front ∧ (∀ k : Fin 14, causeCount .front ≤ k.val → (fun j : Fin 14 => if j = 5 then some (7 : Fin 8) else none) k = none) ∧
    ((after (.setCauseLevels .front (List.replicate 5 0xFF ++ [7] ++ List.replicate 8 0xFF)) s0).att .front).levels[5] = 7 ∧
    ((after (.setCauseLevels .front (List.replicate 6 0xFF ++ [7] ++ List.replicate 7 0xFF)) s0).port .front).result =
      some ⟨some Command.setCauseLevels.code, .badParam, []⟩ := by decide +kernel

theorem test_peer_notice : s0.takes .front ∧ (after (.peerNotice .front [2, 0x42]) s0).isPending .service .peerNotice = true ∧
    ((after (.peerNotice .front [2, 0x42]) s0).att .service).noticeValue = 0x42 := by decide +kernel

theorem test_vector : s0.takes .service ∧
    ({ s0.att .service with pending := (s0.att .service).pending.set 0 true }).selected = some 11 ∧
    (((after (.vector .service []) s0).att .service).pending[11]) = false ∧
    (((after (.vector .service []) s0).att .service).pending[12]) = true ∧
    ((after (.vector .service []) s0).port .service).phase = .done := by decide +kernel

/-- A Front port with every level 0. -/
def silenced : State := after (.setCauseLevels .front (List.replicate 6 0 ++ List.replicate 8 0xFF)) s0

theorem test_vector_none : silenced.takes .front ∧
    ({ silenced.att .front with pending := (silenced.att .front).pending.set 0 true }).selected = none ∧
    ((after (.vector .front []) silenced).port .front).result = some ⟨some 0x70, .ok, [0xFF, 0xFF, 0, 0]⟩ := by decide +kernel

/-! ### Reading -/

/-- A key of room 5 at index 3. -/
def keyed : State := (phased 5 .occupied s0).setEntry 3 (guest [⟨5, 0⟩] .live)

theorem test_read_tables : keyed.takes .front ∧ keyed.findCard card = some (3, guest [⟨5, 0⟩] .live) ∧
    after (.readKey .front (u8 0 ++ u64 card)) keyed = keyed.done .front .readKey (keyed.keyRecord 3) ∧
    after (.readKey .front (u8 1 ++ (u16 0 ++ u32 0) ++ u16 2047)) keyed = keyed.done .front .readKey (keyed.keyRecord 2047) ∧
    s0.findCard card = none ∧ after (.readKey .front (u8 0 ++ u64 card)) s0 = s0.refused .front .readKey .noEntry := by decide +kernel

theorem test_read_units : s0.takes .charge ∧
    after (.peekCharges .charge (u8 8)) s0 = s0.done .charge .peekCharges ([] ++ u16 0 ++ u16 0 ++ u16 128) ∧
    after (.readFolio .charge (u8 255)) s0 = s0.done .charge .readFolio (s0.folioRecord 255) ∧
    after (.keyCounts .charge []) s0 = s0.done .charge .keyCounts (keyCountsBytes s0.keys) ∧
    after (.readNode .charge (uNode ⟨15, 63⟩)) s0 = s0.done .charge .readNode (s0.nodeRecord ⟨15, 63⟩) ∧
    after (.readPrices .charge (u8 3)) s0 = s0.done .charge .readPrices (List.replicate 64 0) ∧
    after (.readSessions .charge []) s0 = s0.done .charge .readSessions (sessionsBytes s0.charge) ∧
    after (.readLamps .charge (u16 511)) s0 = s0.done .charge .readLamps (s0.lampsBytes 511) ∧
    after (.readClock .charge []) s0 = s0.done .charge .readClock (clockBytes s0.supply) ∧
    after (.partStatus .charge []) s0 = s0.done .charge .partStatus s0.partBytes := by decide +kernel

theorem test_read_service : s0.takes .service ∧
    after (.readProfile .service (u8 15)) s0 = s0.done .service .readProfile ((s0.profile 15).bytes 15) ∧
    after (.readWatch .service []) s0 = s0.done .service .readWatch (watchBytes []) ∧
    after (.readLine .service (u8 15)) s0 = s0.done .service .readLine (s0.lineBytes 15) ∧
    after (.readEmergencyKey .service (u8 3)) s0 = s0.done .service .readEmergencyKey (EmergencySlot.blank.bytes) := by decide +kernel

theorem test_read_journal : s0.takes .service ∧
    after (.readSegmentWrapped .service (u8 15 ++ u16 511 ++ u8 16)) s0 = s0.done .service .readSegmentWrapped
      (((List.replicate 16 Slot.blank.bytes).flatten) ++ u8 (s0.segment 15).state.code ++ u8 0) ∧
    (after (.journalStatus .service []) s0).journal.noticeArmed = true ∧
    ((after (.readRecords .service (u8 16)) s0).port .service).result = some ⟨some 0x56, .ok, []⟩ := by decide +kernel

/-! ### Rooms and stays -/

/-- Folio 9 open. -/
def folioed : State := s0.modFolio 9 fun f => { f with state := .opened }

theorem test_check_in_folio : folioed.takes .front ∧ (folioed.room 511).phase = .vacant ∧ (folioed.folio 9).state = .opened ∧
    (folioed.folio 9).rooms.length < 4 ∧
    after (.checkIn .front (u16 511 ++ u16? (some 9) ++ u16 7)) folioed =
      ((offer { kind := .roomCheckin, cls := .notice, time := none, room := some 511, detail := 7 }
        ((folioed.modFolio 9 fun x => { x with rooms := [511] }).modRoom 511 fun rm =>
          { rm with phase := .occupied, generation := 1, liveKeys := 0, folio := some 9 })).done .front .checkIn [1]) := by decide +kernel

theorem test_check_in_refused : (s0.folio 9).state ≠ .opened ∧
    after (.checkIn .front (u16 5 ++ u16? (some 9) ++ u16 7)) s0 = s0.refused .front .checkIn .folio ∧
    ((phased 5 .closing s0).room 5).phase ≠ .vacant ∧
    after (.checkIn .front (u16 5 ++ u16? none ++ u16 7)) (phased 5 .closing s0) =
      (phased 5 .closing s0).refused .front .checkIn .state := by decide +kernel

theorem test_check_out : keyed.takes .front ∧ (keyed.room 5).stayInProgress = true ∧ (keyed.room 5).movedFrom = none ∧
    keyed.keys.scanQueue.length < 8 ∧ ((after (.checkOut .front (u16 5)) keyed).room 5).phase = .closing ∧
    ((after (.checkOut .front (u16 5)) keyed).room 5).closing = some .scanPending ∧
    (after (.checkOut .front (u16 5)) keyed).keys.scanQueue = [.revokeRoom 5 .checkout .front] := by decide +kernel

theorem test_check_out_blocked : ((phased 5 (.blocked .occupied 1) s0).room 5).stayInProgress = true ∧
    ((after (.checkOut .front (u16 5)) (phased 5 (.blocked .occupied 1) s0)).room 5).phase = .blocked .vacant 1 := by decide +kernel

theorem test_check_out_refused : (s0.room 5).stayInProgress = false ∧
    after (.checkOut .front (u16 5)) s0 = s0.refused .front .checkOut .state ∧
    8 ≤ (scanning (List.replicate 8 .expiry) none keyed).keys.scanQueue.length ∧
    after (.checkOut .front (u16 5)) (scanning (List.replicate 8 .expiry) none keyed) =
      (scanning (List.replicate 8 .expiry) none keyed).refused .front .checkOut .scanFull := by decide +kernel

/-- Room 5 in a stay on folio 9. -/
def stay : State := (phased 5 .occupied (folioed.modFolio 9 fun f => { f with rooms := [5] })).modRoom 5 fun rm =>
  { rm with folio := some 9, generation := 255, liveKeys := 2 }

theorem test_move_stay : stay.takes .front ∧ (stay.room 5).phase = .occupied ∧ (stay.room 5).movedFrom = none ∧
    (stay.room 6).phase = .vacant ∧ (stay.room 6).closing = none ∧ stay.keys.scanQueue.length < 8 ∧
    ((after (.moveStay .front (u16 5 ++ u16 6)) stay).room 6).movedFrom = some ⟨5, 255⟩ ∧
    ((after (.moveStay .front (u16 5 ++ u16 6)) stay).room 6).folio = some 9 ∧
    ((after (.moveStay .front (u16 5 ++ u16 6)) stay).room 5).generation = 0 ∧
    ((after (.moveStay .front (u16 5 ++ u16 6)) stay).folio 9).rooms = [6] ∧
    ((after (.moveStay .front (u16 5 ++ u16 6)) stay).port .front).result = some ⟨some Command.moveStay.code, .ok, [0, 1]⟩ := by
  decide +kernel

theorem test_move_stay_refused : after (.moveStay .front (u16 5 ++ u16 5)) stay = stay.refused .front .moveStay .badParam ∧
    (stay.room 6).phase ≠ .occupied ∧ after (.moveStay .front (u16 6 ++ u16 5)) stay = stay.refused .front .moveStay .state := by
  decide +kernel

theorem test_unblock : ((phased 5 (.blocked .occupied 1) s0).room 5).phase = .blocked .occupied 1 ∧
    ((after (.unblockRoom .service (u16 5)) (phased 5 (.blocked .occupied 1) s0)).room 5).phase = .occupied ∧
    (s0.room 5).isBlocked = false ∧ after (.unblockRoom .service (u16 5)) s0 = s0.refused .service .unblockRoom .state := by
  decide +kernel

theorem test_block : (s0.room 5).phase = .vacant ∧
    ((after (.blockRoom .service (u16 5 ++ [9])) s0).room 5).phase = .blocked .vacant 9 ∧
    ((phased 5 .closing s0).room 5).phase = .closing ∧
    after (.blockRoom .service (u16 5 ++ [9])) (phased 5 .closing s0) = (phased 5 .closing s0).refused .service .blockRoom .state := by
  decide +kernel

theorem test_makeup : ((after (.setMakeup .service (u16 5 ++ uFlag true)) s0).room 5).makeup = true ∧
    ((after (.setMakeup .service (u16 5 ++ uFlag true)) s0).lamp 5).primary.makeup = true := by decide +kernel

/-- Node 1/2 is the door node that names room 5. -/
def doored : State := configured n12 (.roomDoor 5) s0

theorem no_room_names (r : RoomIx) : (doored.room r).doorNode = none ∧ (doored.room r).minibarNode = none := by
  have h : ∀ r : RoomIx, (doored.room r).doorNode = none ∧ (doored.room r).minibarNode = none := by decide +kernel
  exact h r

theorem test_write_room_premises : doored.takes .service ∧ (doored.room 5).phase ≠ .occupied ∧ (doored.room 5).phase ≠ .closing ∧
    (∀ n, some n12 = some n → (doored.node n).config = .roomDoor 5) ∧
    (∀ n, (none : Option NodeAddr) = some n → ∃ c, (doored.node n).config = .minibar 5 c) ∧
    (∀ n, some n12 = some n ∨ (none : Option NodeAddr) = some n →
      ∀ q : RoomIx, q ≠ 5 → (doored.room q).doorNode ≠ some n ∧ (doored.room q).minibarNode ≠ some n) ∧
    (none = (doored.room 5).minibarNode ∨ doored.charge.sessionOfRoom 5 = none) := by
  refine ⟨by decide +kernel, by decide +kernel, by decide +kernel, ?_, by simp, ?_, Or.inr (by decide +kernel)⟩
  · rintro n ⟨⟩
    decide +kernel
  · intro n _ q _
    simp [no_room_names]

theorem test_write_room : ((after (.writeRoom .service (u16 5 ++ u16 77 ++ uNode? (some n12) ++ uNode? none)) doored).room 5).doorNode =
      some n12 ∧
    ((after (.writeRoom .service (u16 5 ++ u16 77 ++ uNode? (some n12) ++ uNode? none)) doored).room 5).label = 77 ∧
    after (.writeRoom .service (u16 5 ++ u16 77 ++ uNode? (some n12) ++ uNode? none)) (phased 5 .closing doored) =
      (phased 5 .closing doored).refused .service .writeRoom .state ∧
    (s0.node n12).config ≠ .roomDoor 5 ∧
    after (.writeRoom .service (u16 5 ++ u16 77 ++ uNode? (some n12) ++ uNode? none)) s0 =
      s0.refused .service .writeRoom .conflict := by decide +kernel

/-- Node 1/2 is a connecting door of room 5. -/
def connected : State := configured n12 (.connectDoor 5) s0

/-- Rooms 5 and 6 paired. -/
def paired : State := after (.pairRooms .service (u16 5 ++ u16 6 ++ uNode n12)) connected

theorem test_pair : connected.takes .service ∧ (connected.room 5).isClosing = false ∧ (connected.room 6).isClosing = false ∧
    (connected.room 5).pairing = none ∧ (connected.room 6).pairing = none ∧ (connected.node n12).config = .connectDoor 5 ∧
    (∀ q : RoomIx, q ≠ 5 → q ≠ 6 → (connected.room q).pairing.map Machine.Pairing.node ≠ some n12) ∧
    (paired.room 5).pairing = some ⟨6, n12⟩ ∧ (paired.room 6).pairing = some ⟨5, n12⟩ := by decide +kernel

theorem test_pair_refused : after (.pairRooms .service (u16 5 ++ u16 5 ++ uNode n12)) connected =
      connected.refused .service .pairRooms .badParam ∧
    ((phased 6 .closing connected).room 6).isClosing = true ∧
    after (.pairRooms .service (u16 5 ++ u16 6 ++ uNode n12)) (phased 6 .closing connected) =
      (phased 6 .closing connected).refused .service .pairRooms .state ∧ (paired.room 5).pairing ≠ none := by decide +kernel

theorem test_pair_taken : (after (.portReset .service) paired).takes .service ∧
    ((after (.pairRooms .service (u16 5 ++ u16 6 ++ uNode n12)) paired).port .service).result =
      some ⟨some Command.pairRooms.code, .conflict, []⟩ ∧
    (paired.room 6).isClosing = false ∧ ((after (.unpairRooms .service (u16 6)) paired).room 5).pairing = none ∧
    (s0.room 5).pairing = none ∧ after (.unpairRooms .service (u16 5)) s0 = s0.refused .service .unpairRooms .state := by decide +kernel

/-! ### The Key Register -/

/-- A Key Register with every entry in use. -/
def crowded : State := { s0 with keys := { s0.keys with
  entries := Table.replicate (some { guest [] (.retired .revoked .lost 0) with card := 1 }) 11, retired := [40, 41] } }

theorem test_find_for_issue : keyed.findCard card = some (3, guest [⟨5, 0⟩] .live) ∧ keyed.entry 3 = some (guest [⟨5, 0⟩] .live) ∧
    keyed.findForIssue card = some 3 ∧ keyed.findCard 1 = none ∧ (keyed.entry 0 = none ∧ ∀ j : KeyIx, j < 0 → keyed.entry j ≠ none) ∧
    keyed.findForIssue 1 = some 0 := by decide +kernel

theorem test_find_retired : crowded.findCard card = none ∧ (∀ k : KeyIx, crowded.entry k ≠ none) ∧
    crowded.findForIssue card = some 40 := by decide +kernel

/-- The parameters of ISSUE GUEST KEY for rooms 5 and 6. -/
def issue (mode : Nat) : List Byte :=
  u64 card ++ u8 mode ++ u8 3 ++ u32 10 ++ u32 20 ++ u8 2 ++ ([5, 6].map fun q => u16 q).flatten ++ [0, 0, 0, 0]

/-- Rooms 5 and 6 occupied. -/
def family : State := phased 6 .occupied (phased 5 .occupied s0)

theorem test_issue_guest : family.takes .front ∧ [5, 6].Nodup ∧ (10 : HotelTime) < 20 ∧
    (∀ q ∈ ([5, 6] : List RoomIx), (family.room q).phase = .occupied ∧ (family.room q).movedFrom = none) ∧
    family.heldInService card = false ∧ (∀ q ∈ ([6] : List RoomIx), (family.room q).liveKeys < 6) ∧
    family.findForIssue card = some 0 ∧ family.keys.scanQueue.length < 8 ∧
    (after (.issueGuestKey .front (issue 0)) family).entry 0 = some
      { card := card, standing := .live, profile := 3, validFrom := 10, validUntil := 20, body := .guest [⟨5, 1⟩, ⟨6, 0⟩],
        presentations := 0, uses := 0, lastUse := none, issuer := .front } ∧
    (after (.issueGuestKey .front (issue 0)) family).keys.scanQueue = [.replace 5 .front] ∧
    ((after (.issueGuestKey .front (issue 0)) family).port .front).result =
      some ⟨some Command.issueGuestKey.code, .ok, [0, 0, 1]⟩ ∧
    ((after (.issueGuestKey .front (issue 1)) family).room 5).generation = 0 ∧
    ((after (.issueGuestKey .front (issue 1)) family).room 6).liveKeys = 1 := by decide +kernel

theorem test_issue_low : s0.keys.sum = 2048 ∧ s0.keys.lowArmed = true ∧
    (after (.issueGuestKey .front (issue 1)) family).isPending .front .keyTableLow = false := by decide +kernel

/-- Rooms 5 and 6 occupied, room 6 with 6 live keys. -/
def full6 : State := family.modRoom 6 fun rm => { rm with liveKeys := 6 }

theorem test_issue_refused : ¬ (20 : HotelTime) < 10 ∧
    after (.issueGuestKey .front (u64 card ++ u8 0 ++ u8 3 ++ u32 20 ++ u32 10 ++ u8 1 ++ u16 5 ++ [0, 0, 0, 0, 0, 0])) family =
      family.refused .front .issueGuestKey .badParam ∧
    after (.issueGuestKey .front (issue 0)) keyed = keyed.refused .front .issueGuestKey .state ∧
    after (.issueGuestKey .front (issue 0)) (family.setEntry 3 (guest [] .suspended)) =
      (family.setEntry 3 (guest [] .suspended)).refused .front .issueGuestKey .duplicate ∧
    after (.issueGuestKey .front (issue 0)) full6 = full6.refused .front .issueGuestKey .limit ∧
    after (.issueGuestKey .front (issue 0)) (scanning (List.replicate 8 .expiry) none family) =
      (scanning (List.replicate 8 .expiry) none family).refused .front .issueGuestKey .scanFull := by decide +kernel

theorem test_issue_table_full : ({ family with keys := { crowded.keys with retired := [] } }).findForIssue card = none ∧
    ((after (.issueGuestKey .front (issue 0)) { family with keys := { crowded.keys with retired := [] } }).port .front).result =
      some ⟨some Command.issueGuestKey.code, .tableFull, []⟩ := by decide +kernel

theorem test_issue_staff : s0.takes .service ∧ (10 : HotelTime) < 20 ∧ s0.heldInService card = false ∧ s0.findForIssue card = some 0 ∧
    (after (.issueStaffKey .service (u64 card ++ u16 4 ++ u8 15 ++ u32 10 ++ u32 20)) s0).entry 0 = some
      { card := card, standing := .live, profile := 15, validFrom := 10, validUntil := 20, body := .staff 4,
        presentations := 0, uses := 0, lastUse := none, issuer := .service } ∧
    keyed.heldInService card = true ∧
    after (.issueStaffKey .service (u64 card ++ u16 4 ++ u8 4 ++ u32 10 ++ u32 20)) keyed =
      keyed.refused .service .issueStaffKey .duplicate := by decide +kernel

theorem test_retirement : keyed.entry 3 = some (guest [⟨5, 0⟩] .live) ∧ (guest [⟨5, 0⟩] .live).standing.inService = true ∧
    (retire 3 .revoked .manual none keyed).entry 3 = some (guest [⟨5, 0⟩] (.retired .revoked .manual 0)) ∧
    (retire 3 .revoked .manual none keyed).keys.retired = [3] := by decide +kernel

theorem test_revoke : keyed.takes .front ∧ (guest [⟨5, 0⟩] .live).issuer = .front ∧
    after (.revokeKey .front (u64 card)) keyed = (retire 3 .revoked .manual none keyed).done .front .revokeKey [] ∧
    s0.findCard card = none ∧ after (.revokeKey .front (u64 card)) s0 = s0.refused .front .revokeKey .noEntry := by decide +kernel

/-- A key already retired at index 3. -/
def retired3 : State := keyed.setEntry 3 (guest [⟨5, 0⟩] (.retired .revoked .manual 0))

theorem test_revoke_refused : retired3.findCard card = some (3, guest [⟨5, 0⟩] (.retired .revoked .manual 0)) ∧
    after (.revokeKey .front (u64 card)) retired3 = retired3.refused .front .revokeKey .state := by decide +kernel

theorem test_report_lost : after (.reportLost .front (u64 card)) keyed =
      (joinWatch ⟨card, .alert, .lost⟩ (retire 3 .revoked .lost none keyed)).done .front .reportLost [] ∧
    after (.reportLost .service (u64 card)) s0 =
      (joinWatch ⟨card, .alert, .lost⟩ s0).answered .service (some 0x13) ⟨.noEntry, []⟩ := by decide +kernel

theorem test_report_lost_refused : (keyed.setEntry 3 { guest [] .live with issuer := .service }).findCard card =
      some (3, { guest [] .live with issuer := .service }) ∧
    after (.reportLost .front (u64 card)) (keyed.setEntry 3 { guest [] .live with issuer := .service }) =
      (keyed.setEntry 3 { guest [] .live with issuer := .service }).refused .front .reportLost .state := by decide +kernel

/-- The key of room 5 counted, and suspended. -/
def counted5 : State := keyed.modRoom 5 fun rm => { rm with liveKeys := 6 }
def suspended5 : State := keyed.setEntry 3 (guest [⟨5, 0⟩] .suspended)

theorem test_suspend : counted5.takes .service ∧ counted5.findCard card = some (3, guest [⟨5, 0⟩] .live) ∧
    ((after (.suspendKey .service (u64 card)) counted5).room 5).liveKeys = 5 ∧
    (after (.suspendKey .service (u64 card)) counted5).entry 3 = some (guest [⟨5, 0⟩] .suspended) ∧
    suspended5.findCard card = some (3, guest [⟨5, 0⟩] .suspended) ∧
    after (.suspendKey .service (u64 card)) suspended5 = suspended5.refused .service .suspendKey .state := by decide +kernel

theorem test_resume : (∀ b ∈ (guest [⟨5, 0⟩] .suspended).bindings, suspended5.resumable b = true) ∧
    ((after (.resumeKey .service (u64 card)) suspended5).room 5).liveKeys = 1 ∧
    (after (.resumeKey .service (u64 card)) suspended5).entry 3 = some (guest [⟨5, 0⟩] .live) ∧
    (∃ b ∈ (guest [⟨5, 0⟩] .suspended).bindings, (suspended5.modRoom 5 fun rm => { rm with liveKeys := 6 }).resumable b = false) ∧
    after (.resumeKey .service (u64 card)) (suspended5.modRoom 5 fun rm => { rm with liveKeys := 6 }) =
      (suspended5.modRoom 5 fun rm => { rm with liveKeys := 6 }).refused .service .resumeKey .limit := by decide +kernel

theorem test_extend : keyed.takes .front ∧ keyed.findCard card = some (3, guest [⟨5, 0⟩] .live) ∧
    after (.extendKey .front (u64 card ++ u32 1)) keyed =
      (keyed.setEntry 3 { guest [⟨5, 0⟩] .live with validUntil := 1 }).done .front .extendKey [] ∧
    after (.extendKey .front (u64 card ++ u32 0)) keyed = keyed.refused .front .extendKey .badParam ∧
    after (.extendKey .front (u64 card ++ u32 1)) retired3 = retired3.refused .front .extendKey .state ∧
    s0.findCard card = none ∧ after (.extendKey .front (u64 card ++ u32 1)) s0 = s0.refused .front .extendKey .noEntry := by
  decide +kernel

theorem test_revoke_room_keys : keyed.takes .front ∧ (keyed.room 5).stayInProgress = true ∧
    after (.revokeRoomKeys .front (u16 5)) keyed = (pushJob (.revokeRoom 5 .manual .front) keyed).done .front .revokeRoomKeys [] := by
  decide +kernel

theorem test_scan_start : (scanning [.expiry] none s0).inRun = true ∧ (scanning [.expiry] none s0).keys.walk = none ∧
    (scanning [.expiry] none s0).keys.scanQueue ≠ [] ∧
    after .scanJobStart (scanning [.expiry] none s0) = scanning [.expiry] (some 0) s0 := by decide +kernel

/-- A clock past the key's valid until. -/
def late : State := clocked 600000 keyed

theorem test_scan_expiry : (scanning [.expiry] (some 3) late).entry 3 = some (guest [⟨5, 0⟩] .live) ∧
    late.untilPassed (guest [⟨5, 0⟩] .live) = true ∧
    (after .scanStep (scanning [.expiry] (some 3) late)).entry 3 = some (guest [⟨5, 0⟩] (.retired .expired .expired 600000)) ∧
    (after .scanStep (scanning [.expiry] (some 3) late)).keys.walk = some 4 ∧ late.entry 2046 = none ∧
    after .scanStep (scanning [.expiry] (some 2046) late) = scanning [.expiry] (some 2047) late := by decide +kernel

/-- Room 5 at its second generation. -/
def later5 : State := keyed.modRoom 5 fun rm => { rm with generation := 1 }

theorem test_scan_replace : (∃ b ∈ (guest [⟨5, 0⟩] .live).bindings, b.room = 5) ∧
    (∀ b ∈ (guest [⟨5, 0⟩] .live).bindings, (scanning [.replace 5 .front] (some 3) later5).bindingMark b = .stale) ∧
    (after .scanStep (scanning [.replace 5 .front] (some 3) later5)).entry 3 =
      some (guest [⟨5, 0⟩] (.retired .revoked .replaced 0)) ∧
    (∃ b ∈ (guest [⟨5, 0⟩, ⟨6, 0⟩] .live).bindings, later5.bindingMark b ≠ .stale) ∧
    (after .scanStep (scanning [.replace 5 .front] (some 3) (later5.setEntry 3 (guest [⟨5, 0⟩, ⟨6, 0⟩] .live)))).entry 3 =
      some (guest [⟨6, 0⟩] .live) := by decide +kernel

theorem test_scan_revoke_room : (∃ b ∈ (guest [⟨5, 0⟩, ⟨6, 0⟩] .live).bindings, b.room = 5) ∧
    (∃ b ∈ (guest [⟨5, 0⟩, ⟨6, 0⟩] .live).bindings, b.room ≠ 5) ∧
    (after .scanStep (scanning [.revokeRoom 5 .manual .front] (some 3) (counted5.setEntry 3 (guest [⟨5, 0⟩, ⟨6, 0⟩] .live)))).entry 3 =
      some (guest [⟨6, 0⟩] .live) ∧
    ((after .scanStep (scanning [.revokeRoom 5 .manual .front] (some 3)
      (counted5.setEntry 3 (guest [⟨5, 0⟩, ⟨6, 0⟩] .live)))).room 5).liveKeys = 5 ∧
    (∀ b ∈ (guest [⟨6, 0⟩] .live).bindings, b.room ≠ 5) := by decide +kernel

theorem test_scan_rebind : (⟨5, 0⟩ : Binding) ∈ (guest [⟨5, 0⟩] .live).bindings ∧ (∀ x ∈ (guest [⟨5, 0⟩] .live).bindings, x.room ≠ 6) ∧
    (after .scanStep (scanning [.rebind 5 6 0 .front] (some 3) keyed)).entry 3 = some (guest [⟨6, 0⟩] .live) ∧
    ((after .scanStep (scanning [.rebind 5 6 0 .front] (some 3) keyed)).room 6).liveKeys = 1 := by decide +kernel

theorem test_scan_retired_passed : retired3.entry 3 = some (guest [⟨5, 0⟩] (.retired .revoked .manual 0)) ∧
    after .scanStep (scanning [.expiry] (some 3) retired3) = scanning [.expiry] (some 4) retired3 := by decide +kernel

theorem test_scan_completion : (scanning [.replace 5 .front] (some 2047) s0).entry 2047 = none ∧
    after .scanStep (scanning [.replace 5 .front] (some 2047) s0) = raise .front .scanDone s0 ∧
    after .scanStep (scanning [.expiry] (some 2047) s0) = s0 ∧
    after .scanStep (scanning [.revokeRoom 5 .manual .front] (some 2047) s0) = raise .front .scanDone s0 := by decide +kernel

/-- Room 5 in checkout. -/
def leaving : State := (phased 5 .closing s0).modRoom 5 fun rm => { rm with closing := some .scanPending, privacy := true }

theorem test_scan_checkout : s0.charge.sessionOfRoom 5 = none ∧
    ((after .scanStep (scanning [.revokeRoom 5 .checkout .front] (some 2047) leaving)).room 5).phase = .vacant ∧
    ((after .scanStep (scanning [.rebind 5 6 0 .front] (some 2047) leaving)).room 5).phase = .vacant := by decide +kernel

theorem test_vacate : (leaving.room 5).phase = .closing ∧ ((vacate 5 leaving).room 5).privacy = false ∧
    (vacate 5 leaving).isPending .front .roomVacated = true ∧ (leaving.room 5).folio = none ∧
    ((leaving.modRoom 5 fun rm => { rm with folio := some 9 }).room 5).folio = some 9 ∧ (leaving.folio 9).state ≠ .closing := by
  decide +kernel

/-- A use report and a rebind claim that wait. -/
def claimed (cs : List VeClaim) (s : State) : State := { s with keys := { s.keys with claims := cs } }

theorem test_use_report : (claimed [.use 3 card true (some 9) false] keyed).inRun = true ∧ keyed.entry 3 = some (guest [⟨5, 0⟩] .live) ∧
    after .useReport (claimed [.use 3 card true (some 9) false] keyed) =
      keyed.setEntry 3 { guest [⟨5, 0⟩] .live with presentations := 1, uses := 1, lastUse := some 9 } ∧
    after .useReport (claimed [.use 3 card true (some 9) true] keyed) = keyed := by decide +kernel

theorem test_rebind_claim : (⟨5, 0⟩ : Binding) ∈ (guest [⟨5, 0⟩] .live).bindings ∧
    (∀ b ∈ (guest [⟨5, 0⟩] .live).bindings, b.room ≠ 6) ∧
    after .rebindClaim (claimed [.rebind 3 card ⟨5, 0⟩ 6 false] keyed) =
      ((keyed.setEntry 3 (guest [⟨6, 0⟩] .live)).modRoom 6 fun rm => { rm with liveKeys := 1 }) ∧
    after .rebindClaim (claimed [.rebind 3 card ⟨5, 0⟩ 6 true] keyed) = keyed := by decide +kernel

/-! ### Profiles and the Watch List -/

/-- A profile at the top of its ranges. -/
def broad : Profile :=
  { kinds := 0x1F, classes := 0xFF, days := 0x7F, windowFrom := 1439, windowUntil := 1439, enterOccupied := true, enterVacant := true,
    makeupOnly := true, overridePrivacy := true, overrideBlock := true, restock := true, clockless := true }

theorem test_write_profile : s0.takes .service ∧ broad.kinds.toNat < 32 ∧ broad.days.toNat < 128 ∧ broad.windowFrom < 1440 ∧
    (after (.writeProfile .service (broad.bytes 15)) s0).profile 15 = broad ∧
    after (.writeProfile .service (broad.bytes 3)) s0 = s0.refused .service .writeProfile .badParam := by decide +kernel

/-- A Watch List that is full. -/
def watched : State :=
  let entries : List WatchEntry := (List.range 8).map fun i => ⟨BitVec.ofNat 64 i, .alert, .lost⟩
  { s0 with verdict := { s0.verdict with watch := entries } }

theorem test_watch : s0.takes .service ∧
    after (.watchAdd .service (u64 card ++ [1])) s0 = (joinWatch ⟨card, .alertAndDeny, .service⟩ s0).done .service .watchAdd [] ∧
    after (.watchAdd .service (u64 card ++ [2])) s0 = s0.refused .service .watchAdd .badParam ∧
    after (.watchAdd .service (u64 7 ++ [0])) watched = watched.refused .service .watchAdd .duplicate ∧
    after (.watchAdd .service (u64 card ++ [0])) watched = watched.refused .service .watchAdd .watchFull ∧
    (after (.watchRemove .service (u64 7)) watched).verdict.watch.length = 7 ∧
    after (.watchRemove .service (u64 card)) watched = watched.refused .service .watchRemove .noEntry := by decide +kernel

/-! ### Verdicts -/

/-- The only presentation of a queue is the next one. -/
theorem next_waiting {s : State} {n : NodeAddr} {a : Stamp} (h : s.inRun = true) :
    (waiting n a s).nextWaiting 0 { node := n, side := .a, card := card, arrival := a, verdict := none } :=
  ⟨h, rfl, rfl, fun _ _ hj _ => absurd hj (Nat.not_lt_zero _)⟩

/-- A key of room 5 presented at the room's door node, with a clock that runs. -/
def atDoor : State := waiting n12 (some 5) (clocked 5 (configured n12 (.roomDoor 5) keyed))

theorem test_judgement : (clocked 5 (configured n12 (.roomDoor 5) keyed)).inRun = true ∧
    (after .presentationJudgement atDoor).lastVerdict 1 = some ⟨.grant, .key⟩ ∧
    ((after .presentationJudgement atDoor).node n12).grant = some { time := 5, holder := .key 3, since := 0 } ∧
    ((after .presentationJudgement atDoor).verdict.queue.map Presentation.verdict) = [some ⟨.grant, .key⟩] ∧
    (after .presentationJudgement atDoor).keys.claims.length = 1 := by decide +kernel

/-- A node in a mode with the card presented. -/
def presented (m : Mode) : State := waiting n12 (some 5) ((configured n12 .staffDoor s0).modNode n12 fun nd => { nd with mode := m })

theorem test_verdict_modes : (after .presentationJudgement (waiting n12 none s0)).lastVerdict 1 = some ⟨.deny, .kind⟩ ∧
    ((presented .passage).node n12).config.configured = true ∧
    (after .presentationJudgement (presented .passage)).lastVerdict 1 = some ⟨.grant, .passage⟩ ∧
    (after .presentationJudgement (presented (.released .secured))).lastVerdict 1 = some ⟨.grant, .released⟩ ∧
    (presented .secured).emergencySlot card = none ∧
    (after .presentationJudgement (presented .secured)).lastVerdict 1 = some ⟨.deny, .secured⟩ := by decide +kernel

theorem test_verdict_cards : (joinWatch ⟨card, .alertAndDeny, .service⟩ (presented .normal)).watchOf card =
      some ⟨card, .alertAndDeny, .service⟩ ∧
    (after .presentationJudgement (joinWatch ⟨card, .alertAndDeny, .service⟩ (presented .normal))).lastVerdict 1 =
      some ⟨.deny, .watched⟩ ∧
    (presented .normal).findCard card = none ∧
    (after .presentationJudgement (presented .normal)).lastVerdict 1 = some ⟨.deny, .unknown⟩ := by decide +kernel

theorem test_verdict_key : atDoor.findCard card = some (3, guest [⟨5, 0⟩] .live) ∧
    (guest [⟨5, 0⟩] .live).bindings.any atDoor.isCurrent = true ∧ atDoor.untilPassed (guest [⟨5, 0⟩] .live) = false ∧
    (0 : HotelTime) ≤ 5 ∧ (atDoor.profile 0).kinds.getLsbD 0 = true ∧ (atDoor.profile 0).days.getLsbD (dayNumber 5) = true ∧
    inWindow (atDoor.profile 0).windowFrom (atDoor.profile 0).windowUntil (minuteOfDay 5) = true ∧
    (∃ b ∈ (guest [⟨5, 0⟩] .live).bindings, b.room = 5 ∧ b.generation = (atDoor.room 5).generation) ∧
    (atDoor.room 5).phase = .occupied ∧
    (after .presentationJudgement (atDoor.modRoom 5 fun rm => { rm with privacy := true })).lastVerdict 1 =
      some ⟨.deny, .privacy⟩ := by decide +kernel

theorem test_verdict_key_denied : (5 : HotelTime) < 6 ∧
    (after .presentationJudgement (atDoor.setEntry 3 { guest [⟨5, 0⟩] .live with validFrom := 6 })).lastVerdict 1 =
      some ⟨.deny, .notYet⟩ ∧
    (after .presentationJudgement (atDoor.setEntry 3 (guest [⟨5, 0⟩] .suspended))).lastVerdict 1 = some ⟨.deny, .suspended⟩ ∧
    (NodeConfig.roomDoor 5).kindBit.any ((atDoor.setEntry 3 { guest [⟨5, 0⟩] .live with profile := 1 }).profile 1).kinds.getLsbD = false ∧
    (after .presentationJudgement (atDoor.setEntry 3 { guest [⟨5, 0⟩] .live with profile := 1 })).lastVerdict 1 =
      some ⟨.deny, .kind⟩ := by decide +kernel

/-- The door node of room 5, its latch set. -/
def latched : State := ((configured n12 (.roomDoor 5) s0).modNode n12 fun nd => { nd with latch := true }).modRoom 5 fun rm =>
  { rm with doorNode := some n12 }

theorem test_clear_alarm : (latched.node n12).config.configured = true ∧ (latched.node n12).latch = true ∧
    ((after (.clearAlarm .service (uNode n12)) latched).node n12).latch = false ∧ latched.doorRoom n12 = some 5 ∧
    after (.clearAlarm .service (uNode n12)) s0 = s0.refused .service .clearAlarm .conflict ∧
    (doored.node n12).latch = false ∧ after (.clearAlarm .service (uNode n12)) doored = doored.refused .service .clearAlarm .state := by
  decide +kernel

theorem test_set_node_mode : (doored.node n12).config.configured = true ∧ (doored.node n12).mode.isReleased = false ∧
    ((after (.setNodeMode .service (uNode n12 ++ u8 KeptMode.secured.mode.name.code)) doored).node n12).mode = .secured ∧
    ((presented (.released .normal)).node n12).mode = .released .normal ∧
    ((after (.setNodeMode .service (uNode n12 ++ u8 KeptMode.passage.mode.name.code)) (presented (.released .normal))).node n12).mode =
      .released .passage ∧
    (configured n12 (.minibar 7 3) s0 |>.node n12).config.isMinibar = true ∧
    after (.setNodeMode .service (uNode n12 ++ u8 KeptMode.passage.mode.name.code)) (configured n12 (.minibar 7 3) s0) =
      (configured n12 (.minibar 7 3) s0).refused .service .setNodeMode .conflict := by decide +kernel

theorem test_unlatch : doored.takes .service ∧ (doored.node n12).config.isDoor = true ∧ (doored.line 1).state ≠ .stopped ∧
    doored.outstanding 1 < 8 ∧ ((after (.unlatchNode .service (uNode n12)) doored).line 1).verdicts =
      [{ addr := 2, verdict := ⟨.grant, .remote⟩, card := none, key := none, remote := true }] ∧
    (s0.node n12).config = .none ∧ after (.unlatchNode .service (uNode n12)) s0 = s0.refused .service .unlatchNode .conflict := by
  decide +kernel

/-- A STAFF_DOOR whose line is full of remote verdicts. -/
def crowdedLine (st : LineState) (k : Nat) : State := (configured n12 .staffDoor s0).modLine 1 fun ln => { ln with
  state := st
  verdicts := List.replicate k { addr := 2, verdict := ⟨.grant, .remote⟩, card := none, key := none, remote := true } }

theorem test_unlatch_refused : ((crowdedLine .stopped 0).line 1).state = .stopped ∧
    after (.unlatchNode .service (uNode n12)) (crowdedLine .stopped 0) = (crowdedLine .stopped 0).refused .service .unlatchNode .state ∧
    8 ≤ (crowdedLine .running 8).outstanding 1 ∧
    after (.unlatchNode .service (uNode n12)) (crowdedLine .running 8) = (crowdedLine .running 8).refused .service .unlatchNode .limit ∧
    (crowdedLine .running 7).outstanding 1 < 8 ∧
    ((after (.unlatchNode .service (uNode n12)) (crowdedLine .running 7)).line 1).verdicts.length = 8 := by decide +kernel

theorem test_zones : doored.takes .service ∧ (1 : Set16) ≠ 0 ∧
    ((after (.releaseZones .service (u16 1)) doored).node n12).mode = .released .normal ∧
    ((after (.releaseZones .service (u16 1)) doored).node ⟨0, 0⟩).mode = .normal ∧
    ((after (.restoreZones .service (u16 1)) (presented (.released .passage))).node n12).mode = .passage ∧
    ((after (.restoreZones .service (u16 2)) (presented (.released .passage))).node n12).mode = .released .passage := by decide +kernel

/-! ### Lock lines -/

/-- The parameters of WRITE NODE for a common door with two windows. -/
def commonParams (limit : Nat) : List Byte :=
  uNode n12 ++ u8 3 ++ u16? none ++ u8 15 ++ uEnum? (some 7) ++ u8 limit ++ u8 2 ++ windowBytes (some ⟨0, 1439⟩) ++
    windowBytes (some ⟨1439, 0⟩)

theorem test_write_node : s0.takes .service ∧ (s0.node n12).grant = none ∧ s0.charge.sessionAt n12 = none ∧
    (s0.node n12).config = .none ∧ (NodeConfig.commonDoor 7 [⟨0, 1439⟩, ⟨1439, 0⟩]).code = 3 ∧
    ((after (.writeNode .service (commonParams 10)) s0).node n12).config = .commonDoor 7 [⟨0, 1439⟩, ⟨1439, 0⟩] ∧
    ((after (.writeNode .service (commonParams 250)) s0).node n12).heldOpenLimit = 250 ∧
    after (.writeNode .service (commonParams 251)) s0 = s0.refused .service .writeNode .badParam ∧
    after (.writeNode .service (commonParams 9)) s0 = s0.refused .service .writeNode .badParam := by decide +kernel

/-- A common door with a grant outstanding. -/
def granted (c : NodeConfig) : State := (configured n12 c s0).modNode n12 fun nd =>
  { nd with grant := some { time := 0, holder := .none, since := 0 } }

theorem test_write_node_again : (configured n12 (.commonDoor 0 []) s0 |>.node n12).config.code = 3 ∧
    ((after (.writeNode .service (commonParams 10)) (configured n12 (.commonDoor 0 []) s0)).node n12).modePending = false ∧
    (doored.node n12).config ≠ .none ∧ (doored.node n12).config.code ≠ 3 ∧
    ((after (.writeNode .service (commonParams 10)) doored).node n12).modePending = true ∧
    ((granted .staffDoor).node n12).grant ≠ none ∧
    after (.writeNode .service (commonParams 10)) (granted .staffDoor) =
      (granted .staffDoor).refused .service .writeNode .conflict := by decide +kernel

theorem test_arbiter_busy : ((s0.modLine 1 fun ln => { ln with busy := some 2 }).line 1).exchange = none ∧
    ((after (.busyReply 1) (s0.modLine 1 fun ln => { ln with busy := some 2 })).line 1).exchange = some ⟨2, .busyReply, false⟩ ∧
    after (.rotationTurn 1) (s0.modLine 1 fun ln => { ln with busy := some 2 }) = s0.modLine 1 (fun ln => { ln with busy := some 2 }) := by
  decide +kernel

theorem test_arbiter_verdict : ((crowdedLine .running 1).line 1).busy = none ∧
    ((after (.verdictFrame 1) (crowdedLine .running 1)).line 1).exchange = some ⟨2, .verdict .grant, false⟩ ∧
    after (.modeFrame 1) (crowdedLine .running 1) = crowdedLine .running 1 := by decide +kernel

/-- A node owed a MODE frame. -/
def owed : State := doored.modNode n12 fun nd => { nd with modePending := true }

theorem test_arbiter_mode : ((owed.node n12).modePending = true ∧ (owed.node n12).link ≠ .offline) ∧
    (∀ b : Fin 64, b < 2 → ¬ ((owed.node ⟨1, b⟩).modePending = true ∧ (owed.node ⟨1, b⟩).link ≠ .offline)) ∧
    ((after (.modeFrame 1) owed).line 1).exchange = some ⟨2, .mode .normal, false⟩ ∧ after (.rotationTurn 1) owed = owed := by
  decide +kernel

theorem test_arbiter_rotation : (∀ b : Fin 64, ¬ ((doored.node ⟨1, b⟩).modePending = true ∧ (doored.node ⟨1, b⟩).link ≠ .offline)) ∧
    (doored.node ⟨1, (doored.line 1).rotation + Fin.ofNat 64 2⟩).config.configured = true ∧
    (∀ e < 2, (doored.node ⟨1, (doored.line 1).rotation + Fin.ofNat 64 e⟩).config.configured = false) ∧
    ((after (.rotationTurn 1) doored).line 1).exchange = some ⟨2, .poll, false⟩ ∧
    ((after (.rotationTurn 1) doored).line 1).rotation = 3 := by decide +kernel

/-- A polled staff door. -/
abbrev door : State := polled n12 .staffDoor s0

theorem test_quiet : door.polls n12 ∧ after (.quiet 1) door = door.heardFrom n12 ∧ after (.ack 1) door = door.heardFrom n12 ∧
    (s0.line 1).exchange = none ∧ after (.quiet 1) s0 = s0 ∧ after (.ack 1) s0 = s0 := by decide +kernel

/-- A node that a frame of another kind waits for. -/
def asked (f : OutFrame) (s : State) : State := (s.modNode n12 fun nd => { nd with link := .online }).modLine 1 fun ln =>
  { ln with exchange := some { addr := 2, frame := f, markAgain := false } }

theorem test_ack_verdict : ((asked (.verdict .grant) (crowdedLine .running 1)).node n12).link = .online ∧
    ((asked (.verdict .grant) (crowdedLine .running 1)).line 1).verdicts ≠ [] ∧
    ((after (.ack 1) (asked (.verdict .grant) (crowdedLine .running 1))).line 1).verdicts = [] := by decide +kernel

theorem test_ack_served : ((after (.ack 1) (asked .busyReply (doored.modLine 1 fun ln => { ln with busy := some 2 }))).line 1).busy = none ∧
    ((asked (.mode .normal) owed).node n12).config.configured = true ∧
    ((after (.ack 1) (asked (.mode .normal) owed)).node n12).modePending = false := by decide +kernel

/-- A polled node in another link state. -/
def silentNode (l : Link) : State := door.modNode n12 fun nd => { nd with link := l, missed := 3 }

theorem test_first_answer : ((silentNode .offline).node n12).link ≠ .online ∧
    ((after (.quiet 1) (silentNode .offline)).node n12).link = .online ∧
    (after (.quiet 1) (silentNode .offline)).journal.staged.length = 2 ∧
    ((after (.quiet 1) (silentNode .unpolled)).node n12).modePending = true ∧
    (after (.quiet 1) (silentNode .unpolled)).journal.staged.length = 1 := by decide +kernel

/-- A Presentation Queue that is full, and one with 8 outstanding on a line. -/
def queued (k : Nat) (n : NodeAddr) (s : State) : State :=
  let entries : List Presentation := List.replicate k { node := n, side := .a, card := card, arrival := none, verdict := none }
  { s with verdict := { s.verdict with queue := entries } }

theorem test_present : (queued 31 ⟨0, 0⟩ door).verdict.queue.length < 32 ∧ (queued 31 ⟨0, 0⟩ door).outstanding 1 < 8 ∧
    (after (.present 1 .b card) (queued 31 ⟨0, 0⟩ door)).verdict.queue.length = 32 ∧ 32 ≤ (queued 32 ⟨0, 0⟩ door).verdict.queue.length ∧
    ((after (.present 1 .b card) (queued 32 ⟨0, 0⟩ door)).line 1).busy = some 2 ∧ 8 ≤ (queued 8 n12 door).outstanding 1 ∧
    ((after (.present 1 .b card) (queued 8 n12 door)).line 1).busy = some 2 := by decide +kernel

theorem test_door_opened : door.polls n12 ∧ (door.node n12).config.isMinibar = false ∧ (door.node n12).grant = none ∧
    (door.node n12).mode = .normal ∧ ((after (.doorOpened 1) door).node n12).door = .forced ∧
    (after (.doorOpened 1) door).isPending .service .doorAlarm = true := by decide +kernel

/-- A polled staff door in PASSAGE. -/
def passage : State := door.modNode n12 fun nd => { nd with mode := .passage }

theorem test_door_passage : passage.polls n12 ∧ (passage.node n12).mode = .passage ∧
    ((after (.doorOpened 1) passage).node n12).door = .opened ∧
    ((after (.doorOpened 1) passage).node n12).heldOpen = some { expiry := 60 * 32768, limit := 60 } ∧
    ((after (.doorClosed 1) passage).node n12).door = .closed := by decide +kernel

/-- The polled door node of room 5. -/
def roomDoor : State := (polled n12 (.roomDoor 5) s0).modRoom 5 fun rm => { rm with doorNode := some n12 }

theorem test_bolt : roomDoor.polls n12 ∧ (roomDoor.node n12).config = .roomDoor 5 ∧ (roomDoor.room 5).doorNode = some n12 ∧
    ((after (.bolt 1 true) roomDoor).room 5).privacy = true ∧ ((after (.button 1 .makeup) roomDoor).room 5).makeup = true ∧
    ((after (.button 1 .call) roomDoor).lamp 5).primary.call = true ∧ ((after (.button 1 .cancel) roomDoor).room 5).makeup = false ∧
    after (.bolt 1 true) door = door.heardFrom n12 ∧ after (.button 1 .call) door = door.heardFrom n12 := by decide +kernel

/-- A polled staff door on a line of one node and one more. -/
def pair : State := configured ⟨1, 3⟩ .staffDoor door

theorem test_missed : pair.polls n12 ∧ min ((pair.line 1).silent + 1) 64 < pair.configuredCount 1 ∧ (pair.node n12).missed < 2 ∧
    ((after (.answerWindowExpiry 1) pair).node n12).missed = 1 ∧ ((after (.answerWindowExpiry 1) pair).line 1).badTotal = 0 ∧
    answerOf 2 [0x00] = none ∧ ((after (.invalidAnswer 1 [0x00]) pair).line 1).badTotal = 1 := by decide +kernel

theorem test_line_fault : door.polls n12 ∧ (door.line 1).state = .running ∧ 1 ≤ door.configuredCount 1 ∧
    door.configuredCount 1 ≤ min ((door.line 1).silent + 1) 64 ∧ (door.node n12).missed < 2 ∧
    ((after (.answerWindowExpiry 1) door).line 1).state = .fault ∧
    (after (.answerWindowExpiry 1) door).isPending .service .lineFault = true := by decide +kernel

/-- A polled node of a FAULT line with two misses. -/
def fading : State := (door.modNode n12 fun nd => { nd with missed := 2 }).modLine 1 fun ln => { ln with state := .fault }

theorem test_offline : fading.polls n12 ∧ (fading.line 1).state = .fault ∧ 2 ≤ (fading.node n12).missed ∧
    ((after (.answerWindowExpiry 1) fading).node n12).link = .offline ∧
    (after (.answerWindowExpiry 1) fading).isPending .service .nodeOffline = true := by decide +kernel

theorem test_valid_frame : answerOf 2 (Answer.bytes 2 (.present .a card)) = some (.present .a card) ∧
    after (.invalidAnswer 1 (Answer.bytes 2 (.present .a card))) door = after (.present 1 .a card) door ∧
    answerOf 2 (Answer.bytes 2 .quiet) = some .quiet ∧
    after (.invalidAnswer 1 (Answer.bytes 2 .quiet)) door = after (.quiet 1) door := by decide +kernel

theorem test_line_commands : s0.takes .service ∧ (s0.line 15).state ≠ .stopped ∧
    after (.startLine .service (u8 15)) s0 = s0.refused .service .startLine .state ∧
    ((after (.stopLine .service (u8 1)) door).line 1).exchange = none ∧ ((after (.stopLine .service (u8 1)) door).line 1).state = .stopped ∧
    after (.startLine .service (u8 1)) (crowdedLine .stopped 0) =
      (((crowdedLine .stopped 0).modLine 1 fun ln => { ln with state := .running }).done .service .startLine []) ∧
    after (.stopLine .service (u8 1)) (crowdedLine .stopped 0) = (crowdedLine .stopped 0).refused .service .stopLine .state ∧
    ((after (.restartLine .service (u8 1)) fading).node n12).link = .unpolled ∧
    ((after (.restartLine .service (u8 1)) fading).line 1).state = .running := by decide +kernel

/-! ### Folios, charges and minibars -/

/-- Folio 9 in a state with an allowance and an amount spent. -/
def account (st : FolioState) (allowance spent : Nat) (s : State) : State :=
  s.modFolio 9 fun f => { f with state := st, allowance := allowance, spent := spent }

theorem test_open_folio : s0.takes .front ∧ (after (.openFolio .front (u8 255)) s0).charge =
      (s0.modFolio 255 fun f => { f with state := .opened }).charge ∧
    after (.openFolio .front (u8 9)) folioed = folioed.refused .front .openFolio .state := by decide +kernel

theorem test_hold_folio : folioed.takes .charge ∧ ((after (.holdFolio .charge (u8 9)) folioed).folio 9).state = .held .manual ∧
    after (.holdFolio .charge (u8 9)) s0 = s0.refused .charge .holdFolio .state ∧
    ((after (.releaseFolio .charge (u8 9)) (account (.held .unbilled) 0 0 s0)).folio 9).state = .opened ∧
    after (.releaseFolio .charge (u8 9)) folioed = folioed.refused .charge .releaseFolio .state := by decide +kernel

theorem test_close_folio : folioed.takes .front ∧ (folioed.folio 9).state = .opened ∧
    (∀ r ∈ (folioed.folio 9).rooms, (folioed.room r).stayInProgress = false) ∧
    ((after (.closeFolio .front (u8 9)) folioed).folio 9).state = .free ∧
    (after (.closeFolio .front (u8 9)) folioed).isPending .charge .folioDrained = true ∧
    (∃ r ∈ (stay.folio 9).rooms, (stay.room r).stayInProgress = true) ∧
    after (.closeFolio .front (u8 9)) stay = stay.refused .front .closeFolio .state ∧ (s0.folio 9).state = .free ∧
    after (.closeFolio .front (u8 9)) s0 = s0.refused .front .closeFolio .state ∧
    ((account (.held .manual) 0 0 s0).folio 9).state = .held .manual := by decide +kernel

theorem test_close_folio_drains_later : ((after (.closeFolio .front (u8 9)) (phased 5 .closing stay)).folio 9).state = .closing := by
  decide +kernel

theorem test_allowance : s0.takes .charge ∧
    ((after (.setAllowance .charge (u8 9 ++ u16 5)) (account .opened 0 5 s0)).folio 9).state = .held .allowance ∧
    ((after (.setAllowance .charge (u8 9 ++ u16 6)) (account .opened 0 5 s0)).folio 9).state = .opened ∧
    ((after (.setAllowance .charge (u8 9 ++ u16 6)) (account (.held .allowance) 0 5 s0)).folio 9).state = .opened ∧
    ((after (.setAllowance .charge (u8 9 ++ u16 5)) (account (.held .allowance) 0 5 s0)).folio 9).state = .held .allowance ∧
    after (.setAllowance .charge (u8 9 ++ u16 5)) s0 = s0.refused .charge .setAllowance .state := by decide +kernel

theorem test_write_prices : s0.takes .charge ∧
    tget (tget (after (.writePrices .charge (u8 3 ++ u8 31 ++ u8 1 ++ u16 1234)) s0).charge.prices (3 : Fin 4)) (31 : Fin 32) = 1234 ∧
    32 < (31 : Fin 32).val + [(1 : BitVec 16), 2].length ∧
    after (.writePrices .charge (u8 3 ++ u8 31 ++ u8 2 ++ u16 1 ++ u16 2)) s0 = s0.refused .charge .writePrices .badParam := by
  decide +kernel

/-- A charge line of folio 9. -/
def line (k : BitVec 16) : ChargeLine := { number := k, folio := 9, room := 7, slot := 0, kind := .taken, price := 10, time := none }

/-- Two lines of folio 9 in the queue. -/
def charged : State :=
  let owing := s0.modFolio 9 fun f => { f with state := .opened, pendingLines := 2 }
  raise .charge .chargeWaiting { owing with charge := { owing.charge with queue := [line 1, line 2], nextLine := 3 } }

theorem test_take_charges : charged.takes .charge ∧ (charged.charge.queue.take 1).head? = some (line 1) ∧
    (charged.charge.queue.take 1).getLast? = some (line 1) ∧
    (∀ x ∈ charged.charge.queue.take 1, (charged.folio x.folio).state ≠ .closing) ∧
    ((after (.takeCharges .charge (u8 1)) charged).folio 9).pendingLines = 1 ∧
    (after (.takeCharges .charge (u8 1)) charged).charge.queue = [line 2] ∧
    (after (.takeCharges .charge (u8 1)) charged).isPending .charge .chargeWaiting = true ∧
    (after (.takeCharges .charge (u8 128)) charged).isPending .charge .chargeWaiting = false ∧
    ((after (.takeCharges .charge (u8 128)) charged).port .charge).result = some ⟨some 0x49, .ok, [0, 2, 0, 1, 0, 2]⟩ ∧
    after (.takeCharges .charge (u8 1)) s0 = s0.done .charge .takeCharges [0, 0] := by decide +kernel

/-- A polled minibar of room 7 with a session. -/
def bar (x : Session) : State :=
  let met := polled n12 (.minibar 7 3) (account .opened 15 5 s0)
  { met with charge := { met.charge with
      sessions := [x], prices := Table.replicate (Table.replicate 10 5) 2 } }

theorem test_tray_unexpected : (polled n12 (.minibar 7 3) s0).polls n12 ∧ (polled n12 (.minibar 7 3) s0).charge.sessionAt n12 = none ∧
    (after (.tray 1 31 .taken) (polled n12 (.minibar 7 3) s0)).journal.staged.map Record.kind = [.powerReturn, .trayUnexpected] := by
  decide +kernel

theorem test_tray_charged : (bar (session (some 9) .opened 1)).polls n12 ∧
    (bar (session (some 9) .opened 1)).charge.sessionAt n12 = some (session (some 9) .opened 1) ∧
    (session (some 9) .opened 1).state = .opened ∧ 0 < (session (some 9) .opened 1).reserved ∧
    ((after (.tray 1 31 .taken) (bar (session (some 9) .opened 1))).folio 9).spent = 15 ∧
    ((after (.tray 1 31 .taken) (bar (session (some 9) .opened 1))).folio 9).state = .held .allowance ∧
    (after (.tray 1 31 .taken) (bar (session (some 9) .opened 1))).charge.queue =
      [{ number := 0, folio := 9, room := 7, slot := 31, kind := .taken, price := 10, time := none }] ∧
    ((after (.tray 1 31 .returned) (bar (session (some 9) .opened 1))).folio 9).spent = 0 := by decide +kernel

theorem test_tray_restock : (session none .opened 0).folio = none ∧
    (after (.tray 1 31 .returned) (bar (session none .opened 0))).journal.staged.map Record.kind = [.powerReturn, .restock] := by
  decide +kernel

/-- A session without a reservation while the Charge Queue is full. -/
def fullQueue : State :=
  let met := bar (session (some 9) .opened 0)
  { met with charge := { met.charge with queue := List.replicate 128 (line 0) } }

theorem test_tray_unbilled : fullQueue.polls n12 ∧ fullQueue.charge.sessionAt n12 = some (session (some 9) .opened 0) ∧
    128 ≤ fullQueue.charge.queue.length + fullQueue.charge.reservedTotal ∧
    ((after (.tray 1 31 .taken) fullQueue).folio 9).state = .held .unbilled ∧
    (after (.tray 1 31 .taken) fullQueue).isPending .charge .unbilled = true := by decide +kernel

/-! ### The journal -/

/-- An offer of a class. -/
def offering (c : RecordClass) : Offer := { kind := .bolt, cls := c, time := none }

/-- A journal state. -/
def journaled (f : Journal → Journal) : State := { s0 with journal := f s0.journal }

/-- A full Staging Queue. -/
def staged (c : RecordClass) : State := journaled fun j => { j with
  staged := (List.range 64).map fun i => record (BitVec.ofNat 32 i) c }

theorem test_offer : s0.journal.staged.length < 64 ∧ (offer (offering .notice) s0).journal.nextSeq = 2 ∧
    (offer (offering .notice) s0).journal.staged.length = 2 := by decide +kernel

theorem test_offer_full : 64 ≤ (staged .routine).journal.staged.length ∧ (staged .routine).journal.flush = none ∧
    (staged .routine).journal.droppedRoutine ≠ 0xFFFFFFFF ∧
    (offer (offering .routine) (staged .routine)).journal.droppedRoutine = 1 ∧
    (offer (offering .routine) (staged .routine)).isPending .service .stagingDrop = true ∧
    (staged .routine).journal.staged[0]? = some (record 0 .routine) ∧ (staged .routine).journal.inFlight = 0 ∧
    ((offer (offering .alarm) (staged .routine)).journal.staged.map Record.seq)[0]? = some 1 ∧
    (∀ r ∈ (staged .notice).journal.staged.drop (staged .notice).journal.inFlight, r.cls ≠ .routine) ∧
    (offer (offering .alarm) (staged .notice)).journal.droppedPriority = 1 := by decide +kernel

theorem test_cursor : s0.takes .service ∧ (after (.setCursor .service (u32 0)) s0).journal.cursorLost = false ∧
    (after (.markCollected .service (u32 0)) s0).journal.collected = some 0 ∧
    after (.markCollected .service (u32 1)) s0 = s0.refused .service .markCollected .badParam := by decide +kernel

theorem test_guards : s0.takes .service ∧ (0x8000 : Set16) ≠ 0 ∧
    ((after (.releaseGuards .service (u16 0x8000)) s0).segment 15).guard = false ∧
    ((after (.releaseGuards .service (u16 0x8000)) s0).segment 0).guard = true ∧
    ((after (.setGuards .service (u16 0x8000)) (journaled fun j => j.modSegment 15 fun g => { g with guard := false })).segment 15).guard =
      true := by decide +kernel

/-- Segment 3 FULL in a hold state. -/
def fullSegment (h : HoldState) : State := journaled fun j => j.modSegment 3 fun g => { g with state := .full, hold := h }

/-- Twelve segments held. -/
def twelve : State := journaled fun j => { j with
  segments := tmap 16 j.segments fun k g =>
    { g with state := .full, hold := if k < 12 then .held else .none } }

theorem test_hold : (fullSegment .none).takes .service ∧ ((fullSegment .none).segment 3).state = .full ∧
    ((fullSegment .none).segment 3).hold = .none ∧ ((fullSegment .none).segment 3).holdPending = false ∧
    (fullSegment .none).journal.heldCount < 12 ∧ (after (.holdSegment .service (u8 3)) (fullSegment .none)).journal.marks = [.hold 3] ∧
    (twelve.segment 13).hold = .none ∧ 12 ≤ twelve.journal.heldCount ∧
    after (.holdSegment .service (u8 13)) twelve = twelve.refused .service .holdSegment .holdLimit ∧
    (after (.clearHold .service (u8 3)) (fullSegment .held)).journal.marks = [.release 3] ∧
    after (.clearHold .service (u8 3)) s0 = s0.refused .service .clearHold .state := by decide +kernel

theorem test_flush : s0.journal.staged.getLast? = some (Record.coldStart 0) ∧
    (after (.flushJournal .service []) s0).journal.flush = some 0 ∧
    ((after (.flushJournal .service []) s0).port .service).phase = .working .flushJournal ∧
    (journaled fun j => { j with staged := [] }).journal.staged = [] ∧
    ((after (.flushJournal .service []) (journaled fun j => { j with staged := [] })).port .service).phase = .done := by decide +kernel

theorem test_mark_start : (fullSegment .held).journal.program = none ∧ (fullSegment .held).journal.erase = none ∧
    (after .markProgramStart (journaled fun j => { j with marks := [.hold 3] })).journal.program = some (.holdMark 3) := by decide +kernel

/-- A commit due. -/
def due : State := journaled fun j => { j with commitDue := true }

theorem test_block_start : due.inRun = true ∧ due.journal.program = none ∧ due.journal.erase = none ∧ due.journal.marks = [] ∧
    due.journal.fillingAt = some 0 ∧ (due.segment 0).state = .filling 0 ∧ due.journal.commitRequested = true ∧
    (after .blockProgramStart due).journal.program = some (.block 0 0 1) := by decide +kernel

/-- Segment 1 DIRTY, and its erase begun, suspended or not. -/
def dirty : State := journaled fun j => j.modSegment 1 fun g => { g with state := .dirty }
def erasing (count : Nat) (suspended commit : Bool) : State := { dirty with journal := { dirty.journal with
  erase := some { segment := 1, suspensions := count, suspended := suspended }, commitDue := commit } }

theorem test_erase_start : dirty.journal.programWaits = false ∧ dirty.journal.eraseTarget = some 1 ∧ (dirty.segment 1).state = .dirty ∧
    (after .eraseStart dirty).journal.erase = some { segment := 1, suspensions := 0, suspended := false } ∧
    (erasing 1 true false).journal.programWaits = false ∧ after .eraseStart (erasing 1 true false) = erasing 1 false false := by
  decide +kernel

theorem test_erase_suspend : (erasing 3 false true).journal.program = none ∧ (erasing 3 false true).journal.programWaits = true ∧
    after .eraseSuspend (erasing 3 false true) = erasing 4 true true ∧
    after .eraseSuspend (erasing 4 false true) = erasing 4 false true := by decide +kernel

/-- A program in progress. -/
def programming (p : Program) (j : Journal) : Journal := { j with program := some p }

theorem test_block_complete : (journaled (programming (.block 0 0 1))).journal.flush = none ∧
    (after .blockProgramComplete (journaled (programming (.block 0 0 1)))).journal.staged = [] ∧
    ((after .blockProgramComplete (journaled (programming (.block 0 0 1)))).segment 0).slots.get 0 = .written (Record.coldStart 0) ∧
    ((after .blockProgramComplete (journaled (programming (.block 0 0 1)))).segment 0).state = .filling 1 ∧
    (after .blockProgramComplete (journaled (programming (.block 0 0 1)))).journal.marks = [.first 0 0] := by decide +kernel

/-- Every segment FULL but the head at its last block. -/
def lastBlock : State := journaled fun j => programming (.block 0 63 1) { j with
  segments := tmap 16 j.segments fun k g => { g with state := if k = 0 then .filling 63 else .full } }

theorem test_jam : (∀ j : SegIx, j ≠ 0 → (lastBlock.segment j).state ≠ .blank) ∧ (∀ j : SegIx, j ≠ 0 → (lastBlock.segment j).state = .full) ∧
    (after .blockProgramComplete lastBlock).journal.jammed = true ∧
    (after .blockProgramComplete lastBlock).isPending .service .journalJam = true := by decide +kernel

/-- A journal program while the Service port is WORKING. -/
def marking (p : Program) (c : Command) : State := portIn .service (.working c) (journaled (programming p))

theorem test_marks : ((after .firstSequenceMarkProgrammed (journaled (programming (.firstMark 3 7)))).segment 3).headerFirst = some 7 ∧
    ((marking (.holdMark 3) .holdSegment).port .service).phase = .working .holdSegment ∧
    ((after .holdMarkProgrammed (marking (.holdMark 3) .holdSegment)).segment 3).hold = .held ∧
    ((after .holdMarkProgrammed (marking (.holdMark 3) .holdSegment)).port .service).result = some ⟨some 0x53, .ok, []⟩ ∧
    ((after .releaseMarkProgrammed (marking (.releaseMark 3) .clearHold)).segment 3).hold = .released ∧
    ((after .releaseMarkProgrammed (marking (.releaseMark 3) .clearHold)).port .service).result = some ⟨some 0x54, .ok, []⟩ := by
  decide +kernel

theorem test_erase_complete : (erasing 0 false false).journal.program = none ∧
    ((after .segmentEraseComplete (erasing 0 false false)).segment 1).state = .blank ∧
    (after .segmentEraseComplete (erasing 0 false false)).journal.erase = none := by decide +kernel

/-! ### Corridor indicators -/

theorem test_write_lamps : s0.takes .service ∧
    ((after (.writeLamps .service (u16 511 ++ [0] ++ [2, 1, 2, 0])) s0).lamp 511).primary = ⟨false, true, false, false⟩ ∧
    ((after (.writeLamps .service (u16 511 ++ [1] ++ [1, 2, 2, 2])) s0).lamp 511).alternate = ⟨true, false, false, false⟩ ∧
    ((after (.writeLamps .service (u16 511 ++ [2] ++ [2, 2, 2, 1])) s0).lamp 511).blinkSelect = ⟨false, false, false, true⟩ := by
  decide +kernel

/-- A blink generator that runs. -/
def blinking (on : Bool) : State := { s0 with lamps := { s0.lamps with mode := .blinkAll, phaseOn := on, toggleAt := some 16384 } }

theorem test_lamp_settings : s0.takes .service ∧ BlinkMode.alternate ≠ .steady ∧
    (after (.setBlinkMode .service (u8 3)) s0).lamps.toggleAt = some 16384 ∧
    (after (.setBlinkMode .service (u8 0)) (blinking false)).lamps.pendingStart = some .toggle ∧
    (after (.setBlinkMode .service (u8 0)) (blinking true)).lamps.pendingStart = none ∧
    (after (.setBlinkPeriod .service (u8 8)) s0).lamps.multiplier = 8 ∧
    after (.setBlinkPeriod .service (u8 9)) s0 = s0.refused .service .setBlinkPeriod .badParam ∧
    (after (.setDark .service (uFlag true)) s0).lamps.dark = true := by decide +kernel

theorem test_clear_walks : (after (.clearAlternate .service []) s0).lamps.clearing = some (.alternate, 0) ∧
    (after (.clearBlinkSet .service []) s0).lamps.clearing = some (.blinkSet, 0) ∧
    ((after (.clearBlinkSet .service []) s0).port .service).phase = .working .clearBlinkSet := by decide +kernel

/-- A sweep at a room. -/
def sweeping (k : SweepKind) (r : RoomIx) (s : State) : State := { s with lamps := { s.lamps with sweep := .marking k r } }

theorem test_sweep : (sweeping .full 5 roomDoor).lamps.sweep = .marking .full 5 ∧ ((sweeping .full 5 roomDoor).room 5).doorNode = some n12 ∧
    (roomDoor.line 1).state ≠ .stopped ∧ (roomDoor.node n12).config.configured = true ∧ (roomDoor.node n12).link ≠ .offline ∧
    ((after .sweepVisit (sweeping .full 5 roomDoor)).node n12).lampPending = true ∧
    (after .sweepVisit (sweeping .full 5 roomDoor)).lamps.outstanding = [n12] ∧ (roomDoor.room 510).doorNode = none ∧
    (after .sweepVisit (sweeping .full 510 roomDoor)).lamps.sweep = .marking .full 511 ∧
    (after .sweepVisit (sweeping .full 511 s0)).lamps.sweep = .idle ∧
    (after .sweepVisit (sweeping .full 511 s0)).isPending .service .sweepDone = true := by decide +kernel

theorem test_sweep_toggle : (roomDoor.lamp 5).lastSent ≠ some (roomDoor.displayed 5) ∧
    ((roomDoor.modLamp 5 fun e => { e with lastSent := some .unlit }).lamp 5).lastSent =
      some ((roomDoor.modLamp 5 fun e => { e with lastSent := some .unlit }).displayed 5) ∧
    (after .sweepVisit (sweeping .toggle 5 (roomDoor.modLamp 5 fun e => { e with lastSent := some .unlit }))).lamps.outstanding = [] := by
  decide +kernel

/-- A clearing walk at a room, every lamp of both sets lit. -/
def walking (k : ClearKind) (r : RoomIx) (c : Command) : State :=
  let lit := portIn .service (.working c) s0
  { lit with lamps := { lit.lamps with
      entries := Table.replicate { IndEntry.reset with alternate := ⟨true, true, true, true⟩, blinkSelect := ⟨true, true, true, true⟩ } 9
      clearing := some (k, r) } }

theorem test_clear_step : (walking .alternate 510 .clearAlternate).lamps.clearing = some (.alternate, 510) ∧
    (after .clearWalkStep (walking .alternate 510 .clearAlternate)).lamps.clearing = some (.alternate, 511) ∧
    ((after .clearWalkStep (walking .alternate 510 .clearAlternate)).lamp 510).alternate = .unlit ∧
    ((after .clearWalkStep (walking .blinkSet 510 .clearBlinkSet)).lamp 510).blinkSelect = .unlit ∧
    ((after .clearWalkStep (walking .alternate 511 .clearAlternate)).port .service).result = some ⟨some 0x64, .ok, []⟩ ∧
    ((after .clearWalkStep (walking .blinkSet 511 .clearBlinkSet)).port .service).result = some ⟨some 0x65, .ok, []⟩ := by decide +kernel

/-! ### Clock, timers, supply and emergency keys -/

theorem test_timer_premises : s0.inRun = true ∧ s0.supply.elapsed < 196608 ∧ 196608 < s0.supply.elapsed + s0.supply.toTick ∧
    ((granted .staffDoor).node n12).grant = some { time := 0, holder := .none, since := 0 } ∧ 196608 = 0 + 6 * 32768 ∧
    ((granted .staffDoor).node n12).config.isMinibar = false ∧
    ((after (.grantWindowExpiry n12) (granted .staffDoor)).node n12).grant = none ∧
    (after (.grantWindowExpiry n12) (granted .staffDoor)).supply.elapsed = 196608 := by decide +kernel

/-- A node with its door open for nearly its limit. -/
def ajar (m : Mode) : State := (configured n12 .staffDoor s0).modNode n12 fun nd =>
  { nd with mode := m, door := .opened, heldOpen := some { expiry := 32768, limit := 60 } }

theorem test_held_open : ((ajar .normal).node n12).heldOpen = some { expiry := 32768, limit := 60 } ∧
    ((after (.heldOpenTimerExpiry n12) (ajar .normal)).node n12).door = .heldOpen ∧
    (after (.heldOpenTimerExpiry n12) (ajar .normal)).isPending .service .doorAlarm = true ∧
    ((ajar .passage).node n12).mode ≠ .normal ∧ ((after (.heldOpenTimerExpiry n12) (ajar .passage)).node n12).door = .opened ∧
    ((after (.heldOpenTimerExpiry n12) (ajar .passage)).node n12).heldOpen = none := by decide +kernel

theorem test_open_limit : (bar (session (some 9) .opened 1)).charge.sessionAt n12 = some (session (some 9) .opened 1) ∧
    (session (some 9) .opened 1).limitAt = some 5 ∧ (session (some 9) .opened 1).limitNoticed = false ∧
    (after (.openLimitExpiry n12) (bar (session (some 9) .opened 1))).journal.staged.map Record.kind = [.powerReturn, .minibarHeld] := by
  decide +kernel

theorem test_flush_timer : s0.journal.flushAt = some 65536 ∧ (after .flushTimerExpiry s0).journal.commitDue = true ∧
    (after .flushTimerExpiry s0).supply.counter = 2 := by decide +kernel

theorem test_blink_toggle : (blinking true).lamps.toggleAt = some 16384 ∧ (after .blinkPhaseToggle (blinking true)).lamps.phaseOn = false ∧
    (after .blinkPhaseToggle (blinking true)).lamps.toggleAt = some 32768 ∧
    (after .blinkPhaseToggle (blinking true)).isPending .service .blinkPhase = true := by decide +kernel

theorem test_set_clock : s0.takes .service ∧ (after (.setClock .service (u32 1000)) s0).supply.counter = 1000 ∧
    (after (.setClock .service (u32 1000)) s0).journal.staged.map Record.detail = [0xFFFF, 0xFFFF] ∧
    (after (.setClock .service (u32 1301)) (clocked 1000 s0)).journal.staged.map Record.detail = [0xFFFF, 5] ∧
    (after (.setClock .service (u32 1300)) (clocked 1000 s0)).journal.staged.map Record.detail = [0xFFFF] := by decide +kernel

theorem test_minute_tick : s0.supply.clockRunning = false ∧ s0.supply.fraction < 32768 ∧ (after .minuteTick s0).supply.counter = 60 ∧
    (after .minuteTick s0).keys.scanQueue = [.expiry] ∧ (after .minuteTick s0).lamps.pendingStart = some .full := by decide +kernel

/-- A common door with a passage window from the first minute, its clock at a second before it. -/
def windowed : State := clocked 59 (configured n12 (.commonDoor 0 [⟨1, 2⟩]) s0)

theorem test_window : windowed.inRun = true ∧ windowed.supply.clockRunning = true ∧
    ((after .minuteTick windowed).node n12).mode = .passage ∧ ((after .minuteTick windowed).node n12).inside = true ∧
    ((after .minuteTick (after .minuteTick windowed)).node n12).mode = .normal := by decide +kernel

theorem test_supply_lost : s0.inRun = true ∧ s0.supply.cell = .good ∧ (after .mainSupplyLost s0).supply.power = .retain ∧
    (after .mainSupplyLost s0).supply.lastLoss = some none := by decide +kernel

theorem test_supply_return : (after .mainSupplyLost s0).supply.power = .retain ∧
    ((after .mainSupplyReturn (after .mainSupplyLost s0)).port .front).restart = .warm ∧
    (after .mainSupplyReturn (after .mainSupplyLost s0)).supply.warmRestarts = 1 ∧
    (after .mainSupplyReturn (after .mainSupplyLost s0)).isPending .service .powerReturn = true ∧
    (∀ n, ((after .mainSupplyLost s0).room 5).doorNode = some n → ((after .mainSupplyLost s0).node n).door = .unknown) := by
  refine ⟨by decide +kernel, by decide +kernel, by decide +kernel, by decide +kernel, ?_⟩
  have h : ((after .mainSupplyLost s0).room 5).doorNode = none := by decide +kernel
  simp [h]

theorem test_cell : (after (.backupCellChange .low) s0).supply.cell = .low ∧
    (after (.backupCellChange .failed) (powered .retain s0)).supply.power = .lost ∧
    (after .mainSupplyReturn (powered .lost s0)).supply.power = .run := by decide +kernel

theorem test_cold_start : (powered .lost keyed).inRun = false ∧ (after .coldStart (powered .lost keyed)).keys = s0.keys ∧
    (after .coldStart (powered .lost keyed)).isPending .service .tablesLost = true ∧
    (after .coldStart (powered .lost keyed)).journal.staged = [Record.coldStart 0] ∧ keyed.emergency.programming = none := by
  decide +kernel

/-- An emergency slot in programming. -/
def stored : State := after (.writeEmergencyKey .service (u8 3 ++ u64 card ++ u16 0x8000)) s0

theorem test_emergency : s0.takes .service ∧ (0x8000 : Set16) ≠ 0 ∧
    stored.emergency.programming = some { slot := 3, card := card, zones := 0x8000 } ∧
    (stored.port .service).phase = .working .writeEmergencyKey ∧
    tget (after .emergencyProgrammingDone stored).emergency.slots (3 : Fin 4) = .written card 0x8000 ∧
    tget (after (.freezeEmergencyKey .service (u8 3)) (after .emergencyProgrammingDone stored)).emergency.slots (3 : Fin 4) =
      .frozen card 0x8000 ∧
    after (.freezeEmergencyKey .service (u8 3)) s0 = s0.refused .service .freezeEmergencyKey .state := by decide +kernel

/-! ### Invariants -/

theorem test_bounds_met : s0.bounded ∧ step s0 = .next (stepped s0) := ⟨by decide +kernel, rfl⟩

theorem test_pairing_met : s0.pairedWell ∧ (stepped s0).supply.elapsed = 1 := by
  refine ⟨fun r x h => ?_, by decide +kernel⟩
  have none_paired : ∀ r : RoomIx, (s0.room r).pairing = none := by decide +kernel
  rw [none_paired r] at h
  cases h

theorem test_ports_met : s0.portsKept ∧ (stepped s0).supply.elapsed = 1 := by
  refine ⟨fun p => ?_, by decide +kernel⟩
  cases p <;> decide +kernel

/-! ### Claims served first (R45) -/

/-- A use report waits while the engine walks. -/
def reported : State := claimed [.use 3 card true (some 9) false] keyed

/-- The key as the use report leaves it. -/
abbrev used : KeyEntry := { guest [⟨5, 0⟩] .live with presentations := 1, uses := 1, lastUse := some 9 }

theorem test_claims_served : reported.takes .front ∧ (serveWaiting reported).entry 3 = some used ∧
    (serveWaiting reported).keys.claims = [] ∧ after .useReport reported = serveWaiting reported ∧
    after (.readKey .front (u8 0 ++ u64 card)) reported =
      (serveWaiting reported).done .front .readKey ((serveWaiting reported).keyRecord 3) ∧
    after (.keyCounts .charge []) reported =
      (serveWaiting reported).done .charge .keyCounts (keyCountsBytes (serveWaiting reported).keys) ∧
    (after (.revokeKey .front (u64 card)) reported).entry 3 = some { used with standing := .retired .revoked .manual 0 } ∧
    (after .scanStep (scanning [.expiry] (some 3) reported)).entry 3 = some used := by decide +kernel

theorem test_rebind_served : ((after (.suspendKey .service (u64 card)) (claimed [.rebind 3 card ⟨5, 0⟩ 6 false] keyed)).entry 3) =
      some (guest [⟨6, 0⟩] .suspended) ∧
    ((after (.suspendKey .service (u64 card)) (claimed [.rebind 3 card ⟨5, 0⟩ 6 false] keyed)).room 6).liveKeys = 0 := by
  decide +kernel

/-! ### Rooms and scans, clause by clause -/

theorem test_move_stay_scan_full : 8 ≤ (scanning (List.replicate 8 .expiry) none stay).keys.scanQueue.length ∧
    after (.moveStay .front (u16 5 ++ u16 6)) (scanning (List.replicate 8 .expiry) none stay) =
      (scanning (List.replicate 8 .expiry) none stay).refused .front .moveStay .scanFull := by decide +kernel

/-- Room 6 names node 1/2, the door node configured for room 5; and a minibar of room 7 with a session. -/
def elsewhere : State := doored.modRoom 6 fun rm => { rm with doorNode := some n12 }
def busyBar : State := (bar (session (some 9) .opened 1)).modRoom 7 fun rm => { rm with minibarNode := some n12 }

theorem test_write_room_conflicts : (∀ c, (s0.node n12).config ≠ .minibar 5 c) ∧
    after (.writeRoom .service (u16 5 ++ u16 77 ++ uNode? none ++ uNode? (some n12))) s0 = s0.refused .service .writeRoom .conflict ∧
    (elsewhere.room 6).doorNode = some n12 ∧
    after (.writeRoom .service (u16 5 ++ u16 77 ++ uNode? (some n12) ++ uNode? none)) elsewhere =
      elsewhere.refused .service .writeRoom .conflict ∧
    (busyBar.room 7).minibarNode ≠ none ∧ busyBar.charge.sessionOfRoom 7 ≠ none ∧
    after (.writeRoom .service (u16 7 ++ u16 77 ++ uNode? none ++ uNode? none)) busyBar =
      busyBar.refused .service .writeRoom .conflict := by decide +kernel

theorem test_judge_revoke_room : (∀ b ∈ (guest [⟨5, 0⟩] .live).bindings, b.room = 5) ∧
    (judgeEntry (.revokeRoom 5 .manual .front) 3 counted5).entry 3 = some (guest [] (.retired .revoked .manual 0)) ∧
    ((judgeEntry (.revokeRoom 5 .manual .front) 3 counted5).room 5).liveKeys = 5 ∧
    judgeEntry (.revokeRoom 6 .manual .front) 3 counted5 = counted5 ∧ judgeEntry (.replace 6 .front) 3 counted5 = counted5 ∧
    judgeEntry .expiry 3 keyed = keyed ∧ s0.entry 3 = none ∧ judgeEntry .expiry 3 s0 = s0 := by decide +kernel

/-- The key at index 3 with other bindings. -/
def bound (bs : List Binding) : State := keyed.setEntry 3 (guest bs .live)

theorem test_judge_rebind : (∃ x ∈ (guest [⟨5, 0⟩, ⟨6, 9⟩] .live).bindings, x.room = 6) ∧
    (judgeEntry (.rebind 5 6 0 .front) 3 (bound [⟨5, 0⟩, ⟨6, 9⟩])).entry 3 = some (guest [⟨6, 0⟩] .live) ∧
    ((judgeEntry (.rebind 5 6 0 .front) 3 (bound [⟨5, 0⟩, ⟨6, 9⟩])).room 6).liveKeys = 1 ∧
    (⟨5, 0⟩ : Binding) ∉ (guest [⟨5, 3⟩, ⟨7, 0⟩] .live).bindings ∧
    (judgeEntry (.rebind 5 6 0 .front) 3 (bound [⟨5, 3⟩, ⟨7, 0⟩])).entry 3 = some (guest [⟨7, 0⟩] .live) ∧
    (judgeEntry (.rebind 5 6 0 .front) 3 (bound [⟨5, 3⟩])).entry 3 = some (guest [] (.retired .revoked .replaced 0)) ∧
    judgeEntry (.rebind 5 6 0 .front) 3 (bound [⟨7, 0⟩]) = bound [⟨7, 0⟩] := by decide +kernel

/-- The key at the last index. -/
def lastKey : State := (phased 5 .occupied s0).setEntry 2047 (guest [⟨5, 0⟩] .live)

theorem test_scan_last_entry : (scanning [.revokeRoom 5 .manual .front] (some 2047) lastKey).keys.walk = some 2047 ∧
    (after .scanStep (scanning [.revokeRoom 5 .manual .front] (some 2047) lastKey)).entry 2047 =
      some (guest [] (.retired .revoked .manual 0)) ∧
    (after .scanStep (scanning [.revokeRoom 5 .manual .front] (some 2047) lastKey)).keys.walk = none ∧
    (after .scanStep (scanning [.revokeRoom 5 .manual .front] (some 2047) lastKey)).isPending .front .scanDone = true := by
  decide +kernel

/-- Room 5 in checkout on a CLOSING folio of some rooms. -/
def draining (rs : List RoomIx) : State :=
  (leaving.modRoom 5 fun rm => { rm with folio := some 9 }).modFolio 9 fun f => { f with state := .closing, rooms := rs }

theorem test_vacate_drains : ((draining [5]).folio 9).state = .closing ∧ ((draining [5]).folio 9).rooms.erase 5 = [] ∧
    ((vacate 5 (draining [5])).folio 9).state = .free ∧ (vacate 5 (draining [5])).isPending .front .folioDrained = true ∧
    (vacate 5 (draining [5])).isPending .charge .folioDrained = true ∧ ((draining [5, 6]).folio 9).rooms.erase 5 ≠ [] ∧
    ((vacate 5 (draining [5, 6])).folio 9).state = .closing ∧ ((vacate 5 (draining [5, 6])).folio 9).rooms = [6] := by decide +kernel

/-! ### Verdicts of every kind of node -/

/-- A staff key. -/
abbrev staff (zones : Set16) : KeyEntry := { guest [] .live with body := .staff zones, profile := 15, issuer := .service }

/-- A key presented at a node, on one side, with profile 15 the broadest and room 5 occupied on folio 9. -/
def trying (c : NodeConfig) (side : Side) (e : KeyEntry) (f : State → State) : State :=
  let met := (clocked 5 (configured n12 c keyed)).setEntry 3 e
  let known := f { met with verdict := { met.verdict with
    profiles := tset met.verdict.profiles (15 : Fin 16) broad
    queue := [{ node := n12, side := side, card := card, arrival := some 5, verdict := none }] } }
  known

/-- The verdict given. -/
def given (s : State) : Option Verdict := (after .presentationJudgement s).lastVerdict 1

theorem test_passes_staff : (trying (.roomDoor 5) .a (staff 1) id).passes
    { node := n12, side := .a, card := card, arrival := some 5, verdict := none } 3 (staff 1) := by
  refine ⟨by decide +kernel, by decide +kernel, by decide +kernel, fun h => ?_, fun h => ?_,
    ⟨0, by decide +kernel, by decide +kernel⟩, fun c ws h => ?_, fun zones h => ?_, fun now h => ?_⟩
  · exact absurd h (by decide +kernel)
  · cases h
  · have door : ((trying (.roomDoor 5) .a (staff 1) id).node n12).config = .roomDoor 5 := by decide +kernel
    cases door.symm.trans h
  · cases h
    decide +kernel
  · cases h
    exact ⟨by decide +kernel, by decide +kernel, by decide +kernel⟩

theorem test_verdict_room_door : given (trying (.roomDoor 5) .a (guest [⟨5, 0⟩] .live) id) = some ⟨.grant, .key⟩ ∧
    given (trying (.roomDoor 6) .a (guest [⟨5, 0⟩] .live) id) = some ⟨.deny, .stale⟩ ∧
    given (trying (.roomDoor 5) .a (guest [⟨5, 0⟩] .live) (phased 5 (.blocked .occupied 1))) = some ⟨.deny, .blocked⟩ ∧
    given (trying (.roomDoor 5) .a (guest [⟨5, 0⟩] .live) (phased 5 .closing)) = some ⟨.deny, .roomState⟩ ∧
    given (trying (.roomDoor 5) .a (staff 1) id) = some ⟨.grant, .key⟩ ∧
    given (trying (.roomDoor 5) .a (staff 2) id) = some ⟨.deny, .zone⟩ := by decide +kernel

/-- The broadest profile but for its overrides. -/
def narrowed (f : Profile → Profile) (s : State) : State :=
  { s with verdict := { s.verdict with profiles := tset s.verdict.profiles (15 : Fin 16) (f broad) } }

theorem test_verdict_staff : given (trying (.roomDoor 5) .a (staff 1) (narrowed fun p => { p with enterOccupied := false })) =
      some ⟨.deny, .makeup⟩ ∧
    given (trying (.roomDoor 6) .a (staff 1) (narrowed fun p => { p with enterVacant := false })) = some ⟨.deny, .roomState⟩ ∧
    given (trying (.roomDoor 5) .a (staff 1) fun s => phased 5 (.blocked .occupied 1)
      (narrowed (fun p => { p with overrideBlock := false }) s)) = some ⟨.deny, .blocked⟩ ∧
    given (trying (.roomDoor 5) .a (staff 1) fun s => (narrowed (fun p => { p with overridePrivacy := false }) s).modRoom 5 fun rm =>
      { rm with privacy := true }) = some ⟨.deny, .privacy⟩ ∧
    given (trying .staffDoor .a (staff 1) id) = some ⟨.grant, .key⟩ ∧
    given (trying (.commonDoor 7 []) .a (staff 1) id) = some ⟨.grant, .key⟩ ∧
    given (trying (.commonDoor 7 []) .a (guest [⟨5, 0⟩] .live) id) = some ⟨.grant, .key⟩ ∧
    given (trying (.commonDoor 7 []) .a (guest [⟨5, 0⟩] .live) (phased 5 .closing)) = some ⟨.deny, .stale⟩ := by decide +kernel

/-- Rooms 5 and 6 paired through node 1/2, both occupied, room 6 on a folio. -/
def wing (f : Option FolioIx) (s : State) : State :=
  ((phased 6 .occupied s).modRoom 5 fun rm => { rm with pairing := some ⟨6, n12⟩, folio := f }).modRoom 6 fun rm =>
    { rm with pairing := some ⟨5, n12⟩, folio := some 9 }

theorem test_verdict_connecting : given (trying (.connectDoor 5) .a (guest [⟨5, 0⟩] .live) (wing (some 9))) = some ⟨.grant, .key⟩ ∧
    given (trying (.connectDoor 5) .a (guest [⟨5, 0⟩] .live) (wing none)) = some ⟨.deny, .farSide⟩ ∧
    given (trying (.connectDoor 5) .b (guest [⟨5, 0⟩] .live) (wing none)) = some ⟨.deny, .nearSide⟩ ∧
    given (trying (.connectDoor 5) .a (staff 1) (wing none)) = some ⟨.grant, .key⟩ ∧
    given (trying (.connectDoor 5) .a (guest [⟨5, 0⟩] .live) id) = some ⟨.grant, .key⟩ ∧
    given (trying (.connectDoor 5) .b (guest [⟨5, 0⟩] .live) id) = some ⟨.deny, .nearSide⟩ := by decide +kernel

/-- Room 5 has a minibar at node 1/2, and folio 9 a state, an allowance and an amount spent. -/
def barred (st : FolioState) (allowance spent : Nat) (s : State) : State :=
  ((narrowed id s).modRoom 5 fun rm => { rm with minibarNode := some n12, folio := some 9 }).modFolio 9 fun f =>
    { f with state := st, rooms := [5], allowance := allowance, spent := spent }

/-- The guest key with the broadest profile. -/
abbrev roomKey : KeyEntry := { guest [⟨5, 0⟩] .live with profile := 15 }

theorem test_verdict_minibar : given (trying (.minibar 5 3) .a roomKey (barred .opened 10 5)) = some ⟨.grant, .key⟩ ∧
    (after .presentationJudgement (trying (.minibar 5 3) .a roomKey (barred .opened 10 5))).charge.sessions =
      [{ state := .opening, room := 5, node := n12, key := 3, folio := some 9, reserved := 4, linesMade := 0, time := 5,
         limitNoticed := false, limitAt := none }] ∧
    given (trying (.minibar 5 3) .a roomKey (barred .opened 5 5)) = some ⟨.deny, .allowance⟩ ∧
    given (trying (.minibar 5 3) .a roomKey (barred (.held .allowance) 5 5)) = some ⟨.deny, .allowance⟩ ∧
    given (trying (.minibar 5 3) .a roomKey (barred (.held .manual) 10 5)) = some ⟨.deny, .folio⟩ ∧
    given (trying (.minibar 5 3) .a roomKey id) = some ⟨.deny, .kind⟩ ∧
    (after .presentationJudgement (trying (.minibar 5 3) .a (staff 1) (barred .opened 10 5))).charge.sessions.map Session.folio =
      [none] := by decide +kernel

/-- An emergency card of a zone set in slot 3. -/
def emergencyCard (zones : Set16) (s : State) : State :=
  { s with emergency := { s.emergency with slots := tset s.emergency.slots (3 : Fin 4) (.written card zones) } }

theorem test_verdict_emergency : (emergencyCard 1 (presented .secured)).emergencySlot card = some (3, 1) ∧
    (presented .secured).findCard card = none ∧ given (emergencyCard 1 (presented .secured)) = some ⟨.grant, .emergency⟩ ∧
    given (emergencyCard 2 (presented .normal)) = some ⟨.deny, .zone⟩ ∧
    given (emergencyCard 1 (waiting n12 (some 5) (configured n12 (.minibar 7 3) s0))) = some ⟨.deny, .kind⟩ := by decide +kernel

/-! ### Lock lines, clause by clause -/

/-- The parameters of WRITE NODE for a node that becomes NONE. -/
def noneParams : List Byte := uNode n12 ++ u8 0 ++ u16? none ++ u8 0 ++ uEnum? none ++ u8 60 ++ u8 0 ++ windowBytes none ++ windowBytes none

/-- A sweep that drains with node 1/2 outstanding, its lamp mark set. -/
def drainingLamps (s : State) : State :=
  let marked := s.modNode n12 fun nd => { nd with lampPending := true, modePending := true }
  { marked with lamps := { marked.lamps with sweep := .draining .full, outstanding := [n12] } }

theorem test_write_node_none : ((drainingLamps doored).node n12).config ≠ .none ∧ NodeConfig.none.code = 0 ∧
    ((after (.writeNode .service noneParams) (drainingLamps doored)).node n12).config = .none ∧
    ((after (.writeNode .service noneParams) (drainingLamps doored)).node n12).lampPending = false ∧
    ((after (.writeNode .service noneParams) (drainingLamps doored)).node n12).modePending = false ∧
    (after (.writeNode .service noneParams) (drainingLamps doored)).lamps.outstanding = [] := by decide +kernel

/-- The door node of room 5 under LAMPS. -/
def lit : LampSet := ⟨true, false, false, false⟩
def lamped (again : Bool) (l : Link) : State :=
  ((drainingLamps roomDoor).modNode n12 fun nd => { nd with link := l }).modLine 1 fun ln =>
    { ln with exchange := some { addr := 2, frame := .lamps lit, markAgain := again } }

theorem test_ack_lamps : (lamped false .online).doorRoom n12 = some 5 ∧
    ((after (.ack 1) (lamped false .online)).node n12).lampPending = false ∧
    ((after (.ack 1) (lamped false .online)).lamp 5).lastSent = some lit ∧
    (after (.ack 1) (lamped false .online)).lamps.sweep = .idle ∧
    (after (.ack 1) (lamped false .online)).isPending .service .sweepDone = true ∧
    ((after (.ack 1) (lamped true .online)).node n12).lampPending = true ∧
    (after (.ack 1) (lamped true .online)).lamps.outstanding = [n12] ∧
    (after (.ack 1) (lamped true .online)).lamps.sweep = .draining .full := by decide +kernel

theorem test_ack_lamps_returning : ((lamped false .unpolled).node n12).link ≠ .online ∧
    ((after (.ack 1) (lamped false .unpolled)).node n12).link = .online ∧
    ((after (.ack 1) (lamped false .unpolled)).node n12).lampPending = true ∧
    (after (.ack 1) (lamped false .unpolled)).lamps.outstanding = [] ∧
    (after (.ack 1) (lamped false .offline)).journal.staged.map Record.kind = [.powerReturn, .nodeOnline] := by decide +kernel

/-- The session of the polled minibar in a state, and a grant at its node. -/
def barIn (st : SessionState) (g : Option Grant) : State :=
  (bar (session (some 9) st 4)).modNode n12 fun nd => { nd with grant := g }

abbrev grant0 : Grant := { time := 0, holder := .none, since := 0 }

theorem test_minibar_opened : ((barIn .opening (some grant0)).node n12).config = .minibar 7 3 ∧
    (after (.doorOpened 1) (barIn .opening (some grant0))).charge.sessions =
      [{ session (some 9) .opened 4 with limitAt := some (600 * 32768) }] ∧
    (after (.doorOpened 1) (barIn .opening (some grant0))).journal.staged.map Record.kind = [.powerReturn, .minibarOpen] ∧
    ((after (.doorOpened 1) (barIn .opening (some grant0))).node n12).heldOpen = none ∧
    (after (.doorOpened 1) (barIn .opening none)).journal.staged.map Record.kind = [.powerReturn, .forced, .minibarOpen] ∧
    ((after (.doorOpened 1) (barIn .opening none)).node n12).door = .forced ∧
    (after (.doorOpened 1) (barIn .opened (some grant0))).journal.staged.length = 1 := by decide +kernel

theorem test_minibar_closed : (after (.doorClosed 1) (barIn .opened none)).charge.sessions = [] ∧
    (after (.doorClosed 1) (barIn .opened none)).journal.staged.map Record.kind = [.powerReturn, .minibarClose] ∧
    ((after (.doorClosed 1) (barIn .opened none)).node n12).door = .closed := by decide +kernel

/-- Room 7 in checkout with its scan done, on the CLOSING folio 9 of no other room. -/
def closingBar : State :=
  ((phased 7 .closing (barIn .opened none)).modRoom 7 fun rm => { rm with closing := some .scanDone, folio := some 9 }).modFolio 9 fun f =>
    { f with state := .closing, rooms := [7] }

theorem test_end_session : (closingBar.room 7).closing = some .scanDone ∧
    ((endSession (session (some 9) .opened 4) closingBar).room 7).phase = .vacant ∧
    ((endSession (session (some 9) .opened 4) closingBar).folio 9).state = .free ∧
    (endSession (session none .opened 4) (barIn .opened none)).charge.sessions = [] := by decide +kernel

/-- A line of two nodes whose answer window is open for a frame of another kind, with a verdict, a busy reply and a presentation. -/
def unanswered (f : OutFrame) (v : QueuedVerdict) : State :=
  let met := (waiting n12 (some 5) pair).modLine 1 fun ln =>
    { ln with exchange := some { addr := 2, frame := f, markAgain := false }, verdicts := [v], busy := some 2 }
  { met with verdict := { met.verdict with queue := met.verdict.queue.map fun x => { x with verdict := some ⟨.grant, .key⟩ } } }

abbrev owing (o : VerdictOutcome) (r : Reason) : QueuedVerdict :=
  { addr := 2, verdict := ⟨o, r⟩, card := some card, key := some 3, remote := false }

theorem test_missed_mode : ((unanswered (.mode .normal) (owing .deny .stale)).node n12).missed < 2 ∧
    ((after (.answerWindowExpiry 1) (unanswered (.mode .normal) (owing .deny .stale))).line 1).silent =
      ((unanswered (.mode .normal) (owing .deny .stale)).line 1).silent ∧
    ((after (.answerWindowExpiry 1) (unanswered (.mode .normal) (owing .deny .stale))).line 1).verdicts.length = 1 ∧
    ((after (.invalidAnswer 1 [0x00]) (unanswered (.mode .normal) (owing .deny .stale))).line 1).badTotal = 1 ∧
    ((after (.answerWindowExpiry 1) (unanswered .busyReply (owing .deny .stale))).line 1).busy = none ∧
    ((after (.answerWindowExpiry 1) (unanswered .busyReply (owing .deny .stale))).node n12).missed = 1 := by decide +kernel

theorem test_missed_verdict : ((unanswered (.verdict .grant) (owing .grant .key)).line 1).verdicts = [owing .grant .key] ∧
    ((after (.answerWindowExpiry 1) (unanswered (.verdict .grant) (owing .grant .key))).line 1).verdicts = [] ∧
    (after (.answerWindowExpiry 1) (unanswered (.verdict .grant) (owing .grant .key))).verdict.queue = [] ∧
    (after (.answerWindowExpiry 1) (unanswered (.verdict .grant) (owing .grant .key))).journal.staged.map Record.kind =
      [.powerReturn, .verdictUnconfirmed] ∧
    (after (.answerWindowExpiry 1) (unanswered (.verdict .deny) (owing .deny .stale))).journal.staged.length = 1 := by decide +kernel

/-- A polled node in a link state with two misses. -/
def lapsing (l : Link) (s : State) : State := s.modNode n12 fun nd => { nd with link := l, missed := 2 }

theorem test_third_miss : ((lapsing .unpolled pair).line 1).state = .running ∧
    ((after (.answerWindowExpiry 1) (lapsing .unpolled pair)).node n12).link = .offline ∧
    ((after (.answerWindowExpiry 1) (lapsing .unpolled pair)).line 1).state = .running ∧
    ((after (.answerWindowExpiry 1) (lapsing .online door)).line 1).state = .fault ∧
    (after (.answerWindowExpiry 1) (lapsing .online (bar (session (some 9) .opened 1)))).charge.sessions = [] ∧
    (after (.answerWindowExpiry 1) (lapsing .offline pair)).node n12 = (lapsing .offline pair).node n12 := by decide +kernel

/-- A polled node that was written NONE meanwhile. -/
def vanished : State := (configured n12 .none pair).modNode n12 fun nd => { nd with link := .unpolled }

theorem test_missed_none : (vanished.node n12).config = .none ∧
    after (.answerWindowExpiry 1) vanished = vanished.modLine 1 (fun ln => { ln with exchange := none, missedTotal := 1 }) := by
  decide +kernel

theorem test_restart_abandons : (after (.restartLine .service (u8 1)) (barIn .opened none)).charge.sessions = [] ∧
    (after (.restartLine .service (u8 1)) (barIn .opened none)).journal.staged.map Record.kind = [.powerReturn, .minibarAbandoned] := by
  decide +kernel

theorem test_tray_opening : (barIn .opening none).charge.sessionAt n12 = some (session (some 9) .opening 4) ∧
    (after (.tray 1 31 .taken) (barIn .opening none)).charge.sessions.map Session.state = [.opened] ∧
    (after (.tray 1 31 .taken) (barIn .opening none)).journal.staged.map Record.kind = [.powerReturn, .minibarOpen] ∧
    (after (.tray 1 31 .taken) (barIn .opening none)).charge.queue.length = 1 := by decide +kernel

/-! ### The journal, clause by clause -/

/-- A full Staging Queue with a pending flush of a target, its first record ROUTINE or not. -/
def flushing (first : RecordClass) (target : Seq) : State := portIn .service (.working .flushJournal) (journaled fun j => { j with
  staged := (List.range 64).map fun i => record (BitVec.ofNat 32 i) (if i = 0 then first else .notice)
  nextSeq := 64
  flush := some target })

theorem test_offer_flush : (flushing .routine 0).journal.flush = some 0 ∧
    (offer (offering .alarm) (flushing .routine 0)).journal.flush = none ∧
    ((offer (offering .alarm) (flushing .routine 0)).port .service).result = some ⟨some Command.flushJournal.code, .ok, []⟩ ∧
    (offer (offering .alarm) (flushing .routine 1)).journal.flush = some 1 ∧
    (offer (offering .alarm) (flushing .notice 0)).journal.flush = some 0 := by decide +kernel

/-- Segment 3 FULL of two committed records, its guard clear, the next erase's target, with records collected to a mark. -/
def fullOf (collected : Option Seq) (cursor : Seq) : State := journaled fun j => { j with
  nextSeq := 20, cursor := cursor, collected := collected
  segments := tmap 16 j.segments fun k g =>
    if k = 3 then { g with
      state := .full, guard := false, first := some 7, last := some 8
      slots := (g.slots.set 0 (.written (record 7 .notice))).set 1 (.written (record 8 .notice)) }
    else if k = 0 then g else { g with state := .full } }

theorem test_erase_full : (fullOf (some 7) 5).journal.programWaits = false ∧ (fullOf (some 7) 5).journal.eraseTarget = some 3 ∧
    (after .eraseStart (fullOf (some 7) 5)).journal.overrun = 1 ∧
    (after .eraseStart (fullOf (some 7) 5)).isPending .service .journalOverrun = true ∧
    (after .eraseStart (fullOf (some 7) 5)).journal.cursorLost = true ∧
    (after .eraseStart (fullOf (some 7) 5)).journal.cursor = 20 ∧
    (after .eraseStart (fullOf (some 8) 9)).journal.overrun = 0 ∧
    (after .eraseStart (fullOf (some 8) 9)).isPending .service .journalOverrun = false ∧
    (after .eraseStart (fullOf (some 8) 9)).journal.cursor = 9 ∧
    (after .eraseStart (fullOf none 8)).journal.overrun = 2 := by decide +kernel

/-- The head's last block in programming while segment 2 alone is BLANK. -/
def turning : State := journaled fun j => programming (.block 0 63 1) { j with
  segments := tmap 16 j.segments fun k g => { g with state := if k = 0 then .filling 63 else if k = 2 then .blank else .full } }

theorem test_head_advance : (turning.segment (0 + Fin.ofNat 16 2)).state = .blank ∧ (turning.segment (0 + Fin.ofNat 16 1)).state ≠ .blank ∧
    ((after .blockProgramComplete turning).segment 2).state = .filling 0 ∧ ((after .blockProgramComplete turning).segment 0).state = .full ∧
    (after .blockProgramComplete turning).journal.jammed = false := by decide +kernel

theorem test_first_mark_claimed : (after .blockProgramComplete (journaled (programming (.block 0 0 1)))).journal.marks = [.first 0 0] ∧
    ((after .blockProgramComplete (journaled (programming (.block 0 0 1)))).segment 0).first = some 0 ∧
    (after .blockProgramComplete (journaled fun j => programming (.block 0 1 1) (j.modSegment 0 fun g =>
      { g with state := .filling 1, first := some 9 }))).journal.marks = [] := by decide +kernel

theorem test_slot_reading : Slot.blank.reading = .blank ∧ (Slot.written (record 7 .notice)).reading = .valid ∧
    (Slot.other 0).reading = .unreadable ∧ readingOf (List.replicate 31 0xFF ++ [0x00]) = .unreadable := by decide +kernel

/-! ### Sweeps, timers and supply, clause by clause -/

/-- The door node of room 511. -/
def cornerDoor : State := (polled n12 (.roomDoor 511) s0).modRoom 511 fun rm => { rm with doorNode := some n12 }

theorem test_sweep_corner : (after .sweepVisit (sweeping .full 511 cornerDoor)).lamps.sweep = .draining .full ∧
    (after .sweepVisit (sweeping .full 511 cornerDoor)).lamps.outstanding = [n12] ∧
    ((after .sweepVisit (sweeping .full 511 cornerDoor)).node n12).lampPending = true ∧
    ((cornerDoor.modNode n12 fun nd => { nd with link := .offline }).node n12).link = .offline ∧
    (after .sweepVisit (sweeping .full 511 (cornerDoor.modNode n12 fun nd => { nd with link := .offline }))).lamps.sweep = .idle := by
  decide +kernel

theorem test_grant_window_minibar : ((barIn .opening (some grant0)).node n12).config.isMinibar = true ∧
    (after (.grantWindowExpiry n12) (barIn .opening (some grant0))).charge.sessions = [] ∧
    (after (.grantWindowExpiry n12) (barIn .opening (some grant0))).journal.staged.length = 1 ∧
    ((after (.grantWindowExpiry n12) (barIn .opening (some grant0))).node n12).grant = none ∧
    (after (.grantWindowExpiry n12) (barIn .opened (some grant0))).charge.sessions = [session (some 9) .opened 4] := by decide +kernel

theorem test_abandon : (abandonSessions (fun n => decide (n = n12)) (barIn .opened none)).charge.sessions = [] ∧
    (abandonSessions (fun n => decide (n = n12)) (barIn .opened none)).journal.staged.map Record.kind =
      [.powerReturn, .minibarAbandoned] ∧
    abandonSessions (fun n => decide (n ≠ n12)) (barIn .opened none) = barIn .opened none := by decide +kernel

/-- A backup cell in a condition. -/
def celled (c : Cell) (s : State) : State := { s with supply := { s.supply with cell := c } }

theorem test_loss_low_cell : (celled .low s0).inRun = true ∧ (after .mainSupplyLost (celled .low s0)).supply.power = .lost ∧
    (after .mainSupplyReturn (after .mainSupplyLost (celled .low s0))).isPending .service .tablesLost = true ∧
    (after .mainSupplyLost (barIn .opened none)).journal.staged.map Record.kind = [.powerReturn, .minibarAbandoned, .powerLoss] := by
  decide +kernel

/-- A segment with a slot of other content, and one whose erase was interrupted. -/
def unreadable : State := journaled fun j => (j.modSegment 4 fun g => { g with slots := g.slots.set 511 (.other 0) }).modSegment 6 fun g =>
  { g with interrupted := true }

theorem test_cold_start_unreadable : ((unreadable.segment 4).slots.get 511).reading = .unreadable ∧
    ((after .coldStart unreadable).segment 4).state = .dirty ∧ (unreadable.segment 6).interrupted = true ∧
    ((after .coldStart unreadable).segment 6).state = .dirty ∧ ((after .coldStart unreadable).segment 5).state ≠ .dirty := by
  decide +kernel

theorem test_cold_start_torn : (journaled (programming (.block 2 5 3))).journal.program = some (.block 2 5 3) ∧
    ((after .coldStart (journaled (programming (.block 2 5 3)))).segment 2).state = .dirty ∧
    ((after .coldStart (journaled (programming (.block 2 5 3)))).segment 2).slots.get 39 = .blank ∧
    ((after .coldStart (journaled (programming (.block 2 5 3)))).segment 3).slots.get 40 = .blank := by decide +kernel

/-! ### Judgements, clause by clause -/

/-- The kinds, rooms and details of the records staged after the first. -/
def told (s : State) : List (RecordKind × Option RoomIx × BitVec 16) := (s.journal.staged.drop 1).map fun r => (r.kind, r.room, r.detail)

/-- Room 5 with node 1/2 as its own door node. -/
def ownDoor (s : State) : State := s.modRoom 5 fun rm => { rm with doorNode := some n12 }

theorem test_judgement_guest : (after .presentationJudgement (ownDoor atDoor)).keys.claims = [.use 3 card true (some 5) false] ∧
    ((after .presentationJudgement (ownDoor atDoor)).room 5).lastEntry = some 5 ∧
    ((after .presentationJudgement atDoor).room 5).lastEntry = none ∧
    told (after .presentationJudgement (ownDoor atDoor)) = [(.entryGranted, some 5, 0)] := by decide +kernel

/-- A housekeeping key at the room's own door, entered under make-up only. -/
def housekept : State := trying (.roomDoor 5) .a (staff 1) fun s =>
  (ownDoor (narrowed (fun p => { p with enterOccupied := false }) s)).modRoom 5 fun rm => { rm with makeup := true }

theorem test_judgement_makeup : (housekept.room 5).standsOccupied = true ∧ (housekept.profile 15).enterOccupied = false ∧
    given housekept = some ⟨.grant, .key⟩ ∧ ((after .presentationJudgement housekept).room 5).makeup = false ∧
    ((after .presentationJudgement housekept).lamp 5).primary.makeup = false := by decide +kernel

/-- A key of room 5, moved from there, at the door of room 6. -/
def movedKey : State := trying (.roomDoor 6) .a (guest [⟨5, 255⟩] .live) fun s =>
  scanning [.rebind 5 6 255 .front] none ((phased 6 .occupied s).modRoom 6 fun rm => { rm with movedFrom := some ⟨5, 255⟩ })

theorem test_judgement_moved : (movedKey.room 6).movedFrom = some ⟨5, 255⟩ ∧
    movedKey.binds (guest [⟨5, 255⟩] .live) 6 = false ∧ given movedKey = some ⟨.grant, .key⟩ ∧
    (after .presentationJudgement movedKey).keys.claims =
      [.use 3 card true (some 5) false, .rebind 3 card ⟨5, 255⟩ 6 false] := by decide +kernel

/-- The key at the door with its valid until passed at the moment of judgement. -/
def lapsedKey : State := atDoor.setEntry 3 { guest [⟨5, 0⟩] .live with validUntil := 5 }

theorem test_judgement_corrected : lapsedKey.untilPassed { guest [⟨5, 0⟩] .live with validUntil := 5 } = true ∧
    given lapsedKey = some ⟨.deny, .expired⟩ ∧
    told (after .presentationJudgement lapsedKey) = [(.keyRetired, some 5, 0), (.entryDenied, some 5, 4)] ∧
    (after .presentationJudgement lapsedKey).keys.claims = [.use 3 card false (some 5) false] ∧
    (later5.bindingMark ⟨5, 0⟩ = .stale) ∧
    given (trying (.roomDoor 5) .a (guest [⟨5, 255⟩] .live) id) = some ⟨.deny, .revoked⟩ ∧
    given (trying (.roomDoor 5) .a (guest [⟨5, 255⟩] .suspended) id) = some ⟨.deny, .revoked⟩ := by decide +kernel

theorem test_judgement_watched : told (after .presentationJudgement (joinWatch ⟨card, .alertAndDeny, .service⟩ atDoor)) =
      [(.watchHit, some 5, 3), (.entryDenied, some 5, 0)] ∧
    told (after .presentationJudgement (joinWatch ⟨card, .alert, .lost⟩ atDoor)) =
      [(.watchHit, some 5, 0), (.entryGranted, some 5, 0)] ∧
    (after .presentationJudgement (joinWatch ⟨card, .alert, .lost⟩ atDoor)).isPending .service .watchHit = true := by decide +kernel

theorem test_judgement_sides : told (after .presentationJudgement (trying (.connectDoor 5) .a (guest [⟨5, 0⟩] .live) (wing none))) =
      [(.connectSide, some 5, 2), (.connectSide, some 6, 1)] ∧
    (after .presentationJudgement (trying (.connectDoor 5) .b (guest [⟨5, 0⟩] .live) (wing none))).keys.claims =
      [.use 3 card true (some 5) false] ∧
    told (after .presentationJudgement (trying (.connectDoor 5) .b (guest [⟨5, 0⟩] .live) (wing none))) =
      [(.connectSide, some 6, 0), (.connectSide, some 5, 3)] ∧
    told (after .presentationJudgement (emergencyCard 1 (waiting n12 (some 5) (configured n12 (.connectDoor 5) (wing none s0))))) =
      [(.connectSide, some 5, 14), (.connectSide, some 6, 15)] ∧
    told (after .presentationJudgement (trying (.connectDoor 5) .a (guest [⟨5, 0⟩] .live) id)) = [(.entryGranted, some 5, 0)] := by
  decide +kernel

theorem test_judgement_slot : told (after .presentationJudgement (emergencyCard 1 (presented .passage))) = [(.entryGranted, none, 3)] ∧
    ((after .presentationJudgement (emergencyCard 1 (presented .passage))).node n12).grant =
      some { time := 0, holder := .slot 3, since := 0 } ∧
    ((after .presentationJudgement (presented .passage)).node n12).grant = some { time := 0, holder := .none, since := 0 } := by
  decide +kernel

theorem test_verdict_retired : given (trying .staffDoor .a { staff 1 with standing := .retired .revoked .lost 0 } id) =
      some ⟨.deny, .revoked⟩ ∧
    told (after .presentationJudgement (trying .staffDoor .a { staff 1 with standing := .retired .revoked .lost 0 } id)) =
      [(.entryDenied, none, 2)] ∧
    given (trying .staffDoor .a { staff 1 with standing := .retired .expired .expired 0 } id) = some ⟨.deny, .expired⟩ := by
  decide +kernel

/-- A key presented while the clock is UNSET. -/
def unclocked (e : KeyEntry) (f : Profile → Profile) : State := waiting n12 none (narrowed f ((configured n12 .staffDoor keyed).setEntry 3 e))

theorem test_verdict_clock : (unclocked (staff 1) fun p => { p with clockless := false }).untilPassed (staff 1) = false ∧
    given (unclocked (staff 1) fun p => { p with clockless := false }) = some ⟨.deny, .clock⟩ ∧
    given (unclocked (staff 1) fun p => { p with days := 0 }) = some ⟨.grant, .key⟩ ∧
    given (unclocked (staff 2) id) = some ⟨.deny, .zone⟩ := by decide +kernel

theorem test_verdict_profile : given (trying (.commonDoor 7 []) .a (staff 1) (narrowed fun p => { p with classes := 0x7F })) =
      some ⟨.deny, .kind⟩ ∧
    given (trying (.commonDoor 7 []) .a (staff 1) (narrowed fun p => { p with classes := 0x80 })) = some ⟨.grant, .key⟩ ∧
    given (trying .staffDoor .a (staff 1) (narrowed fun p => { p with days := 0 })) = some ⟨.deny, .time⟩ ∧
    inWindow 1 2 (minuteOfDay 5) = false ∧
    given (trying .staffDoor .a (staff 1) (narrowed fun p => { p with windowFrom := 1, windowUntil := 2 })) = some ⟨.deny, .time⟩ := by
  decide +kernel

/-! ### Claims, charges and the journal's commands, clause by clause -/

theorem test_rebind_turned : (Standing.suspended).inService = true ∧
    after .rebindClaim (claimed [.rebind 3 card ⟨5, 0⟩ 6 false] suspended5) = suspended5.setEntry 3 (guest [⟨6, 0⟩] .suspended) ∧
    after .rebindClaim (claimed [.rebind 3 card ⟨5, 0⟩ 6 false] (bound [⟨5, 0⟩, ⟨6, 9⟩])) =
      ((bound [⟨6, 0⟩]).modRoom 6 fun rm => { rm with liveKeys := 1 }) ∧
    (⟨5, 1⟩ : Binding) ∉ (guest [⟨5, 0⟩] .live).bindings ∧
    after .rebindClaim (claimed [.rebind 3 card ⟨5, 1⟩ 6 false] keyed) = keyed ∧
    after .rebindClaim (claimed [.rebind 3 card ⟨5, 0⟩ 6 false] retired3) = retired3 := by decide +kernel

/-- Two lines of the CLOSING folio 9, which has some rooms. -/
def owed9 (rs : List RoomIx) : State := charged.modFolio 9 fun f => { f with state := .closing, rooms := rs, spent := 7 }

theorem test_take_charges_drains : ((owed9 []).folio 9).pendingLines ≤ (charged.charge.queue.take 2).countP (fun x => decide (x.folio = 9)) ∧
    (after (.takeCharges .charge (u8 2)) (owed9 [])).folio 9 =
      { state := .free, rooms := [], allowance := 0, spent := 0, pendingLines := 0 } ∧
    (after (.takeCharges .charge (u8 2)) (owed9 [])).isPending .front .folioDrained = true ∧
    (after (.takeCharges .charge (u8 2)) (owed9 [])).isPending .charge .folioDrained = true ∧
    ((after (.takeCharges .charge (u8 1)) (owed9 [])).folio 9).state = .closing ∧
    ((after (.takeCharges .charge (u8 2)) (owed9 [5])).folio 9).state = .closing ∧
    (after (.takeCharges .charge (u8 2)) (owed9 [5])).isPending .front .folioDrained = false := by decide +kernel

/-- Records FFFFFFFFh and 1 committed in segment 0, and the next sequence 9. -/
def wrapping : State := journaled fun j => { (j.modSegment 0 fun g => { g with
  slots := (g.slots.set 0 (.written (record 0xFFFFFFFF .alarm))).set 8 (.written (record 1 .alarm)) }) with nextSeq := 9 }

theorem test_set_cursor_places : wrapping.journal.committed.map Record.seq = [0xFFFFFFFF, 1] ∧
    (after (.setCursor .service (u32 0xFFFFFFFF)) wrapping).journal.cursor = 0xFFFFFFFF ∧
    (after (.setCursor .service (u32 0)) wrapping).journal.cursor = 1 ∧ seqBelow 0xFFFFFFF0 0xFFFFFFFF = true ∧
    (after (.setCursor .service (u32 0xFFFFFFF0)) wrapping).journal.cursor = 0xFFFFFFFF ∧
    (after (.setCursor .service (u32 2)) wrapping).journal.cursor = 9 := by decide +kernel

theorem test_hold_segment_state : (s0.segment 15).state ≠ .full ∧
    after (.holdSegment .service (u8 15)) s0 = s0.refused .service .holdSegment .state ∧
    after (.holdSegment .service (u8 3)) (fullSegment .released) = (fullSegment .released).refused .service .holdSegment .state := by
  decide +kernel

/-! ### Time, power and rebuild, clause by clause -/

/-- A part at a counter value and in a power state, with a sweep that runs. -/
def ticking (p : Power) (t : HotelTime) : State := powered p (clocked t (sweeping .toggle 9 s0))

theorem test_minute_tick_retain : (after .minuteTick (ticking .retain 61)).supply.counter = 120 ∧
    (after .minuteTick (ticking .retain 61)).keys.scanQueue = [.expiry] ∧
    (after .minuteTick (ticking .retain 61)).lamps = (ticking .retain 61).lamps ∧
    (after .minuteTick (ticking .run 0xFFFFFFFF)).supply.counter = 0 ∧
    (after .minuteTick (ticking .run 0xFFFFFFFF)).lamps.pendingStart = some .full ∧
    after .minuteTick (ticking .lost 61) = ticking .lost 61 := by decide +kernel

/-- A minibar of room 7, in checkout, whose session stands, with a charge line and a cause waiting. -/
def lossy : State :=
  ((raise .charge .unbilled (bar (session (some 9) .opened 1))).modRoom 7 fun rm =>
    { rm with phase := .closing, closing := some .scanDone, doorNode := some ⟨2, 0⟩, door := .opened })

theorem test_loss_ends_sessions : (after .mainSupplyLost lossy).isPending .charge .unbilled = true ∧
    ((after .mainSupplyLost lossy).room 7).phase = .vacant ∧ ((after .mainSupplyLost lossy).room 7).door = .unknown ∧
    (after .mainSupplyLost lossy).ports = lossy.ports ∧
    (after .mainSupplyLost lossy).journal.staged.map Record.kind = [.powerReturn, .minibarAbandoned, .powerLoss] := by decide +kernel

/-- A part that has been in RETAIN for some crystal periods. -/
def returning (periods : Nat) : State := { powered .retain s0 with supply := { (powered .retain s0).supply with elapsed := periods } }

theorem test_return_minutes : (returning 1966080).supply.power = .retain ∧
    (after .mainSupplyReturn (returning 1966080)).journal.staged.map Record.detail = [0xFFFF, 1] ∧
    (after .mainSupplyReturn (returning 1966079)).journal.staged.map Record.detail = [0xFFFF, 0] ∧
    (after .mainSupplyReturn (returning 0)).journal.commitDue = true ∧
    (after .mainSupplyReturn (returning 0)).isPending .service .tablesLost = true := by decide +kernel

/-- A record of a sequence in a slot of a segment. -/
def slotted (k : SegIx) (i : Nat) (q : Seq) (s : State) : State := { s with journal := s.journal.modSegment k fun g =>
  { g with slots := g.slots.set i (.written (record q .alarm)) } }

/-- The states, first sequences and last sequences of some segments after a cold start. -/
def rebuiltAs (s : State) (ks : List SegIx) : List (SegState × Option Seq × Option Seq) :=
  ks.map fun k => let g := (after .coldStart s).segment k; (g.state, g.first, g.last)

theorem test_rebuild_head : rebuiltAs (slotted 15 503 8 (slotted 15 0 5 (slotted 3 0 2 s0))) [0, 3, 15] =
      [(.blank, none, none), (.full, some 2, some 2), (.filling 63, some 5, some 8)] ∧
    rebuiltAs (slotted 15 504 8 (slotted 15 0 5 (slotted 0 0 2 s0))) [0, 1, 2, 15] =
      [(.full, some 2, some 2), (.filling 0, none, none), (.blank, none, none), (.full, some 5, some 8)] ∧
    (after .coldStart (slotted 15 504 8 (slotted 0 0 2 s0))).journal.nextSeq = 10 ∧
    (after .coldStart (slotted 15 504 8 (slotted 0 0 2 s0))).journal.cursor = 2 := by decide +kernel

/-- Every segment's erase interrupted in a HELD segment. -/
def ruined : State := journaled fun j => { j with
  segments := tmap 16 j.segments fun _ g => { g with interrupted := true, holdMark := true } }

theorem test_rebuild_jammed : (ruined.segment 15).releaseMark = false ∧
    rebuiltAs ruined [0, 15] = [(.dirty, none, none), (.dirty, none, none)] ∧
    ((after .coldStart ruined).segment 15).hold = .held ∧ (after .coldStart ruined).isPending .service .journalJam = true ∧
    (after .coldStart s0).isPending .service .journalJam = false ∧ rebuiltAs s0 [0, 1] = [(.filling 0, none, none), (.blank, none, none)] ∧
    (after .coldStart s0).journal.nextSeq = 1 := by decide +kernel

/-! ### Lines and bytes, clause by clause -/

/-- Node 1/2 with two misses, its MODE, VERDICT or busy reply unanswered, room 6 naming it as door node. -/
def thirdMiss (f : OutFrame) : State :=
  (lapsing .online (unanswered f (owing .grant .key))).modRoom 6 fun rm => { rm with doorNode := some n12, door := .opened }

theorem test_third_miss_frames : 2 ≤ ((thirdMiss .busyReply).node n12).missed ∧ ((thirdMiss .busyReply).node n12).link = .online ∧
    ((after (.answerWindowExpiry 1) (thirdMiss (.mode .normal))).node n12).link = .offline ∧
    ((after (.invalidAnswer 1 [0x00]) (thirdMiss (.mode .normal))).line 1).badTotal = 1 ∧
    ((after (.answerWindowExpiry 1) (thirdMiss .busyReply)).line 1).busy = none ∧
    ((after (.answerWindowExpiry 1) (thirdMiss .busyReply)).room 6).door = .unknown ∧
    (after (.answerWindowExpiry 1) (thirdMiss (.verdict .grant))).journal.staged.map Record.kind =
      [.powerReturn, .verdictUnconfirmed, .nodeOffline] ∧
    ((after (.restartLine .service (u8 1)) (thirdMiss .poll)).room 6).door = .unknown := by decide +kernel

theorem test_part_status_bytes : s0.partBytes.drop 49 = [0, 0, 1, 0] ∧ s0.partBytes.take 5 = [0, 0, 0, 0, 0] ∧
    (celled .low s0).partBytes.take 3 = [0, 1, 0] ∧ (after .mainSupplyReturn (returning 0)).partBytes.take 5 = [0, 0, 1, 0, 1] ∧
    (s0.lineBytes 15).length = 21 ∧ (clockBytes s0.supply).drop 6 = [0xFF, 0xFF, 0xFF] := by decide +kernel

/-! ### Flushes, suspended erases and cut exchanges -/

/-- A journal program with a FLUSH JOURNAL pending and two records staged. -/
def flushed (target : Seq) (s : State) : State := portIn .service (.working .flushJournal) { s with journal := { s.journal with
  flush := some target, staged := [record 0 .notice, record 1 .notice], nextSeq := 2 } }

/-- The flush, the Service port's answer and JOURNAL_JAM once a block is complete. -/
def flushEnd (s : State) : Option Seq × Option ResultRecord × Bool :=
  let t := after .blockProgramComplete s
  (t.journal.flush, (t.port .service).result, t.isPending .service .journalJam)

theorem test_flush_answered : (flushed 0 (journaled (programming (.block 0 0 1)))).inRun = true ∧
    flushEnd (flushed 0 (journaled (programming (.block 0 0 1)))) = (none, some ⟨some 0x50, .ok, []⟩, false) ∧
    flushEnd (flushed 1 (journaled (programming (.block 0 0 1)))) = (some 1, none, false) ∧
    flushEnd (portIn .service .idle (flushed 0 (journaled (programming (.block 0 0 1))))) = (none, none, false) ∧
    flushEnd (flushed 0 lastBlock) = (none, some ⟨some 0x50, .ok, []⟩, true) ∧
    flushEnd (flushed 1 lastBlock) = (none, some ⟨some 0x50, .jammed, []⟩, true) ∧
    flushEnd (flushed 0 turning) = (none, some ⟨some 0x50, .ok, []⟩, false) ∧
    flushEnd (flushed 1 turning) = (some 1, none, false) := by decide +kernel

theorem test_suspended_erase : (erasing 1 true true).journal.program = none ∧
    (after .blockProgramStart (erasing 1 true true)).journal.program = some (.block 0 0 1) ∧
    (after .blockProgramStart (erasing 1 true true)).journal.erase = (erasing 1 true true).journal.erase ∧
    (after .blockProgramComplete (after .blockProgramStart (erasing 1 true true))).journal.erase = (erasing 1 false true).journal.erase ∧
    (after .firstSequenceMarkProgrammed (after .markProgramStart (after .blockProgramComplete
      (after .blockProgramStart (erasing 1 true true))))).journal.erase = (erasing 1 false true).journal.erase ∧
    (after .holdMarkProgrammed { erasing 1 true true with journal := programming (.holdMark 3) (erasing 1 true true).journal
                                 }).journal.erase = (erasing 1 false true).journal.erase := by decide +kernel

/-- An answer awaited on a line of two verdicts. -/
def cutting (f : OutFrame) : State := (unanswered f (owing .grant .key)).modLine 1 fun ln => { ln with
  verdicts := ln.verdicts ++ [owing .deny .stale] }

/-- The kinds and keys of the records staged after the first. -/
def recorded (s : State) : List (RecordKind × Option KeyIx) := (s.journal.staged.drop 1).map fun r => (r.kind, r.key)

theorem test_stop_line_records : ((cutting (.verdict .grant)).line 1).state ≠ .stopped ∧
    recorded (after (.stopLine .service (u8 1)) (cutting (.verdict .grant))) =
      [(.verdictUnconfirmed, some 3), (.verdictUndelivered, none)] ∧
    recorded (after (.stopLine .service (u8 1)) (cutting .poll)) = [(.verdictUndelivered, none), (.verdictUndelivered, none)] ∧
    recorded (after (.restartLine .service (u8 1)) (cutting (.verdict .grant))) =
      [(.verdictUnconfirmed, some 3), (.verdictUndelivered, none)] ∧
    (after (.stopLine .service (u8 1)) (cutting .poll)).verdict.queue = [] := by decide +kernel

theorem test_missed_offline : ((lapsing .offline (unanswered (.verdict .grant) (owing .grant .key))).node n12).link = .offline ∧
    recorded (after (.invalidAnswer 1 [0x00]) (lapsing .offline (unanswered (.verdict .grant) (owing .grant .key)))) =
      [(.verdictUnconfirmed, some 3)] ∧
    ((after (.invalidAnswer 1 [0x00]) (lapsing .offline (unanswered (.verdict .grant) (owing .grant .key)))).line 1).badTotal = 1 ∧
    (after (.answerWindowExpiry 1) (lapsing .offline (unanswered .busyReply (owing .grant .key)))).node n12 =
      (lapsing .offline (unanswered .busyReply (owing .grant .key))).node n12 ∧
    ((after (.answerWindowExpiry 1) (configured n12 .none (unanswered .busyReply (owing .grant .key)))).line 1).busy = none ∧
    ((after (.invalidAnswer 1 [0x00]) vanished).line 1).badTotal = 1 := by decide +kernel

/-! ### Lamps, notices and supply -/

/-- The ALARM lamp of room 5 after an event at its door node, in a mode, lit or not before. -/
def alarmAfter (c : Instr) (m : Mode) (before : Bool) : Bool :=
  ((after c ((roomDoor.modNode n12 fun nd => { nd with mode := m }).modLamp 5 fun e =>
    { e with primary := { e.primary with alarm := before } })).lamp 5).primary.alarm

theorem test_alarm_lamp : roomDoor.doorRoom n12 = some 5 ∧ alarmAfter (.doorOpened 1) .normal false = true ∧
    alarmAfter (.doorOpened 1) .passage true = false ∧ alarmAfter (.doorClosed 1) .normal true = false ∧
    ((after (.heldOpenTimerExpiry n12) ((ajar .normal).modRoom 511 fun rm => { rm with doorNode := some n12 })).lamp 511).primary.alarm =
      true ∧
    ((after (.doorOpened 1) ((barIn .opening none).modRoom 0 fun rm => { rm with doorNode := some n12 })).lamp 0).primary.alarm = true := by
  decide +kernel

/-- A notice from the Charge port pending on the Front port, replaced or not, the one cause with a level. -/
def noticed (replaced : Bool) : State :=
  (after (.peerNotice .charge (u8 0 ++ [0xAB])) s0).modAttn .front fun a =>
    { a with levels := Vector.ofFn fun k => if k = 5 then 7 else 0, noticeReplaced := replaced }

theorem test_vector_notice : (noticed true).takes .front ∧
    ((after (.vector .front []) (noticed true)).port .front).result = some ⟨some 0x70, .ok, [5, 7, 0, 0, 0xAB, 1, 1]⟩ ∧
    ((after (.vector .front []) (noticed true)).att .front).noticeReplaced = false ∧
    ((after (.vector .front []) (noticed false)).port .front).result = some ⟨some 0x70, .ok, [5, 7, 0, 0, 0xAB, 1, 0]⟩ ∧
    ((after (.vector .charge []) (after (.peerNotice .service (u8 1 ++ [7])) s0)).att .charge).noticeValue = 7 := by decide +kernel

theorem test_last_clear_step : ((after .clearWalkStep (walking .alternate 511 .clearAlternate)).lamp 511).alternate = .unlit ∧
    ((after .clearWalkStep (walking .alternate 511 .clearAlternate)).lamp 511).blinkSelect = ⟨true, true, true, true⟩ ∧
    ((after .clearWalkStep (walking .blinkSet 511 .clearBlinkSet)).lamp 510).blinkSelect = ⟨true, true, true, true⟩ ∧
    ((after .clearWalkStep (portIn .service .idle (walking .blinkSet 511 .clearBlinkSet))).port .service).phase = .idle := by
  decide +kernel

/-- A journal with marks waiting, a hold pending and an erase under way. -/
def unsettled : State := { erasing 0 false false with journal := { (erasing 0 false false).journal.modSegment 3 fun g =>
  { g with state := .full, holdPending := true } with marks := [.hold 3, .first 2 7] } }

theorem test_loss_journal : unsettled.inRun = true ∧ (after .mainSupplyLost unsettled).journal.marks = [.first 2 7] ∧
    ((after .mainSupplyLost unsettled).segment 3).holdPending = false ∧ ((after .mainSupplyLost unsettled).segment 1).state = .dirty ∧
    (after .mainSupplyLost unsettled).journal.erase = none ∧
    ((after .mainSupplyLost (journaled (programming (.block 0 0 1)))).segment 0).slots.get 0 = .written (Record.coldStart 0) ∧
    (after .mainSupplyLost (journaled (programming (.block 0 0 1)))).journal.staged.map Record.kind = [.powerLoss] ∧
    tget (after .mainSupplyLost stored).emergency.slots (3 : Fin 4) = .written card 0x8000 ∧
    (after .mainSupplyLost stored).emergency.programming = none ∧ (after .mainSupplyLost stored).ports = stored.ports := by
  decide +kernel

theorem test_return_sweep : (after .mainSupplyReturn (powered .retain s0)).lamps.sweep = .marking .full 0 ∧
    (after .mainSupplyReturn (powered .retain (sweeping .toggle 9 s0))).lamps.pendingStart = some .full ∧
    (after .mainSupplyReturn (powered .retain (blinking false))).lamps.toggleAt = some 16384 ∧
    (after .mainSupplyReturn (powered .retain s0)).lamps.toggleAt = none := by decide +kernel

/-! ### Refusals, clause by clause -/

theorem test_unlatch_refused_doors : (paired.node n12).config = .connectDoor 5 ∧ (paired.room 5).pairing = some ⟨6, n12⟩ ∧
    ((after (.unlatchNode .service (uNode n12)) paired).port .service).result = some ⟨some Command.unlatchNode.code, .conflict, []⟩ ∧
    after (.unlatchNode .service (uNode n12)) (connected.modLine 1 fun ln => { ln with state := .stopped }) =
      (connected.modLine 1 fun ln => { ln with state := .stopped }).refused .service .unlatchNode .state ∧
    after (.unlatchNode .service (uNode n12)) (configured n12 (.roomDoor 5) (crowdedLine .running 8)) =
      (configured n12 (.roomDoor 5) (crowdedLine .running 8)).refused .service .unlatchNode .limit ∧
    after (.setNodeMode .service (uNode n12 ++ [2])) doored = doored.refused .service .setNodeMode .badParam ∧
    after (.setNodeMode .service (uNode n12 ++ [4])) s0 = s0.refused .service .setNodeMode .badParam := by decide +kernel

/-- A SUSPENDED key held for a move from room 5 to room 6, which has some live keys, with another LIVE holder of the binding. -/
def moving (keys : Nat) : State :=
  scanning [.rebind 5 6 255 .front] none (((keyed.setEntry 3 (guest [⟨5, 255⟩] .suspended)).setEntry 4
    { guest [⟨5, 255⟩] .live with card := 9 }).modRoom 6 fun rm => { rm with liveKeys := keys })

theorem test_resume_moving : (moving 5).findCard card = some (3, guest [⟨5, 255⟩] .suspended) ∧
    ScanJob.rebind 5 6 255 .front ∈ (moving 5).keys.scanQueue ∧ ((moving 5).room 5).generation ≠ 255 ∧
    after (.resumeKey .service (u64 card)) (moving 5) = (moving 5).refused .service .resumeKey .limit ∧
    (after (.resumeKey .service (u64 card)) (moving 4)).entry 3 = some (guest [⟨5, 255⟩] .live) ∧
    ((after (.resumeKey .service (u64 card)) (moving 4)).room 6).liveKeys = 4 ∧
    after (.resumeKey .service (u64 card)) s0 = s0.refused .service .resumeKey .noEntry ∧
    after (.suspendKey .service (u64 card)) s0 = s0.refused .service .suspendKey .noEntry ∧
    after (.resumeKey .service (u64 card)) keyed = keyed.refused .service .resumeKey .state := by decide +kernel

theorem test_pair_conflicts : after (.pairRooms .service (u16 6 ++ u16 7 ++ uNode n12)) connected =
      connected.refused .service .pairRooms .conflict ∧
    after (.pairRooms .service (u16 5 ++ u16 6 ++ uNode n12)) s0 = s0.refused .service .pairRooms .conflict ∧
    after (.pairRooms .service (u16 5 ++ u16 6 ++ uNode n12)) (connected.modRoom 511 fun rm => { rm with pairing := some ⟨0, n12⟩ }) =
      (connected.modRoom 511 fun rm => { rm with pairing := some ⟨0, n12⟩ }).refused .service .pairRooms .conflict ∧
    ((after (.unpairRooms .service (u16 5)) (phased 6 .closing paired)).port .service).result =
      some ⟨some Command.unpairRooms.code, .state, []⟩ := by decide +kernel

/-- ISSUE STAFF KEY of a card with a profile and a valid until. -/
def issuing (profile : Byte) (until_ : HotelTime) : Instr :=
  .issueStaffKey .service (u64 card ++ u16 1 ++ [profile] ++ u32 7 ++ u32 until_)

/-- Every entry taken by another key. -/
def taken : State := { s0 with keys := { s0.keys with entries := Table.replicate (some { guest [] .live with card := 9 }) 11 } }

theorem test_staff_key_refused : after (issuing 3 8) s0 = s0.refused .service .issueStaffKey .badParam ∧
    after (issuing 16 8) s0 = s0.refused .service .issueStaffKey .badParam ∧
    after (issuing 4 7) s0 = s0.refused .service .issueStaffKey .badParam ∧ taken.heldInService card = false ∧
    taken.findForIssue card = none ∧ after (issuing 15 8) taken = taken.refused .service .issueStaffKey .tableFull := by decide +kernel

/-- WRITE NODE of node 1/2 with the fields of its bytes. -/
def writing (kind : Byte) (room : Nat) (rest : List Byte) : Instr :=
  .writeNode .service (uNode n12 ++ [kind] ++ u16 room ++ rest ++ List.replicate 8 0)

/-- The command is refused with BAD_PARAM right after reset. -/
def badly (c : Command) (i : Instr) : Bool := decide (after i s0 = s0.refused .service c .badParam)

theorem test_write_node_bad : ([writing 0 0xFFFF [0, 0xFF, 9, 0], writing 0 0xFFFF [0, 0xFF, 251, 0], writing 0 0xFFFF [16, 0xFF, 10, 0],
      writing 6 0xFFFF [0, 0xFF, 10, 0], writing 3 0xFFFF [0, 0, 10, 3], writing 1 512 [0, 0xFF, 10, 0], writing 0 0 [0, 0xFF, 10, 0],
      writing 3 0xFFFF [0, 8, 10, 0], writing 5 0 [0, 4, 10, 0], writing 4 0xFFFF [0, 0, 10, 0], writing 4 0xFFFF [0, 0xFF, 10, 1],
      .writeNode .service (uNode n12 ++ [3, 0xFF, 0xFF, 0, 0, 10, 1] ++ u16 1440 ++ List.replicate 6 0),
      .writeNode .service (uNode n12 ++ [3, 0xFF, 0xFF, 0, 0, 10, 2] ++ List.replicate 6 0 ++ u16 1440)].all (badly .writeNode)) = true := by
  decide +kernel

theorem test_field_ranges_more : badly .readNode (.readNode .service [15, 64]) = true ∧
    badly .pairRooms (.pairRooms .service (u16 5 ++ u16 512 ++ uNode n12)) = true ∧
    badly .pairRooms (.pairRooms .service (u16 5 ++ u16 6 ++ [16, 0])) = true ∧
    badly .writeRoom (.writeRoom .service (u16 5 ++ u16 0 ++ [0xFF, 0xFF, 0, 64])) = true ∧
    badly .setMakeup (.setMakeup .service (u16 511 ++ [2])) = true ∧
    badly .readKey (.readKey .service ([1] ++ List.replicate 6 0 ++ u16 2048)) = true ∧
    badly .writeProfile (.writeProfile .service ([4, 0, 0, 0x80] ++ List.replicate 5 0)) = true ∧
    badly .readSegmentWrapped (.readSegmentWrapped .service ([0] ++ u16 512 ++ [1])) = true ∧
    badly .writeLamps (.writeLamps .service (u16 0 ++ [0, 2, 2, 2, 3])) = true ∧
    badly .readRecords (.readRecords .service [17]) = true ∧ badly .setBlinkPeriod (.setBlinkPeriod .service [0]) = true ∧
    badly .setBlinkMode (.setBlinkMode .service [4]) = true ∧ badly .setDark (.setDark .service [2]) = true ∧
    badly .peerNotice (.peerNotice .service [3, 0]) = true ∧
    badly .setCauseLevels (.setCauseLevels .service (List.replicate 13 0xFF ++ [8])) = true ∧
    badly .writeEmergencyKey (.writeEmergencyKey .service (u8 3 ++ u64 card ++ u16 0)) = true := by decide +kernel

theorem test_field_ranges_ports :
    after (.checkIn .front (u16 5 ++ u16 256 ++ u16 0)) s0 = s0.refused .front .checkIn .badParam ∧
    after (.issueGuestKey .front (u64 card ++ [0, 4] ++ List.replicate 8 0 ++ [1] ++ List.replicate 8 0)) s0 =
      s0.refused .front .issueGuestKey .badParam ∧
    after (.writePrices .charge ([3, 31, 0])) s0 = s0.refused .charge .writePrices .badParam ∧
    after (.takeCharges .charge [129]) s0 = s0.refused .charge .takeCharges .badParam ∧
    after (.peekCharges .charge [9]) s0 = s0.refused .charge .peekCharges .badParam ∧
    after (.setCauseLevels .front (List.replicate 6 0xFF ++ [0] ++ List.replicate 7 0xFF)) s0 =
      s0.refused .front .setCauseLevels .badParam := by decide +kernel

theorem test_watched_secured : given (joinWatch ⟨card, .alertAndDeny, .service⟩ (emergencyCard 1 (presented .secured))) =
      some ⟨.deny, .watched⟩ ∧
    (emergencyCard 1 (trying (.roomDoor 5) .a (guest [⟨5, 0⟩] .live) fun s => s.modNode n12 fun nd =>
      { nd with mode := .secured })).findCard card ≠ none ∧
    given (emergencyCard 1 (trying (.roomDoor 5) .a (guest [⟨5, 0⟩] .live) fun s => s.modNode n12 fun nd =>
      { nd with mode := .secured })) = some ⟨.deny, .secured⟩ := by decide +kernel

end Sys2Proof.Tests
end

section
/-! The statements of "Rooms and stays" (chapter 1). -/

namespace Sys2Proof.Machine

/-! ### Rules for a room command -/

/-- Two updates of a room that agree on the room as it stands give the same state. -/
theorem modRoom_congr (s : State) (r : RoomIx) {f g : Room → Room} (h : f (s.room r) = g (s.room r)) :
    s.modRoom r f = s.modRoom r g := by
  unfold State.modRoom
  rw [tmod_congr s.rooms r f g h]

theorem room_begun (s : State) (p : Port) (c : Command) (r : RoomIx) : (s.begun p c).room r = s.room r := rfl

theorem port_modRoom (s : State) (r : RoomIx) (f : Room → Room) (p : Port) : (s.modRoom r f).port p = s.port p := rfl

/-- An update of a room is the same before and after a port holds a command. -/
theorem modRoom_begun (s : State) (p : Port) (c : Command) (r : RoomIx) (f : Room → Room) :
    (s.begun p c).modRoom r f = (s.modRoom r f).begun p c := rfl

/-- A command on one room whose parameters start with the room index is not truncated. -/
theorem u16_not_truncated (n : Nat) (more : List Byte) : ¬ (u16 n ++ more).length < 2 := by
  simp [u16]

theorem isBlocked_of_phase {rm : Room} {prior : PriorState} {why : Byte} (h : rm.phase = .blocked prior why) :
    rm.isBlocked = true := by
  simp [Room.isBlocked, h]

/-- The phase to which a BLOCKED room returns (R10). -/
theorem unblocked_of_phase {rm : Room} {prior : PriorState} {why : Byte} (h : rm.phase = .blocked prior why) :
    rm.unblocked = if rm.closing ≠ none then .closing else if prior = .vacant then .vacant else .occupied := by
  cases hc : rm.closing with
  | some c => simp [Room.unblocked, h, hc]
  | none => cases prior <;> simp [Room.unblocked, h, hc]

/-- The ROOM_BLOCK record is the same before and after the port holds the command. -/
theorem offerBlock_begun (r : RoomIx) (detail : BitVec 16) {p : Port} {c : Command} {s : State}
    (idle : (s.port p).phase.isWorking = false) (d : c ≠ .flushJournal) :
    offerBlock r detail (s.begun p c) = (offerBlock r detail s).begun p c :=
  offer_begun _ p c s idle d

/-! ### UNBLOCK ROOM (R10) -/

/-- What the Room Table makes of the command where the room is BLOCKED. -/
theorem unblockRoom_blocked {r : RoomIx} {s : State} (b : (s.room r).isBlocked = true) :
    unblockRoom r s = accept [] (offerBlock r 0xFFFF (s.modRoom r fun rm => { rm with phase := rm.unblocked })) := by
  simp [unblockRoom, b]

/-- What the Room Table makes of the command where the room is not BLOCKED. -/
theorem unblockRoom_notBlocked {r : RoomIx} {s : State} (b : (s.room r).isBlocked = false) :
    unblockRoom r s = refuse .state s := by
  simp [unblockRoom, b]

theorem exec_unblockRoom (p : Port) (ps : List Byte) (s : State) :
    exec (.unblockRoom p ps) s = .next (takeCommand .unblockRoom p ps parseRoom unblockRoom s) := rfl

/-- UNBLOCK ROOM of a BLOCKED room ends with OK. -/
theorem exec_unblockRoom_blocked {r : RoomIx} {s : State} (more : List Byte) (h : s.takes .service)
    (b : (s.room r).isBlocked = true) :
    exec (.unblockRoom .service (u16 r.val ++ more)) s = .next
      ((offerBlock r 0xFFFF (s.modRoom r fun rm => { rm with phase := rm.unblocked })).done .service .unblockRoom []) := by
  have ⟨_, _, idle⟩ := h
  rw [exec_unblockRoom, takeCommand_accepted h (u16_not_truncated _ more) rfl (parseRoom_u16 more r)]
  rw [unblockRoom_blocked (by rwa [room_begun]), modRoom_begun,
    offerBlock_begun r 0xFFFF (by rwa [port_modRoom]) (by decide)]

/-- UNBLOCK ROOM of a room that is not BLOCKED is refused. -/
theorem exec_unblockRoom_notBlocked {r : RoomIx} {s : State} (more : List Byte) (h : s.takes .service)
    (b : (s.room r).isBlocked = false) :
    exec (.unblockRoom .service (u16 r.val ++ more)) s = .next (s.refused .service .unblockRoom .state) := by
  rw [exec_unblockRoom, takeCommand_refused h (u16_not_truncated _ more) rfl (parseRoom_u16 more r)]
  exact unblockRoom_notBlocked (by rwa [room_begun])

end Sys2Proof.Machine

namespace Sys2Proof.Settled

open Sys2Proof.Machine

/-- Settles O17: the record's room is the room unblocked, and the room's new phase is what `unblocked_of_phase` says of the room as it
stands. -/
theorem unblockRoom : Obligations.UnblockRoom := by
  intro r more s h
  refine ⟨fun prior why hp => ⟨some r, ?_⟩, exec_unblockRoom_notBlocked more h⟩
  rw [exec_unblockRoom_blocked more h (isBlocked_of_phase hp),
    modRoom_congr s r (g := fun rm => { rm with
      phase := if rm.closing ≠ none then .closing else if prior = .vacant then .vacant else .occupied })
      (by rw [unblocked_of_phase hp])]
  rfl

end Sys2Proof.Settled
end

section
/-! The statements of "Master ports" (chapter 9). -/

namespace Sys2Proof.Machine

/-! ### A frame that a WORKING port discards (R178) -/

theorem listening_of_inRun {s : State} {p : Port} (run : s.inRun = true) (free : (s.port p).resetHeld = false) :
    s.listening p = true := by
  simp [State.listening, run, free]

/-- Every command of the index is taken by its port in the one way that `takeCommand` says: commands differ in parser and owner
alone (R175 to R179). -/
theorem exec_commandEvent (p : Port) (c : Command) :
    ∃ (α : Type) (parse : List Byte → Option α) (owner : α → State → Owned), ∀ (ps : List Byte) (s : State),
      exec (commandEvent p ps c) s = .next (takeCommand c p ps parse owner s) := by
  cases c <;> exact ⟨_, _, _, fun _ _ => rfl⟩

/-- A frame of a command of the index. -/
theorem exec_commandEvent_working {p : Port} {s : State} (h : s.listening p = true)
    (w : (s.port p).phase.isWorking = true) (c : Command) (ps : List Byte) :
    exec (commandEvent p ps c) s = .next (discardFrame p s) := by
  obtain ⟨α, parse, owner, taken⟩ := exec_commandEvent p c
  rw [taken, takeCommand_working h w]

/-- A frame with no code, or with a code outside the index. -/
theorem exec_unknownCommand_working {p : Port} {s : State} (h : s.listening p = true)
    (w : (s.port p).phase.isWorking = true) {code : Option Byte} (unknown : code.bind Command.ofCode = none) :
    exec (.unknownCommand p code) s = .next (discardFrame p s) := by
  change Host.Outcome.next (unknownFrame p code s) = _
  simp [unknownFrame, h, w, unknown]

/-- The event that a discarded frame is. -/
theorem exec_commandFrameDiscarded_working {p : Port} {s : State} (h : s.listening p = true)
    (w : (s.port p).phase.isWorking = true) : exec (.commandFrameDiscarded p) s = .next (discardFrame p s) := by
  change execCommandFrameDiscarded p s = _
  simp [execCommandFrameDiscarded, h, w]

/-! ### What leaves the refusal markers as they stand -/

/-- A change of one port that keeps its marker keeps the marker of each. -/
theorem refusal_modPort {f : PortRec → PortRec} (keeps : ∀ x, (f x).refusal = x.refusal) (s : State) (p q : Port) :
    ((s.modPort p f).port q).refusal = (s.port q).refusal := by
  by_cases e : p = q
  · subst e
    rw [port_modPort_same, keeps]
  · rw [port_modPort_ne s f e]

theorem refusal_answer (p : Port) (code : Option Byte) (r : Reply) (s : State) (q : Port) :
    ((answer p code r s).port q).refusal = (s.port q).refusal := by
  change ((placeResult p code r s).port q).refusal = _
  unfold placeResult
  exact refusal_modPort (by intro x; rfl) s p q

theorem refusal_answerLong (c : Command) (r : Reply) (s : State) (p : Port) :
    ((answerLong c r s).port p).refusal = (s.port p).refusal := by
  unfold answerLong
  split
  · exact refusal_answer _ _ _ s p
  · rfl

theorem refusal_settleFlush (s : State) (p : Port) : ((settleFlush s).port p).refusal = (s.port p).refusal := by
  unfold settleFlush
  split
  · split
    · rfl
    · exact refusal_answerLong _ _ _ p
  · rfl

/-- An offer may end a flush and so answer the Service port, but it touches no marker. -/
theorem refusal_offer (o : Offer) (s : State) (p : Port) : ((offer o s).port p).refusal = (s.port p).refusal := by
  unfold offer
  dsimp only
  split
  · rfl
  · rw [refusal_settleFlush]
    split <;> rfl

/-! ### What clears the refusal marker (R175, R174, R182) -/

theorem exec_statusFrame_listening {p : Port} {s : State} (h : s.listening p = true) (k : Nat) :
    exec (.statusFrame p k) s = .next
      (s.modPort p fun q => { q with refusal := false, restart := .none, dataOut := (s.statusBlock p).take k }) := by
  change Host.Outcome.next (statusFrame p k s) = _
  simp [statusFrame, h]

theorem exec_portReset_inRun {s : State} (run : s.inRun = true) (p : Port) :
    exec (.portReset p) s = .next
      ((s.modPort p PortRec.released).modAttn p fun a => { a with levels := defaultLevels p }) := by
  change Host.Outcome.next (portReset p s) = _
  simp [portReset, run]

theorem exec_mainSupplyReturn_retain {s : State} (retain : s.supply.power = .retain) :
    exec .mainSupplyReturn s = .next (warmRestart s) := by
  change Host.Outcome.next (mainSupplyReturn s) = _
  simp [mainSupplyReturn, retain]

theorem get_map {α : Type} (v : PerPort α) (f : α → α) (p : Port) : (v.map f).get p = f (v.get p) := by
  cases p <;> rfl

theorem refusal_recordReturn (s : State) (p : Port) : ((recordReturn s).port p).refusal = (s.port p).refusal :=
  refusal_offer _ s p

/-- Every port is cleared before the POWER_RETURN record is offered. -/
theorem refusal_warmRestart (s : State) (p : Port) : ((warmRestart s).port p).refusal = false := by
  unfold warmRestart
  rw [refusal_recordReturn]
  change ((s.ports.map PortRec.warm).get p).refusal = false
  rw [get_map, PortRec.warm]

end Sys2Proof.Machine

namespace Sys2Proof.Settled

open Sys2Proof.Machine

/-- Settles O6: a frame of each kind is discarded on a WORKING port, and each of the three events leaves a state whose marker is
clear. -/
theorem discardedFrame : Obligations.DiscardedFrame := by
  intro p s
  refine ⟨fun run free working => ?_, fun run free k => ?_, fun retain => ?_, fun run => ?_⟩
  · have listens := listening_of_inRun run free
    exact ⟨exec_commandEvent_working listens working, fun _ => exec_unknownCommand_working listens working,
      exec_commandFrameDiscarded_working listens working⟩
  · exact ⟨_, exec_statusFrame_listening (listening_of_inRun run free) k, by rw [port_modPort_same]⟩
  · exact ⟨_, exec_mainSupplyReturn_retain retain, refusal_warmRestart s p⟩
  · refine ⟨_, exec_portReset_inRun run p, ?_⟩
    change ((s.modPort p PortRec.released).port p).refusal = false
    rw [port_modPort_same, PortRec.released]

end Sys2Proof.Settled
end

section
/-! The statements of "Invariants": what every step keeps. -/

/- The joined text is checked with bounded memory: proofs are elaborated one after another, not each in a thread of its own. -/
set_option Elab.async false

namespace Sys2Proof.Machine

/-! ### The invariants, block by block -/

/-- The bounds of the Journal: the Staging Queue (R137) and the block program in flight (R142). -/
def Journal.bounded (j : Journal) : Prop := j.staged.length ≤ 64 ∧ j.inFlight ≤ 8

/-- The bounds of the Verdict Engine: the Presentation Queue (R62) and the Watch List (R56). -/
def VerdictEngine.bounded (v : VerdictEngine) : Prop :=
  v.queue.length ≤ 32 ∧ v.watch.length ≤ 8 ∧ (v.watch.map WatchEntry.card).Nodup

/-- The bounds of the Charge Unit: the Minibar Session Table (R122) and the Charge Queue with its reservations (R132). -/
def ChargeUnit.bounded (c : ChargeUnit) : Prop :=
  c.sessions.length ≤ 16 ∧ (c.sessions.map Session.room).Nodup ∧ c.queue.length + c.reservedTotal ≤ 128

/-- The bounds of the whole part are those of its blocks. -/
theorem bounded_iff (s : State) :
    s.bounded ↔ s.keys.scanQueue.length ≤ 8 ∧ s.journal.bounded ∧ s.verdict.bounded ∧ s.charge.bounded := by
  unfold State.bounded Journal.bounded VerdictEngine.bounded ChargeUnit.bounded
  tauto

/-- Going from one state to another keeps each invariant. A part that the change does not touch is filled in. -/
structure Keeps (s t : State) : Prop where
  ports : s.portsKept → t.portsKept := by exact id
  paired : s.pairedWell → t.pairedWell := by exact id
  scans : s.keys.scanQueue.length ≤ 8 → t.keys.scanQueue.length ≤ 8 := by exact id
  journal : s.journal.bounded → t.journal.bounded := by exact id
  verdict : s.verdict.bounded → t.verdict.bounded := by exact id
  charge : s.charge.bounded → t.charge.bounded := by exact id

theorem Keeps.refl (s : State) : Keeps s s := {}

theorem Keeps.trans {s t u : State} (h : Keeps s t) (h' : Keeps t u) : Keeps s u where
  ports := h'.ports ∘ h.ports
  paired := h'.paired ∘ h.paired
  scans := h'.scans ∘ h.scans
  journal := h'.journal ∘ h.journal
  verdict := h'.verdict ∘ h.verdict
  charge := h'.charge ∘ h.charge

theorem keeps_ite {c : Prop} [Decidable c] {s t u : State} (h : Keeps s t) (h' : Keeps s u) :
    Keeps s (if c then t else u) := by
  split
  · exact h
  · exact h'

theorem Keeps.bounded {s t : State} (h : Keeps s t) (b : s.bounded) : t.bounded := by
  obtain ⟨scans, journal, verdict, charge⟩ := (bounded_iff s).mp b
  exact (bounded_iff t).mpr ⟨h.scans scans, h.journal journal, h.verdict verdict, h.charge charge⟩

/-- A run of changes keeps what each of them keeps. -/
theorem keeps_foldl {α : Type} {f : State → α → State} (h : ∀ t x, Keeps t (f t x)) :
    ∀ (xs : List α) (s : State), Keeps s (xs.foldl f s)
  | [], s => Keeps.refl s
  | x :: xs, s => (h s x).trans (keeps_foldl h xs (f s x))

/-! ### Pairing of rooms -/

theorem pairedWell_of_same {s t : State} (h : ∀ r, (t.room r).pairing = (s.room r).pairing) (w : s.pairedWell) :
    t.pairedWell := by
  intro r x e
  rw [h] at e
  rw [h]
  exact w r x e

theorem pairing_modRoom {f : Room → Room} (h : ∀ x, (f x).pairing = x.pairing) (s : State) (r q : RoomIx) :
    ((s.modRoom r f).room q).pairing = (s.room q).pairing := by
  by_cases e : r = q
  · subst e
    rw [room_modRoom_same, h]
  · rw [room_modRoom_ne s f e]

theorem keeps_modRoom (s : State) (r : RoomIx) (f : Room → Room) (h : ∀ x, (f x).pairing = x.pairing := by exact fun _ => rfl) :
    Keeps s (s.modRoom r f) where
  paired := pairedWell_of_same (pairing_modRoom h s r)

/-- Two rooms that were paired with none are paired with one another (R12). -/
theorem pairedWell_pair {s : State} {a b : RoomIx} (n : NodeAddr) (ne : a ≠ b) (ha : (s.room a).pairing = none)
    (hb : (s.room b).pairing = none) (w : s.pairedWell) :
    ((s.modRoom a fun rm => { rm with pairing := some ⟨b, n⟩ }).modRoom b fun rm =>
      { rm with pairing := some ⟨a, n⟩ }).pairedWell := by
  have atA := room_modRoom_ne (s.modRoom a fun rm => { rm with pairing := some ⟨b, n⟩ })
    (fun rm => { rm with pairing := some ⟨a, n⟩ }) ne.symm
  have other (q : RoomIx) (qa : q ≠ a) (qb : q ≠ b) :=
    (room_modRoom_ne (s.modRoom a fun rm => { rm with pairing := some ⟨b, n⟩ })
      (fun rm => { rm with pairing := some ⟨a, n⟩ }) qb.symm).trans (room_modRoom_ne s _ qa.symm)
  intro r x e
  by_cases ra : r = a
  · subst ra
    rw [atA, room_modRoom_same] at e
    cases e
    exact ⟨ne.symm, by rw [room_modRoom_same]⟩
  · by_cases rb : r = b
    · subst rb
      rw [room_modRoom_same] at e
      cases e
      exact ⟨ne, by rw [atA, room_modRoom_same]⟩
    · rw [other r ra rb] at e
      obtain ⟨self, back⟩ := w r x e
      have xa : x.room ≠ a := fun c => by rw [c, ha] at back; cases back
      have xb : x.room ≠ b := fun c => by rw [c, hb] at back; cases back
      exact ⟨self, by rw [other _ xa xb, back]⟩

/-- Two rooms that were paired with one another are paired with none (R13). -/
theorem pairedWell_unpair {s : State} {r : RoomIx} {p : Pairing} (hp : (s.room r).pairing = some p) (w : s.pairedWell) :
    ((s.modRoom r fun rm => { rm with pairing := none }).modRoom p.room fun rm => { rm with pairing := none }).pairedWell := by
  obtain ⟨ne, back⟩ := w r p hp
  have other (q : RoomIx) (qa : q ≠ r) (qb : q ≠ p.room) :=
    (room_modRoom_ne (s.modRoom r fun rm => { rm with pairing := none })
      (fun rm => { rm with pairing := none }) qb.symm).trans (room_modRoom_ne s _ qa.symm)
  intro q x e
  by_cases qp : q = p.room
  · subst qp
    rw [room_modRoom_same] at e
    cases e
  · by_cases qr : q = r
    · subst qr
      rw [room_modRoom_ne _ _ (Ne.symm qp), room_modRoom_same] at e
      cases e
    · rw [other q qr qp] at e
      obtain ⟨self, there⟩ := w q x e
      have xr : x.room ≠ r := fun c => by
        rw [c, hp] at there
        exact qp (by rw [Option.some.inj there])
      have xp : x.room ≠ p.room := fun c => by
        rw [c, back] at there
        exact qr (by injection there with there; injection there with there; exact there.symm)
      exact ⟨self, by rw [other _ xr xp, there]⟩

/-! ### Result records and port states -/

/-- A port record meets the invariant of Table 9-1. -/
def PortRec.kept (q : PortRec) : Prop := (q.phase.isWorking = true → q.result = none) ∧ (q.phase = .done → q.result ≠ none)

theorem keeps_modPort (s : State) (p : Port) {f : PortRec → PortRec} (h : (s.port p).kept → (f (s.port p)).kept) :
    Keeps s (s.modPort p f) where
  ports w q := by
    by_cases e : p = q
    · subst e
      rw [port_modPort_same]
      exact h (w p)
    · rw [port_modPort_ne s f e]
      exact w q

theorem keeps_mapPorts (s : State) {f : PortRec → PortRec} (h : ∀ q, q.kept → (f q).kept) :
    Keeps s { s with ports := s.ports.map f } where
  ports w p := by
    change ((s.ports.map f).get p).kept
    rw [get_map]
    exact h _ (w p)

/-! ### The shared operations -/

theorem keeps_modAttn (s : State) (p : Port) (f : Attn → Attn) : Keeps s (s.modAttn p f) := {}
theorem keeps_modNode (s : State) (n : NodeAddr) (f : Node → Node) : Keeps s (s.modNode n f) := {}
theorem keeps_modLine (s : State) (l : LineIx) (f : Line → Line) : Keeps s (s.modLine l f) := {}
theorem keeps_modFolio (s : State) (k : FolioIx) (f : Folio → Folio) : Keeps s (s.modFolio k f) := {}
theorem keeps_modLamp (s : State) (r : RoomIx) (f : IndEntry → IndEntry) : Keeps s (s.modLamp r f) := {}
theorem keeps_modLamps (s : State) (f : Indicator → Indicator) : Keeps s (s.modLamps f) := {}
theorem keeps_setEntry (s : State) (k : KeyIx) (e : KeyEntry) : Keeps s (s.setEntry k e) := {}
theorem keeps_raise (p : Port) (c : Cause) (s : State) : Keeps s (raise p c s) := {}
theorem keeps_withdraw (p : Port) (c : Cause) (s : State) : Keeps s (withdraw p c s) := {}

theorem keeps_modJournal {s : State} {f : Journal → Journal} (h : s.journal.bounded → (f s.journal).bounded) :
    Keeps s (s.modJournal f) where
  journal := h

theorem keeps_placeResult (p : Port) (c : Option Byte) (r : Reply) (s : State) : Keeps s (placeResult p c r s) := by
  unfold placeResult
  exact keeps_modPort s p fun _ => ⟨nofun, fun _ h => nomatch h⟩

theorem keeps_answer (p : Port) (c : Option Byte) (r : Reply) (s : State) : Keeps s (answer p c r s) :=
  (keeps_placeResult p c r s).trans (keeps_raise _ _ _)

theorem keeps_answerLong (c : Command) (r : Reply) (s : State) : Keeps s (answerLong c r s) := by
  unfold answerLong
  split
  · exact keeps_answer ..
  · exact Keeps.refl s

theorem keeps_discardFrame (p : Port) (s : State) : Keeps s (discardFrame p s) := keeps_modPort s p id

/-- A command frame is opened on a port that is not WORKING; whatever stood there, no result stays. -/
theorem keeps_answer_open (p : Port) (c : Option Byte) (r : Reply) (s : State) : Keeps s (answer p c r (openCommand p s)) := by
  rw [answer_open]
  unfold State.answered
  refine Keeps.trans (keeps_modPort s p ?_) (keeps_modAttn ..)
  exact fun _ => ⟨nofun, fun _ h => nomatch h⟩

theorem keeps_begun (p : Port) (c : Command) (s : State) : Keeps s (s.begun p c) :=
  keeps_modPort s p fun _ => ⟨fun _ => rfl, nofun⟩

/-- A command keeps the invariants where its owner does. -/
theorem keeps_takeCommand {α : Type} {c : Command} {p : Port} {ps : List Byte} {parse : List Byte → Option α}
    {owner : α → State → Owned} (h : ∀ a t, Keeps t (owner a t).1) (s : State) :
    Keeps s (takeCommand c p ps parse owner s) := by
  unfold takeCommand
  split
  · exact Keeps.refl s
  · split
    · exact keeps_discardFrame p s
    · split
      · exact keeps_answer_open ..
      · next a _ =>
        rw [hold_open]
        have owned := (keeps_begun p c s).trans (h a (s.begun p c))
        split
        · next t r e =>
          rw [e] at owned
          exact owned.trans (keeps_answer ..)
        · next t e =>
          rw [e] at owned
          exact owned

/-! ### Offering a journal record (R136 to R139) -/

theorem evictable_lt {j : Journal} {i : Nat} (h : j.evictable = some i) : i < j.staged.length := by
  unfold Journal.evictable at h
  obtain ⟨k, hk, rfl⟩ := Option.map_eq_some_iff.mp h
  have := (List.findIdx?_eq_some_iff_findIdx_eq.mp hk).1
  rw [List.length_drop] at this
  omega

/-- Staging takes a record only where there is room for it, or in the place of another (R137, R138). -/
theorem stage_staged_length (j : Journal) (r : Record) (h : j.staged.length ≤ 64) : (j.stage r).staged.length ≤ 64 := by
  unfold Journal.stage Config.stagingMax
  split
  · simp only [List.length_append, List.length_singleton]
    omega
  · split
    · exact h
    · split
      · next i e =>
        have := evictable_lt e
        simp only [List.length_append, List.length_singleton, List.length_eraseIdx, if_pos this]
        omega
      · exact h

theorem stage_program (j : Journal) (r : Record) : (j.stage r).program = j.program := by
  unfold Journal.stage
  split
  · rfl
  · split
    · rfl
    · split <;> rfl

theorem inFlight_congr {j k : Journal} (h : k.program = j.program) : k.inFlight = j.inFlight := by
  unfold Journal.inFlight
  rw [h]

theorem taken_bounded (j : Journal) (o : Offer) (run : Bool) (elapsed : Nat) (h : j.bounded) :
    (j.taken o run elapsed).bounded := by
  refine ⟨stage_staged_length { j with nextSeq := j.nextSeq + 1 } _ h.1, ?_⟩
  rw [inFlight_congr (j := j)]
  · exact h.2
  · exact stage_program { j with nextSeq := j.nextSeq + 1 } _

theorem keeps_settleFlush (s : State) : Keeps s (settleFlush s) := by
  unfold settleFlush
  split
  · split
    · exact Keeps.refl s
    · exact Keeps.trans (t := { s with journal := { s.journal with flush := none } }) {} (keeps_answerLong ..)
  · exact Keeps.refl s

theorem keeps_offer (o : Offer) (s : State) : Keeps s (offer o s) := by
  have taken : Keeps s { s with journal := s.journal.taken o s.inRun s.supply.elapsed } :=
    { journal := taken_bounded s.journal o _ _ }
  unfold offer
  dsimp only
  split
  · exact taken
  · refine taken.trans (Keeps.trans ?_ (keeps_settleFlush _))
    split
    · exact keeps_raise ..
    · exact Keeps.refl _

/-! ### Lamps and marks -/

theorem keeps_writePrimary (r : RoomIx) (l : LampName) (v : Bool) (s : State) : Keeps s (writePrimary r l v s) := {}

theorem keeps_requestSweep (k : SweepKind) (s : State) : Keeps s (requestSweep k s) := {}

theorem keeps_settleSweep (s : State) : Keeps s (settleSweep s) := by
  unfold settleSweep
  split
  · exact {}
  · exact Keeps.refl s

theorem keeps_setLampMark (n : NodeAddr) (s : State) : Keeps s (setLampMark n s) := {}
theorem keeps_setModeMark (n : NodeAddr) (s : State) : Keeps s (setModeMark n s) := {}

theorem keeps_clearLampMarks (which : NodeAddr → Bool) (s : State) : Keeps s (clearLampMarks which s) := by
  unfold clearLampMarks
  exact Keeps.trans {} (keeps_settleSweep _)

theorem keeps_clearModeMarks (which : NodeAddr → Bool) (s : State) : Keeps s (clearModeMarks which s) := {}

/-! ### Rooms, folios and sessions -/

theorem keeps_bumpGeneration (r : RoomIx) (s : State) : Keeps s (bumpGeneration r s) := keeps_modRoom s r _
theorem keeps_addLive (r : RoomIx) (s : State) : Keeps s (addLive r s) := keeps_modRoom s r _
theorem keeps_dropLive (r : RoomIx) (s : State) : Keeps s (dropLive r s) := keeps_modRoom s r _

theorem keeps_setPrivacy (r : RoomIx) (v : Bool) (s : State) : Keeps s (setPrivacy r v s) := by
  unfold setPrivacy
  split
  · exact Keeps.refl s
  · exact (keeps_modRoom s r _).trans (keeps_writePrimary ..)

theorem keeps_setMakeup (r : RoomIx) (v : Bool) (s : State) : Keeps s (setMakeup r v s) := by
  unfold setMakeup
  split
  · exact Keeps.refl s
  · exact (keeps_modRoom s r _).trans (keeps_writePrimary ..)

theorem keeps_settleFolio (f : FolioIx) (s : State) : Keeps s (settleFolio f s) := by
  unfold settleFolio
  split
  · exact {}
  · exact Keeps.refl s

theorem keeps_removeFromFolio (f : Option FolioIx) (r : RoomIx) (s : State) : Keeps s (removeFromFolio f r s) := by
  unfold removeFromFolio
  split
  · exact (keeps_modFolio ..).trans (keeps_settleFolio ..)
  · exact Keeps.refl s

theorem keeps_vacate (r : RoomIx) (s : State) : Keeps s (vacate r s) := by
  unfold vacate
  dsimp only
  refine Keeps.trans ?_ (keeps_raise ..)
  refine Keeps.trans ?_ (keeps_writePrimary ..)
  refine Keeps.trans ?_ (keeps_writePrimary ..)
  exact Keeps.trans (keeps_modRoom ..) (keeps_removeFromFolio ..)

theorem keeps_settleRoom (r : RoomIx) (s : State) : Keeps s (settleRoom r s) := by
  unfold settleRoom
  split
  · exact keeps_vacate r s
  · exact Keeps.refl s

/-- Fewer sessions reserve no more. -/
theorem reserved_filter_le (p : Session → Bool) (xs : List Session) :
    ((xs.filter p).map Session.reserved).sum ≤ (xs.map Session.reserved).sum :=
  (List.filter_sublist.map _).sum_le_sum fun _ _ => Nat.zero_le _

theorem keeps_filterSessions (p : Session → Bool) (s : State) :
    Keeps s { s with charge := { s.charge with sessions := s.charge.sessions.filter p } } where
  charge := fun ⟨few, once, space⟩ =>
    ⟨(List.length_filter_le ..).trans few, once.sublist (List.filter_sublist.map _),
      (Nat.add_le_add_left (reserved_filter_le p _) _).trans space⟩

theorem keeps_endSession (x : Session) (s : State) : Keeps s (endSession x s) := by
  have roomed := (keeps_filterSessions (fun y => decide (y.room ≠ x.room)) s).trans (keeps_settleRoom x.room _)
  unfold endSession
  dsimp only
  split
  · exact roomed.trans (keeps_settleFolio ..)
  · exact roomed

theorem keeps_abandonSession (s : State) (x : Session) : Keeps s (abandonSession s x) :=
  (keeps_offer _ s).trans (keeps_endSession ..)

theorem keeps_abandonSessions (which : NodeAddr → Bool) (s : State) : Keeps s (abandonSessions which s) :=
  keeps_foldl keeps_abandonSession _ s

theorem map_put_rooms (x : Session) (xs : List Session) :
    (xs.map fun y => if y.room = x.room then x else y).map Session.room = xs.map Session.room := by
  rw [List.map_map]
  refine List.map_congr_left fun y _ => ?_
  dsimp only [Function.comp_apply]
  split
  · next h => exact h.symm
  · rfl

/-- In a table with one session to a room, the new form of a session changes the reservations by its own. -/
theorem putSession_reserved {x old : Session} (room : x.room = old.room) :
    ∀ {xs : List Session}, old ∈ xs → (xs.map Session.room).Nodup →
      ((xs.map fun y => if y.room = x.room then x else y).map Session.reserved).sum + old.reserved =
        (xs.map Session.reserved).sum + x.reserved
  | y :: ys, mem, once => by
    rw [List.map_cons, List.nodup_cons] at once
    simp only [List.map_cons, List.sum_cons]
    rcases List.mem_cons.mp mem with rfl | mem
    · have others : (ys.map fun y => if y.room = x.room then x else y) = ys := by
        refine (List.map_congr_left fun z hz => ?_).trans (List.map_id ys)
        rw [if_neg, id]
        intro e
        exact once.1 (List.mem_map.mpr ⟨z, hz, by rw [e, room]⟩)
      rw [others, if_pos room.symm]
      omega
    · have ih := putSession_reserved room mem once.2
      rw [if_neg]
      · omega
      · intro e
        exact once.1 (List.mem_map.mpr ⟨old, mem, by rw [e, room]⟩)

/-- A session is given a new form that reserves no more. -/
theorem keeps_putSession {x old : Session} (s : State) (mem : old ∈ s.charge.sessions) (room : x.room = old.room)
    (less : x.reserved ≤ old.reserved) : Keeps s (putSession x s) where
  charge := fun ⟨few, once, space⟩ => by
    refine ⟨by simpa [putSession] using few, by rwa [putSession, map_put_rooms], ?_⟩
    have sums := putSession_reserved room mem once
    unfold ChargeUnit.reservedTotal at space ⊢
    dsimp only [putSession]
    omega

/-! ### Doors and modes -/

theorem keeps_setDoor (n : NodeAddr) (d : DoorCond) (latch : Bool) (s : State) : Keeps s (setDoor n d latch s) := by
  have noded := keeps_modNode s n fun nd => { nd with door := d, latch := latch }
  unfold setDoor
  dsimp only
  split
  · exact noded
  · next r _ =>
    have roomed : Keeps s (if (s.node n).door = d then s.modNode n fun nd => { nd with door := d, latch := latch } else
        (s.modNode n fun nd => { nd with door := d, latch := latch }).modRoom r fun rm => { rm with door := d }) := by
      split
      · exact noded
      · exact noded.trans (keeps_modRoom ..)
    split
    · exact roomed
    · exact roomed.trans (keeps_writePrimary ..)

theorem keeps_handDoor (n : NodeAddr) (s : State) : Keeps s (handDoor n s) := by
  unfold handDoor
  split
  · exact keeps_modRoom ..
  · exact Keeps.refl s

theorem pairing_leaveService (which : NodeAddr → Bool) (s : State) (r : RoomIx) :
    ((leaveService which s).room r).pairing = (s.room r).pairing := by
  unfold leaveService State.room
  dsimp only
  rw [tget_tmap (by decide)]
  split
  · split <;> rfl
  · rfl

theorem keeps_leaveService (which : NodeAddr → Bool) (s : State) : Keeps s (leaveService which s) where
  paired := pairedWell_of_same (pairing_leaveService which s)

theorem keeps_changeModes (choose : NodeAddr → Node → Option Mode) (s : State) : Keeps s (changeModes choose s) := {}

/-! ### Keys -/

theorem keeps_pushJob (j : ScanJob) {s : State} (h : s.scanFull = false) : Keeps s (pushJob j s) where
  scans _ := by
    have : s.keys.scanQueue.length < 8 := Nat.not_le.mp (of_decide_eq_false h)
    simp only [pushJob, List.length_append, List.length_singleton]
    omega

/-- What counting keys out of rooms may change. -/
theorem foldl_dropLive_touches (rs : List RoomIx) : ∀ s : State,
    rs.foldl (fun t r => dropLive r t) s = { s with rooms := (rs.foldl (fun t r => dropLive r t) s).rooms } := by
  induction rs with
  | nil => exact fun _ => rfl
  | cons r rs ih => exact fun s => (ih (dropLive r s)).trans rfl

/-- What counting keys into rooms may change. -/
theorem foldl_addLive_touches (rs : List RoomIx) : ∀ s : State,
    rs.foldl (fun t r => addLive r t) s = { s with rooms := (rs.foldl (fun t r => addLive r t) s).rooms } := by
  induction rs with
  | nil => exact fun _ => rfl
  | cons r rs ih => exact fun s => (ih (addLive r s)).trans rfl

/-- What a retirement may change. -/
theorem retire_touches (k : KeyIx) (how : RetiredAs) (reason : RetireReason) (jobRoom : Option RoomIx) (s : State) :
    retire k how reason jobRoom s = { s with
      ports := (retire k how reason jobRoom s).ports, attn := (retire k how reason jobRoom s).attn
      rooms := (retire k how reason jobRoom s).rooms, keys := (retire k how reason jobRoom s).keys
      journal := (retire k how reason jobRoom s).journal } := by
  unfold retire
  split
  · rfl
  · dsimp only
    rw [offer_touches, foldl_dropLive_touches]
    rfl

theorem retire_verdict (k : KeyIx) (how : RetiredAs) (reason : RetireReason) (jobRoom : Option RoomIx) (s : State) :
    (retire k how reason jobRoom s).verdict = s.verdict := by
  rw [retire_touches]

theorem keeps_retire (k : KeyIx) (how : RetiredAs) (reason : RetireReason) (jobRoom : Option RoomIx) (s : State) :
    Keeps s (retire k how reason jobRoom s) := by
  unfold retire
  split
  · exact Keeps.refl s
  · exact (keeps_setEntry s k _).trans <| (keeps_foldl (fun t r => keeps_dropLive r t) _ _).trans <|
      Keeps.trans {} (keeps_offer ..)

theorem keeps_rewriteEntry (k : KeyIx) (e : KeyEntry) (s : State) : Keeps s (rewriteEntry k e s) := by
  unfold rewriteEntry
  dsimp only
  split
  · exact {}
  · exact {}

theorem keeps_rebindEntry (k : KeyIx) (e : KeyEntry) (b : Binding) (target : RoomIx) (s : State) :
    Keeps s (rebindEntry k e b target s) := by
  unfold rebindEntry
  dsimp only
  split
  · exact (keeps_setEntry ..).trans (keeps_addLive ..)
  · exact keeps_setEntry ..

theorem keeps_takeClaim (c : VeClaim) (s : State) : Keeps s (takeClaim c s) := by
  unfold takeClaim
  split
  · split
    · split
      · exact keeps_setEntry ..
      · exact Keeps.refl s
    · exact Keeps.refl s
  · split
    · split
      · exact keeps_rebindEntry ..
      · exact Keeps.refl s
    · exact Keeps.refl s

theorem keeps_serveWaiting (s : State) : Keeps s (serveWaiting s) :=
  Keeps.trans (t := { s with keys := { s.keys with claims := [] } }) {} (keeps_foldl (fun t c => keeps_takeClaim c t) _ _)

theorem keeps_arbitrated {α : Type} {owner : α → State → Owned} (h : ∀ a t, Keeps t (owner a t).1) (a : α) (s : State) :
    Keeps s (arbitrated owner a s).1 :=
  (keeps_serveWaiting s).trans (h a _)

end Sys2Proof.Machine
end

section
/-! The statements of "Invariants": the blocks, one by one, and the step. -/

/- The joined text is checked with bounded memory: proofs are elaborated one after another, not each in a thread of its own. -/
set_option Elab.async false

namespace Sys2Proof.Machine

/-! ### The Room Table (chapter 1) -/

theorem keeps_bindFolio (f : Option FolioIx) (r : RoomIx) (s : State) : Keeps s (bindFolio f r s) := by
  unfold bindFolio
  split
  · exact keeps_modFolio ..
  · exact Keeps.refl s

theorem keeps_swapFolio (f : Option FolioIx) (source target : RoomIx) (s : State) : Keeps s (swapFolio f source target s) := by
  unfold swapFolio
  split
  · exact keeps_modFolio ..
  · exact Keeps.refl s

theorem keeps_checkIn (a : RoomIx × Option FolioIx × BitVec 16) (s : State) : Keeps s (checkIn a s).1 := by
  unfold checkIn
  dsimp only
  split
  · exact Keeps.refl s
  · split
    · exact Keeps.refl s
    · exact (keeps_bumpGeneration ..).trans <| (keeps_modRoom ..).trans <| (keeps_bindFolio ..).trans (keeps_offer ..)

theorem keeps_checkOut (r : RoomIx) (s : State) : Keeps s (checkOut r s).1 := by
  unfold checkOut
  split
  · exact Keeps.refl s
  · split
    · exact Keeps.refl s
    · next free =>
      refine Keeps.trans (Keeps.trans ?_ (keeps_pushJob _ ?_)) (keeps_offer ..)
      · exact (keeps_bumpGeneration ..).trans (keeps_modRoom ..)
      · exact (Bool.not_eq_true _).mp free

theorem keeps_moveStay (a : RoomIx × RoomIx) (s : State) : Keeps s (moveStay a s).1 := by
  unfold moveStay
  dsimp only
  split
  · exact Keeps.refl s
  · split
    · exact Keeps.refl s
    · split
      · exact Keeps.refl s
      · next free =>
        refine Keeps.trans (Keeps.trans (Keeps.trans ?_ (keeps_swapFolio ..)) (keeps_pushJob _ ?_)) (keeps_offer ..)
        · exact (keeps_bumpGeneration ..).trans <| Keeps.trans (keeps_modRoom ..) <|
            (keeps_bumpGeneration ..).trans (keeps_modRoom ..)
        · unfold swapFolio
          split <;> exact (Bool.not_eq_true _).mp free

theorem keeps_offerBlock (r : RoomIx) (detail : BitVec 16) (s : State) : Keeps s (offerBlock r detail s) := keeps_offer _ s

theorem keeps_blockRoom (a : RoomIx × Byte) (s : State) : Keeps s (blockRoom a s).1 := by
  unfold blockRoom
  dsimp only
  split
  · exact Keeps.refl s
  · exact (keeps_modRoom ..).trans (keeps_offerBlock ..)

theorem keeps_unblockRoom (r : RoomIx) (s : State) : Keeps s (unblockRoom r s).1 := by
  unfold unblockRoom
  split
  · exact Keeps.refl s
  · exact (keeps_modRoom ..).trans (keeps_offerBlock ..)

theorem keeps_writeRoom (a : RoomIx × BitVec 16 × Option NodeAddr × Option NodeAddr) (s : State) :
    Keeps s (writeRoom a s).1 := by
  unfold writeRoom
  dsimp only
  split
  · exact Keeps.refl s
  · split
    · exact Keeps.refl s
    · split
      · exact keeps_modRoom ..
      · exact (keeps_modRoom ..).trans <| (keeps_modRoom ..).trans (keeps_modLamp ..)

theorem keeps_pairRooms (x : RoomIx × RoomIx × NodeAddr) (s : State) : Keeps s (pairRooms x s).1 := by
  unfold pairRooms
  dsimp only
  split
  · exact Keeps.refl s
  · next ne =>
    split
    · exact Keeps.refl s
    · split
      · exact Keeps.refl s
      · next free =>
        have free : (s.room x.1).pairing = none ∧ (s.room x.2.1).pairing = none := by
          simp only [State.pairConflict, Bool.or_eq_true, not_or, Bool.not_eq_true, Option.isSome_eq_false_iff,
            Option.isNone_iff_eq_none] at free
          exact ⟨free.1.1.1, free.1.1.2⟩
        exact { paired := pairedWell_pair x.2.2 ne free.1 free.2 }

theorem keeps_unpairRooms (r : RoomIx) (s : State) : Keeps s (unpairRooms r s).1 := by
  unfold unpairRooms
  split
  · exact Keeps.refl s
  · next p hp =>
    split
    · exact Keeps.refl s
    · exact { paired := pairedWell_unpair hp }

theorem keeps_writeMakeup (a : RoomIx × Bool) (s : State) : Keeps s (writeMakeup a s).1 := keeps_setMakeup ..

/-! ### The Key Register (chapter 2) -/

theorem scanFull_of_issued {s : State} {a : GuestIssue} (h : s.issueRefusal a = none) (new : a.new = true) :
    s.scanFull = false := by
  grind [State.issueRefusal]

theorem keeps_cutGuestKey (a : GuestIssue) (k : KeyIx) (principal : RoomIx) {s : State}
    (h : a.new = true → s.scanFull = false) : Keeps s (cutGuestKey a k principal s).1 := by
  have started : Keeps s (if a.new then startNewSet principal s else s) := by
    split
    · next new => exact (keeps_bumpGeneration principal s).trans (keeps_pushJob _ (h new))
    · exact Keeps.refl s
  exact started.trans <| (keeps_rewriteEntry ..).trans <| (keeps_foldl (fun t r => keeps_addLive r t) a.rooms _).trans
    (keeps_offer ..)

theorem keeps_issueGuestKey (a : GuestIssue) (s : State) : Keeps s (issueGuestKey a s).1 := by
  unfold issueGuestKey
  split
  · next h _ _ => exact keeps_cutGuestKey _ _ _ (scanFull_of_issued h)
  · exact Keeps.refl s
  · exact Keeps.refl s

theorem keeps_issueStaffKey (a : StaffIssue) (s : State) : Keeps s (issueStaffKey a s).1 := by
  unfold issueStaffKey
  split
  · exact Keeps.refl s
  · split
    · exact Keeps.refl s
    · split
      · exact Keeps.refl s
      · exact (keeps_rewriteEntry ..).trans (keeps_offer ..)

theorem keeps_revokeKey (p : Port) (card : CardId) (s : State) : Keeps s (revokeKey p card s).1 := by
  unfold revokeKey
  split
  · exact Keeps.refl s
  · split
    · exact Keeps.refl s
    · exact keeps_retire ..

theorem watchOf_none_iff (s : State) (card : CardId) : s.watchOf card = none ↔ card ∉ s.verdict.watch.map WatchEntry.card := by
  simp only [State.watchOf, List.find?_eq_none, List.mem_map, not_exists, not_and, decide_eq_true_eq]

/-- A card that is not listed joins a list that has room (R56). -/
theorem keeps_joinWatch (w : WatchEntry) {s : State} (room : s.verdict.watch.length < 8) (new : s.watchOf w.card = none) :
    Keeps s (joinWatch w s) where
  verdict := fun ⟨queue, _, once⟩ => by
    refine ⟨queue, ?_, ?_⟩
    · simp only [joinWatch, List.length_append, List.length_singleton]
      omega
    · simp only [joinWatch, List.map_append, List.map_singleton]
      exact List.nodup_append.mpr ⟨once, List.nodup_singleton _, fun x hx y hy e => by
        rw [List.mem_singleton.mp hy] at e
        exact (watchOf_none_iff s w.card).mp new (e ▸ hx)⟩

theorem keeps_watchLost {card : CardId} {s : State} (h : s.canWatch card = true) : Keeps s (watchLost card s) := by
  unfold watchLost
  split
  · exact Keeps.refl s
  · next new =>
    have new : s.watchOf card = none := by simpa using new
    exact keeps_joinWatch _ (of_decide_eq_true (by rwa [State.canWatch, new] at h)) new

theorem keeps_reportLost (p : Port) (card : CardId) (s : State) : Keeps s (reportLost p card s).1 := by
  unfold reportLost
  split
  · split
    · next h => exact keeps_watchLost h
    · exact Keeps.refl s
  · next k e _ =>
    split
    · exact Keeps.refl s
    · have revoked : Keeps s (if e.standing.inService then retire k .revoked .lost none s else s) := by
        split
        · exact keeps_retire ..
        · exact Keeps.refl s
      have verdict : (if e.standing.inService then retire k .revoked .lost none s else s).verdict = s.verdict := by
        split
        · exact retire_verdict ..
        · rfl
      dsimp only
      split
      · next h =>
        refine revoked.trans (keeps_watchLost ?_)
        unfold State.canWatch State.watchOf at h ⊢
        rwa [verdict]
      · exact revoked

theorem keeps_suspendKey (card : CardId) (s : State) : Keeps s (suspendKey card s).1 := by
  unfold suspendKey
  split
  · exact Keeps.refl s
  · split
    · exact Keeps.refl s
    · exact (keeps_setEntry ..).trans (keeps_foldl (fun t r => keeps_dropLive r t) _ _)

theorem keeps_resumeKey (card : CardId) (s : State) : Keeps s (resumeKey card s).1 := by
  unfold resumeKey
  split
  · exact Keeps.refl s
  · split
    · exact Keeps.refl s
    · split
      · exact Keeps.refl s
      · exact (keeps_setEntry ..).trans (keeps_foldl (fun t r => keeps_addLive r t) _ _)

theorem keeps_extendKey (a : CardId × HotelTime) (s : State) : Keeps s (extendKey a s).1 := by
  unfold extendKey
  split
  · exact Keeps.refl s
  · split
    · exact Keeps.refl s
    · split
      · exact Keeps.refl s
      · exact keeps_setEntry ..

theorem keeps_revokeRoomKeys (r : RoomIx) (s : State) : Keeps s (revokeRoomKeys r s).1 := by
  unfold revokeRoomKeys
  split
  · exact Keeps.refl s
  · split
    · exact Keeps.refl s
    · next free => exact keeps_pushJob _ (by simpa using free)

theorem keeps_readKey (a : CardId ⊕ KeyIx) (s : State) : Keeps s (readKey a s).1 := by
  unfold readKey
  split
  · exact Keeps.refl s
  · split <;> exact Keeps.refl s

theorem keeps_setBindings (k : KeyIx) (e : KeyEntry) (bs : List Binding) (s : State) : Keeps s (setBindings k e bs s) := {}

theorem keeps_judgeRevokeRoom (r : RoomIx) (reason : RetireReason) (k : KeyIx) (e : KeyEntry) (s : State) :
    Keeps s (judgeRevokeRoom r reason k e s) := by
  unfold judgeRevokeRoom
  dsimp only
  split
  · exact Keeps.refl s
  · have counted := (keeps_setBindings k e (e.bindings.filter fun b => decide (b.room ≠ r)) s).trans <|
      keeps_ite (c := e.standing = .live ∧ (e.bindings.filter fun b => decide (b.room = r)).any s.isCurrent)
        (keeps_dropLive r _) (Keeps.refl _)
    exact keeps_ite (counted.trans (keeps_retire ..)) counted

theorem keeps_judgeReplace (r : RoomIx) (k : KeyIx) (e : KeyEntry) (s : State) : Keeps s (judgeReplace r k e s) := by
  unfold judgeReplace
  dsimp only
  split
  · exact Keeps.refl s
  · split
    · exact keeps_retire ..
    · exact keeps_setBindings ..

theorem keeps_judgeRebind (source target : RoomIx) (g : BitVec 8) (k : KeyIx) (e : KeyEntry) (s : State) :
    Keeps s (judgeRebind source target g k e s) := by
  unfold judgeRebind
  dsimp only
  split
  · exact keeps_rebindEntry ..
  · split
    · exact Keeps.refl s
    · split
      · exact (keeps_setBindings ..).trans (keeps_retire ..)
      · exact keeps_setBindings ..

theorem keeps_judgeExpiry (k : KeyIx) (e : KeyEntry) (s : State) : Keeps s (judgeExpiry k e s) := by
  unfold judgeExpiry
  split
  · exact keeps_retire ..
  · exact Keeps.refl s

theorem keeps_judgeEntry (j : ScanJob) (k : KeyIx) (s : State) : Keeps s (judgeEntry j k s) := by
  unfold judgeEntry judgeInService
  split
  · split
    · cases j with
      | revokeRoom => exact keeps_judgeRevokeRoom ..
      | replace => exact keeps_judgeReplace ..
      | rebind => exact keeps_judgeRebind ..
      | expiry => exact keeps_judgeExpiry ..
    · exact Keeps.refl s
  · exact Keeps.refl s

theorem keeps_scanDoneAt (r : RoomIx) (s : State) : Keeps s (scanDoneAt r s) :=
  (keeps_modRoom s r _).trans (keeps_settleRoom ..)

theorem keeps_finishJob (j : ScanJob) (s : State) : Keeps s (finishJob j s) := by
  have left : Keeps s { s with keys := { s.keys with scanQueue := s.keys.scanQueue.drop 1, walk := none } } :=
    { scans := fun h => by simp only [List.length_drop]; omega }
  unfold finishJob
  dsimp only
  split
  · exact left.trans <| (keeps_raise ..).trans (keeps_scanDoneAt ..)
  · exact left.trans (keeps_raise ..)
  · exact left.trans (keeps_raise ..)
  · exact left.trans <| (keeps_raise ..).trans <| (keeps_modRoom ..).trans (keeps_scanDoneAt ..)
  · exact left

theorem keeps_scanJobStart (s : State) : Keeps s (scanJobStart s) := by
  unfold scanJobStart
  split
  · exact {}
  · exact Keeps.refl s

theorem keeps_scanStep (s : State) : Keeps s (scanStep s) := by
  unfold scanStep
  split
  · next k j _ _ _ _ =>
    have judged := (keeps_serveWaiting s).trans (keeps_judgeEntry j k _)
    dsimp only
    split
    · exact judged.trans {}
    · exact judged.trans (keeps_finishJob ..)
  · exact Keeps.refl s

theorem keeps_requestExpiry (s : State) : Keeps s (requestExpiry s) := by
  unfold requestExpiry
  split
  · exact Keeps.refl s
  · next h =>
    refine keeps_pushJob _ ?_
    rw [not_or] at h
    simpa using h.2

theorem keeps_correctEntry (k : KeyIx) (e : KeyEntry) (s : State) : Keeps s (correctEntry k e s) := by
  unfold correctEntry
  split
  · exact keeps_retire ..
  · split
    · exact keeps_retire ..
    · exact Keeps.refl s

theorem keeps_lookup (card : CardId) (s : State) : Keeps s (lookup card s).1 := by
  unfold lookup
  split
  · exact Keeps.refl s
  · exact keeps_correctEntry ..

theorem keeps_serveClaim (kind : VeClaim → Bool) (s : State) : Keeps s (serveClaim kind s) := by
  unfold serveClaim
  split
  · next c _ _ =>
    exact Keeps.trans (t := { s with keys := { s.keys with claims := s.keys.claims.eraseP kind } }) {} (keeps_takeClaim c _)
  · exact Keeps.refl s

/-! ### Profiles and the Watch List (chapter 3) -/

theorem keeps_writeProfile (a : Fin 16 × Profile) (s : State) : Keeps s (writeProfile a s).1 := by
  unfold writeProfile
  split
  · exact Keeps.refl s
  · exact {}

theorem keeps_watchAdd (a : CardId × WatchAction) (s : State) : Keeps s (watchAdd a s).1 := by
  unfold watchAdd
  split
  · exact Keeps.refl s
  · next new =>
    split
    · exact Keeps.refl s
    · next room => exact keeps_joinWatch _ (Nat.not_le.mp room) (by simpa using new)

theorem keeps_watchRemove (card : CardId) (s : State) : Keeps s (watchRemove card s).1 := by
  unfold watchRemove
  split
  · exact Keeps.refl s
  · exact { verdict := fun ⟨queue, few, once⟩ =>
      ⟨queue, (List.length_filter_le ..).trans few, once.sublist (List.filter_sublist.map _)⟩ }

/-! ### Verdicts (chapter 4) -/

theorem keeps_offerPresentation (n : NodeAddr) (side : Side) (card : CardId) (arrival : Stamp) (s : State) :
    Keeps s (offerPresentation n side card arrival s) := by
  unfold offerPresentation
  split
  · next h =>
    have room : s.verdict.queue.length < 32 := of_decide_eq_true (Bool.and_eq_true_iff.mp h).1
    exact { verdict := fun ⟨_, watch⟩ => ⟨by simp only [List.length_append, List.length_singleton]; omega, watch⟩ }
  · exact (keeps_modLine ..).trans (keeps_offer ..)

theorem keeps_watchHit (x : Gathered) (s : State) : Keeps s (watchHit x s) := by
  unfold watchHit
  split
  · exact Keeps.refl s
  · exact (keeps_offer ..).trans (keeps_raise ..)

theorem keeps_offerVerdict (x : Gathered) (d : Decision) (s : State) : Keeps s (offerVerdict x d s) := by
  unfold offerVerdict
  split
  · exact (keeps_offer ..).trans (keeps_offer ..)
  · exact keeps_offer ..

theorem keeps_sendClaims (x : Gathered) (d : Decision) (s : State) : Keeps s (sendClaims x d s) := by
  unfold sendClaims
  split
  · exact Keeps.refl s
  · exact {}

theorem sendClaims_charge (x : Gathered) (d : Decision) (s : State) : (sendClaims x d s).charge = s.charge := by
  unfold sendClaims
  split <;> rfl

theorem keeps_noteEntry (r : RoomIx) (t : Stamp) (s : State) : Keeps s (noteEntry r t s) := keeps_modRoom ..

theorem keeps_claimRoom (x : Gathered) (d : Decision) (s : State) : Keeps s (claimRoom x d s) := by
  unfold claimRoom
  split
  · exact Keeps.refl s
  · dsimp only
    split
    · exact (keeps_noteEntry ..).trans (keeps_setMakeup ..)
    · exact keeps_noteEntry ..

theorem keeps_setGrant (n : NodeAddr) (holder : Holder) (s : State) : Keeps s (setGrant n holder s) := {}

/-- The Minibar Session Table can take a session: its room has none, 16 do not stand, and the Charge Queue has the space it
reserves (R120 to R122). -/
def ChargeUnit.hasRoomFor (c : ChargeUnit) (x : Session) : Prop :=
  c.sessionOfRoom x.room = none ∧ c.sessions.length < 16 ∧ x.reserved ≤ c.freeSpace

theorem keeps_addSession {x : Session} {s : State} (h : s.charge.hasRoomFor x) : Keeps s (addSession x s) where
  charge := fun ⟨_, once, space⟩ => by
    obtain ⟨new, few, free⟩ := h
    unfold ChargeUnit.freeSpace Config.chargeMax at free
    refine ⟨?_, ?_, ?_⟩
    · simp only [addSession, List.length_append, List.length_singleton]
      omega
    · simp only [addSession, List.map_append, List.map_singleton]
      refine List.nodup_append.mpr ⟨once, List.nodup_singleton _, fun r hr q hq e => ?_⟩
      obtain ⟨y, hy, rfl⟩ := List.mem_map.mp hr
      rw [List.mem_singleton.mp hq] at e
      simp only [ChargeUnit.sessionOfRoom, List.find?_eq_none, decide_eq_true_eq] at new
      exact new y hy e
    · unfold ChargeUnit.reservedTotal at space free ⊢
      simp only [addSession, List.map_append, List.map_singleton, List.sum_append, List.sum_singleton]
      omega

theorem sessionTest_none {c : ChargeUnit} {r : RoomIx} (h : c.sessionTest r = none) :
    c.sessionOfRoom r = none ∧ c.sessions.length < 16 := by
  unfold ChargeUnit.sessionTest Config.sessionMax at h
  split at h
  · cases h
  · split at h
    · cases h
    · next a b => exact ⟨by simpa using a, by omega⟩

/-- The Charge Unit grants only where it has room for the session (R119 to R122). -/
theorem hasRoomFor_newSession {s : State} {n : NodeAddr} {r : RoomIx} {e : KeyEntry} {restock : Bool} (k : KeyIx)
    (h : s.minibarRefusal n r e restock = none) : s.charge.hasRoomFor (s.newSession r n k (!e.isGuest)) := by
  unfold State.minibarRefusal at h
  split at h
  · cases h
  · split at h
    · next guest =>
      rw [Option.or_eq_none_iff, Option.or_eq_none_iff] at h
      obtain ⟨⟨-, test⟩, space⟩ := h
      obtain ⟨new, few⟩ := sessionTest_none test
      refine ⟨new, few, ?_⟩
      simp only [State.newSession, guest]
      simpa using space
    · next staff =>
      split at h
      · obtain ⟨new, few⟩ := sessionTest_none h
        refine ⟨new, few, ?_⟩
        simp [State.newSession, Bool.not_eq_true _ ▸ staff]
      · cases h

/-- A decision makes no session, or one that the Charge Unit has room for. -/
def Decision.sessionFits (d : Decision) (c : ChargeUnit) : Prop := ∀ x, d.session = some x → c.hasRoomFor x

theorem sessionFits_of_none {d : Decision} {c : ChargeUnit} (h : d.session = none) : d.sessionFits c := by
  intro x e
  rw [h] at e
  cases e

theorem session_guestAtDoor (s : State) (e : KeyEntry) (r : RoomIx) : (s.guestAtDoor e r).session = none := by
  unfold State.guestAtDoor
  dsimp only
  split
  · rfl
  · split
    · rfl
    · split
      · rfl
      · split <;> rfl

theorem session_staffAtDoor (s : State) (p : Profile) (r : RoomIx) : (s.staffAtDoor p r).session = none := by
  unfold State.staffAtDoor
  split <;> rfl

theorem session_atCommonDoor (s : State) (e : KeyEntry) : (s.atCommonDoor e).session = none := by
  unfold State.atCommonDoor
  split <;> rfl

theorem session_sidesVerdict (near far : SideTest) (granted : Reason) : (sidesVerdict near far granted).session = none := by
  unfold sidesVerdict
  dsimp only
  split
  · rfl
  · split <;> rfl

theorem session_atConnectDoor (s : State) (n : NodeAddr) (roomA : RoomIx) (side : Side) (e : KeyEntry) (p : Profile) :
    (s.atConnectDoor n roomA side e p).session = none := by
  unfold State.atConnectDoor
  split
  · exact session_sidesVerdict ..
  · split <;> rfl
  · rfl

theorem session_emergencyAtConnectDoor (s : State) (n : NodeAddr) (roomA : RoomIx) (side : Side) :
    (s.emergencyAtConnectDoor n roomA side).session = none := by
  unfold State.emergencyAtConnectDoor
  split
  · exact session_sidesVerdict ..
  · rfl

theorem sessionFits_atMinibar (s : State) (n : NodeAddr) (r : RoomIx) (k : KeyIx) (e : KeyEntry) (p : Profile) :
    (s.atMinibar n r k e p).sessionFits s.charge := by
  unfold State.atMinibar
  split
  · exact sessionFits_of_none rfl
  · next h =>
    intro x hx
    cases hx
    exact hasRoomFor_newSession k h

theorem sessionFits_atNode (s : State) (x : Gathered) (k : KeyIx) (e : KeyEntry) (p : Profile) :
    (s.atNode x k e p).sessionFits s.charge := by
  unfold State.atNode
  dsimp only
  split
  · exact sessionFits_of_none rfl
  · split
    · exact sessionFits_of_none (session_guestAtDoor ..)
    · exact sessionFits_of_none (session_staffAtDoor ..)
  · exact sessionFits_of_none (session_atConnectDoor ..)
  · exact sessionFits_of_none (session_atCommonDoor ..)
  · split <;> exact sessionFits_of_none rfl
  · exact sessionFits_atMinibar _ _ _ _ _ _

theorem session_judgeEmergency (s : State) (x : Gathered) (zones : Set16) : (s.judgeEmergency x zones).session = none := by
  unfold State.judgeEmergency
  split
  · rfl
  · split
    · rfl
    · split
      · exact session_emergencyAtConnectDoor ..
      · rfl

theorem session_modeVerdict {x : Gathered} {d : Decision} (h : x.modeVerdict = some d) : d.session = none := by
  unfold Gathered.modeVerdict at h
  split at h
  · cases h
  · cases h; rfl
  · cases h; rfl
  · split at h
    · cases h
    · cases h; rfl

/-- Only a key at a minibar makes a session, and only where the Charge Unit has room for it (R72). -/
theorem sessionFits_judge (s : State) (x : Gathered) : (s.judge x).sessionFits s.charge := by
  unfold State.judge
  split
  · exact sessionFits_of_none rfl
  · split
    · next h => exact sessionFits_of_none (session_modeVerdict h)
    · split
      · exact sessionFits_of_none rfl
      · unfold State.judgeCard
        split
        · unfold State.judgeKey
          dsimp only
          split
          · exact sessionFits_of_none rfl
          · exact sessionFits_atNode _ _ _ _ _
        · exact sessionFits_of_none (session_judgeEmergency ..)
        · exact sessionFits_of_none rfl

theorem keeps_applyGrant (x : Gathered) {d : Decision} {s : State} (h : d.sessionFits s.charge) :
    Keeps s (applyGrant x d s) := by
  have sessioned : Keeps s (match d.session with | some y => addSession y s | none => s) := by
    split
    · next y hy => exact keeps_addSession (h y hy)
    · exact Keeps.refl s
  exact sessioned.trans <| (keeps_claimRoom x d _).trans (keeps_setGrant ..)

theorem keeps_appendVerdict (l : LineIx) (v : QueuedVerdict) (s : State) : Keeps s (appendVerdict l v s) := {}

theorem keeps_markJudged (i : Nat) (v : Verdict) (s : State) : Keeps s (markJudged i v s) where
  verdict := fun ⟨queue, watch⟩ => ⟨by simpa [markJudged] using queue, watch⟩

theorem keeps_judgePresentation (i : Nat) (p : Presentation) (s : State) : Keeps s (judgePresentation i p s) := by
  have looked : Keeps s (gather p s).2 := keeps_lookup p.card s
  unfold judgePresentation
  generalize gather p s = gathered at looked ⊢
  obtain ⟨x, t⟩ := gathered
  have claimed := looked.trans <| (keeps_watchHit x t).trans (keeps_sendClaims x ((watchHit x t).judge x) _)
  dsimp only
  refine Keeps.trans (Keeps.trans ?_ (keeps_offerVerdict ..)) ((keeps_markJudged ..).trans (keeps_appendVerdict ..))
  split
  · refine claimed.trans (keeps_applyGrant _ ?_)
    rw [sendClaims_charge]
    exact sessionFits_judge _ _
  · exact claimed

theorem keeps_presentationJudgement (s : State) : Keeps s (presentationJudgement s) := by
  unfold presentationJudgement
  split
  · split
    · exact keeps_judgePresentation ..
    · exact Keeps.refl s
  · exact Keeps.refl s

theorem keeps_releasePresentation (l : LineIx) (s : State) : Keeps s (releasePresentation l s) where
  verdict := fun ⟨queue, watch⟩ => ⟨List.eraseP_sublist.length_le.trans queue, watch⟩

end Sys2Proof.Machine
end

section
/-! The statements of "Invariants": nodes, lines, charges, journal, lamps, time and supply. -/

/- The joined text is checked with bounded memory: proofs are elaborated one after another, not each in a thread of its own. -/
set_option Elab.async false

namespace Sys2Proof.Machine

/-! ### The Charge Unit (chapter 6) -/

theorem keeps_openFolio (f : FolioIx) (s : State) : Keeps s (openFolio f s).1 := by
  unfold openFolio
  split
  · exact Keeps.refl s
  · exact keeps_modFolio ..

theorem keeps_closeFolio (f : FolioIx) (s : State) : Keeps s (closeFolio f s).1 := by
  unfold closeFolio
  split
  · exact Keeps.refl s
  · exact (keeps_modFolio ..).trans (keeps_settleFolio ..)

theorem keeps_setAllowance (a : FolioIx × Nat) (s : State) : Keeps s (setAllowance a s).1 := by
  unfold setAllowance
  dsimp only
  split
  · exact Keeps.refl s
  · exact keeps_ite ((keeps_modFolio ..).trans (keeps_raise ..)) (keeps_modFolio ..)

theorem keeps_holdFolio (f : FolioIx) (s : State) : Keeps s (holdFolio f s).1 := by
  unfold holdFolio
  split
  · exact Keeps.refl s
  · exact keeps_modFolio ..

theorem keeps_releaseFolio (f : FolioIx) (s : State) : Keeps s (releaseFolio f s).1 := by
  unfold releaseFolio
  split
  · exact Keeps.refl s
  · exact keeps_modFolio ..

theorem mem_of_sessionAt {c : ChargeUnit} {n : NodeAddr} {x : Session} (h : c.sessionAt n = some x) : x ∈ c.sessions :=
  List.mem_of_find?_eq_some h

theorem keeps_openSession {x : Session} (arrival : Stamp) {s : State} (mem : x ∈ s.charge.sessions) :
    Keeps s (openSession x arrival s) := by
  unfold openSession
  split
  · exact Keeps.refl s
  · exact (keeps_putSession (x := x.openedAt arrival s.supply.elapsed) s mem rfl le_rfl).trans (keeps_offer ..)

theorem keeps_minibarOpened (n : NodeAddr) (arrival : Stamp) (s : State) : Keeps s (minibarOpened n arrival s) := by
  unfold minibarOpened
  split
  · next h => exact keeps_openSession arrival (mem_of_sessionAt h)
  · exact Keeps.refl s

theorem keeps_minibarClosed (n : NodeAddr) (arrival : Stamp) (s : State) : Keeps s (minibarClosed n arrival s) := by
  unfold minibarClosed
  split
  · exact (keeps_offer ..).trans (keeps_endSession ..)
  · exact Keeps.refl s

theorem keeps_minibarUnused (n : NodeAddr) (s : State) : Keeps s (minibarUnused n s) := by
  unfold minibarUnused
  split
  · exact keeps_ite (keeps_endSession ..) (Keeps.refl s)
  · exact Keeps.refl s

theorem keeps_expireOpenLimit (n : NodeAddr) (s : State) : Keeps s (expireOpenLimit n s) := by
  unfold expireOpenLimit
  split
  · next x h =>
    have stopped := keeps_putSession (x := { x with limitAt := none, limitNoticed := true }) s (mem_of_sessionAt h) rfl le_rfl
    exact keeps_ite (stopped.trans (keeps_offer ..)) stopped
  · exact Keeps.refl s

theorem mem_putSession {x old : Session} {s : State} (mem : old ∈ s.charge.sessions) (room : x.room = old.room) :
    x ∈ (putSession x s).charge.sessions :=
  List.mem_map.mpr ⟨old, mem, if_pos room.symm⟩

/-- A line takes the place of a reservation of its session, or free charge space (R128, R132). -/
theorem keeps_lined {x : Session} (f : FolioIx) (slot : TraySlot) (kind : TrayKind) (price : Nat) (arrival : Stamp)
    {s : State} (mem : x ∈ s.charge.sessions) (space : 0 < x.reserved ∨ 0 < s.charge.freeSpace) :
    Keeps s (putSession x.counted (appendLine f x slot kind price arrival s)) where
  charge := fun ⟨few, once, bound⟩ => by
    refine ⟨by simpa [putSession, appendLine] using few, by rwa [putSession, map_put_rooms], ?_⟩
    have sums := putSession_reserved (x := x.counted) (old := x) rfl mem once
    unfold ChargeUnit.freeSpace Config.chargeMax at space
    unfold ChargeUnit.reservedTotal at bound space ⊢
    simp only [putSession, appendLine, Session.counted, List.length_append, List.length_singleton] at sums ⊢
    omega

theorem keeps_makeLine {x : Session} (f : FolioIx) (slot : TraySlot) (kind : TrayKind) (arrival : Stamp) {s : State}
    (mem : x ∈ s.charge.sessions) (space : 0 < x.reserved ∨ 0 < s.charge.freeSpace) :
    Keeps s (makeLine f x slot kind arrival s) := by
  have lined := (keeps_lined f slot kind (s.priceAt x.node slot) arrival mem space).trans
    (keeps_modFolio _ f fun y => y.charged (s.priceAt x.node slot) kind)
  have waited := lined.trans (keeps_ite (c := s.charge.queue = []) (keeps_raise .charge .chargeWaiting _) (Keeps.refl _))
  exact keeps_ite waited (waited.trans (keeps_raise ..))

theorem keeps_unbilled (f : FolioIx) (x : Session) (slot : TraySlot) (kind : TrayKind) (arrival : Stamp) (s : State) :
    Keeps s (unbilled f x slot kind arrival s) :=
  (keeps_offer ..).trans <| (keeps_modFolio ..).trans (keeps_raise ..)

theorem keeps_sessionTray {x : Session} (slot : TraySlot) (kind : TrayKind) (arrival : Stamp) {s : State}
    (mem : x ∈ s.charge.sessions) : Keeps s (sessionTray x slot kind arrival s) := by
  unfold sessionTray
  split
  · split
    · next space => exact keeps_makeLine _ slot kind arrival mem space
    · exact keeps_unbilled ..
  · exact (keeps_putSession (x := x.counted) s mem rfl (Nat.sub_le ..)).trans (keeps_offer ..)

/-- The session that a tray event opens stands in its new form (R124). -/
theorem mem_openSession {x : Session} (arrival : Stamp) {s : State} (mem : x ∈ s.charge.sessions) :
    (if x.state = .opened then x else x.openedAt arrival s.supply.elapsed) ∈ (openSession x arrival s).charge.sessions := by
  unfold openSession
  split
  · exact mem
  · rw [offer_charge]
    exact mem_putSession mem rfl

theorem keeps_minibarTray (n : NodeAddr) (slot : TraySlot) (kind : TrayKind) (arrival : Stamp) (s : State) :
    Keeps s (minibarTray n slot kind arrival s) := by
  unfold minibarTray
  split
  · next h =>
    have mem := mem_of_sessionAt h
    exact (keeps_openSession arrival mem).trans (keeps_sessionTray slot kind arrival (mem_openSession arrival mem))
  · exact keeps_offer ..

theorem keeps_writePrices (a : Fin 4 × Fin 32 × List Nat) (s : State) : Keeps s (writePrices a s).1 := by
  unfold writePrices
  dsimp only
  split
  · exact Keeps.refl s
  · exact {}

theorem keeps_lineTaken (s : State) (c : ChargeLine) : Keeps s (lineTaken s c) :=
  (keeps_modFolio ..).trans (keeps_settleFolio ..)

theorem keeps_takeCharges (count : Nat) (s : State) : Keeps s (takeCharges count s).1 := by
  have rest : Keeps s { s with charge := { s.charge with queue := s.charge.queue.drop count } } :=
    { charge := fun ⟨few, once, space⟩ => by
        refine ⟨few, once, ?_⟩
        unfold ChargeUnit.reservedTotal at space ⊢
        dsimp only
        rw [List.length_drop]
        omega }
  have taken := rest.trans (keeps_foldl keeps_lineTaken (s.charge.queue.take count) _)
  exact keeps_ite (taken.trans (keeps_withdraw ..)) taken

/-! ### Doors, nodes and lines (chapters 4 and 5) -/

theorem keeps_openDoor (n : NodeAddr) (s : State) : Keeps s (openDoor n s) :=
  (keeps_setDoor ..).trans (keeps_modNode ..)

theorem keeps_forceDoor (n : NodeAddr) (arrival : Stamp) (s : State) : Keeps s (forceDoor n arrival s) := by
  unfold forceDoor
  exact (keeps_setDoor ..).trans <| (keeps_modNode ..).trans <| (keeps_offer ..).trans (keeps_raise ..)

theorem keeps_handToCharge (n : NodeAddr) {f : State → State} {s : State} (h : Keeps s (f s)) :
    Keeps s (handToCharge n f s) := keeps_ite h (Keeps.refl s)

theorem keeps_takeOpened (n : NodeAddr) (arrival : Stamp) (s : State) : Keeps s (takeOpened n arrival s) :=
  (keeps_ite (keeps_openDoor n s) (keeps_forceDoor n arrival s)).trans <| (keeps_handDoor n _).trans <|
    keeps_handToCharge n (keeps_minibarOpened n arrival _)

theorem keeps_takeClosed (n : NodeAddr) (arrival : Stamp) (s : State) : Keeps s (takeClosed n arrival s) :=
  (keeps_setDoor ..).trans <| (keeps_modNode ..).trans <| (keeps_handDoor n _).trans <|
    keeps_handToCharge n (keeps_minibarClosed n arrival _)

theorem keeps_takeBolt (n : NodeAddr) (on : Bool) (arrival : Stamp) (s : State) : Keeps s (takeBolt n on arrival s) := by
  unfold takeBolt
  split
  · exact Keeps.refl s
  · exact (keeps_setPrivacy ..).trans (keeps_offer ..)

theorem keeps_takeButton (n : NodeAddr) (which : Button) (s : State) : Keeps s (takeButton n which s) := by
  unfold takeButton
  split
  · exact Keeps.refl s
  · exact keeps_setMakeup ..
  · exact keeps_setMakeup ..
  · exact keeps_writePrimary ..

theorem keeps_expireHeldOpen (n : NodeAddr) (s : State) : Keeps s (expireHeldOpen n s) := by
  unfold expireHeldOpen
  dsimp only
  split
  · exact Keeps.refl s
  · refine keeps_ite ?_ (keeps_modNode ..)
    exact (keeps_modNode ..).trans <| (keeps_setDoor ..).trans <| (keeps_handDoor ..).trans <|
      (keeps_offer ..).trans (keeps_raise ..)

theorem keeps_expireGrant (n : NodeAddr) (s : State) : Keeps s (expireGrant n s) :=
  (keeps_modNode ..).trans (keeps_handToCharge n (keeps_minibarUnused n _))

theorem keeps_clearAlarm (n : NodeAddr) (s : State) : Keeps s (clearAlarm n s).1 := by
  unfold clearAlarm
  dsimp only
  split
  · exact Keeps.refl s
  · split
    · exact Keeps.refl s
    · exact (keeps_setDoor ..).trans (keeps_offer ..)

theorem keeps_setNodeMode (a : NodeAddr × KeptMode) (s : State) : Keeps s (setNodeMode a s).1 := by
  unfold setNodeMode
  dsimp only
  split
  · exact Keeps.refl s
  · split
    · exact keeps_modNode ..
    · exact (keeps_modNode ..).trans (keeps_setModeMark ..)

theorem keeps_releaseZones (zones : Set16) (s : State) : Keeps s (releaseZones zones s).1 :=
  (keeps_changeModes ..).trans (keeps_offer ..)

theorem keeps_restoreZones (zones : Set16) (s : State) : Keeps s (restoreZones zones s).1 :=
  (keeps_changeModes ..).trans (keeps_offer ..)

theorem keeps_noteRemoteEntry (n : NodeAddr) (s : State) : Keeps s (noteRemoteEntry n s) := by
  unfold noteRemoteEntry
  split
  · exact keeps_noteEntry ..
  · exact Keeps.refl s

theorem keeps_unlatchNode (n : NodeAddr) (s : State) : Keeps s (unlatchNode n s).1 := by
  unfold unlatchNode
  split
  · exact Keeps.refl s
  · split
    · exact Keeps.refl s
    · split
      · exact Keeps.refl s
      · exact (keeps_appendVerdict ..).trans <| (keeps_setGrant ..).trans <| (keeps_noteRemoteEntry ..).trans (keeps_offer ..)

theorem keeps_compareWindows (s : State) : Keeps s (compareWindows s) := by
  unfold compareWindows
  split
  · exact {}
  · exact Keeps.refl s

theorem keeps_resetNodeFields (n : NodeAddr) (s : State) : Keeps s (resetNodeFields n s) :=
  (keeps_setDoor ..).trans <| (keeps_modNode ..).trans (keeps_handDoor ..)

theorem keeps_dropMarks (n : NodeAddr) (s : State) : Keeps s (dropMarks n s) :=
  (keeps_modNode ..).trans <| (keeps_modLine ..).trans (keeps_clearLampMarks ..)

theorem keeps_applyKindChange (n : NodeAddr) (old new : NodeConfig) (s : State) : Keeps s (applyKindChange n old new s) := by
  have fields := keeps_resetNodeFields n s
  unfold applyKindChange
  split
  · exact Keeps.refl s
  · split
    · exact fields.trans (keeps_modNode ..)
    · split
      · exact fields.trans (keeps_setModeMark ..)
      · exact fields.trans <| (keeps_modNode ..).trans (keeps_dropMarks ..)

theorem keeps_writeNode (a : NodeWrite) (s : State) : Keeps s (writeNode a s).1 := by
  unfold writeNode
  split
  · exact Keeps.refl s
  · exact (keeps_modNode ..).trans (keeps_applyKindChange ..)

theorem keeps_beginExchange (l : LineIx) (addr : Fin 64) (frame : OutFrame) (s : State) :
    Keeps s (beginExchange l addr frame s) := {}

theorem keeps_rotationTurn (l : LineIx) (s : State) : Keeps s (rotationTurn l s) := by
  unfold rotationTurn
  split
  · exact {}
  · exact Keeps.refl s

theorem keeps_verdictFrame (l : LineIx) (s : State) : Keeps s (verdictFrame l s) := by
  unfold verdictFrame
  split
  · exact keeps_beginExchange ..
  · exact Keeps.refl s

theorem keeps_busyReply (l : LineIx) (s : State) : Keeps s (busyReply l s) := by
  unfold busyReply
  split
  · exact keeps_beginExchange ..
  · exact Keeps.refl s

theorem keeps_modeFrame (l : LineIx) (s : State) : Keeps s (modeFrame l s) := by
  unfold modeFrame
  split
  · exact keeps_beginExchange ..
  · exact Keeps.refl s

theorem keeps_endExchange (l : LineIx) (s : State) : Keeps s (endExchange l s) := {}
theorem keeps_dropBusy (l : LineIx) (s : State) : Keeps s (dropBusy l s) := {}

theorem keeps_lampsServed (n : NodeAddr) (sent : LampSet) (again : Bool) (s : State) :
    Keeps s (lampsServed n sent again s) := by
  have noted : Keeps s (match s.doorRoom n with
      | some r => s.modLamp r fun e => { e with lastSent := some sent }
      | none => s) := by
    split
    · exact keeps_modLamp ..
    · exact Keeps.refl s
  have marked := noted.trans (keeps_modNode _ n fun nd => { nd with lampPending := again })
  exact Keeps.trans (keeps_ite marked (marked.trans {})) (keeps_settleSweep _)

theorem keeps_popVerdict (l : LineIx) (s : State) : Keeps s (popVerdict l s) := by
  unfold popVerdict
  split
  · exact Keeps.refl s
  · exact keeps_ite (keeps_modLine ..) ((keeps_modLine ..).trans (keeps_releasePresentation ..))

theorem keeps_verdictMissed (l : LineIx) (s : State) : Keeps s (verdictMissed l s) := by
  unfold verdictMissed
  split
  · exact Keeps.refl s
  · dsimp only
    split
    · exact keeps_popVerdict ..
    · exact (keeps_popVerdict ..).trans (keeps_offer ..)

theorem keeps_acknowledge (n : NodeAddr) (x : Exchange) (s : State) : Keeps s (acknowledge n x s) := by
  unfold acknowledge
  split
  · exact Keeps.refl s
  · exact keeps_lampsServed ..
  · exact keeps_modNode ..
  · exact keeps_popVerdict ..
  · exact keeps_dropBusy ..

theorem keeps_linkAnswered (n : NodeAddr) (s : State) : Keeps s (linkAnswered n s) := by
  have marked := (keeps_modNode s n fun nd => { nd with missed := 0, link := .online }).trans <|
    (keeps_setModeMark n _).trans (keeps_setLampMark n _)
  unfold linkAnswered
  dsimp only
  split
  · exact keeps_modNode ..
  · exact marked
  · exact marked.trans (keeps_offer ..)

theorem keeps_handEvent (n : NodeAddr) (a : Answer) (arrival : Stamp) (s : State) : Keeps s (handEvent n a arrival s) := by
  unfold handEvent
  split
  · exact Keeps.refl s
  · exact Keeps.refl s
  · exact keeps_offerPresentation ..
  · exact keeps_takeOpened ..
  · exact keeps_takeClosed ..
  · exact keeps_takeBolt ..
  · exact keeps_takeButton ..
  · exact keeps_ite (keeps_minibarTray ..) (Keeps.refl s)

theorem keeps_exchangeAnswered (l : LineIx) (a : Answer) (s : State) : Keeps s (exchangeAnswered l a s) := by
  unfold exchangeAnswered
  split
  · exact Keeps.refl s
  · next x _ =>
    have heard := (keeps_endExchange l s).trans <| (keeps_acknowledge ⟨l, x.addr⟩ x _).trans (keeps_modLine _ l Line.heard)
    exact keeps_ite (heard.trans <| (keeps_linkAnswered ..).trans (keeps_handEvent ..)) heard

theorem keeps_frameMissed (n : NodeAddr) (x : Exchange) (s : State) : Keeps s (frameMissed n x s) := by
  unfold frameMissed
  split
  · exact keeps_verdictMissed ..
  · exact keeps_dropBusy ..
  · exact Keeps.refl s

theorem keeps_goOffline (n : NodeAddr) (s : State) : Keeps s (goOffline n s) :=
  (keeps_modNode ..).trans <| (keeps_offer ..).trans <| (keeps_raise ..).trans <| (keeps_leaveService ..).trans <|
    (keeps_abandonSessions ..).trans (keeps_clearLampMarks ..)

theorem keeps_linkMissed (n : NodeAddr) (s : State) : Keeps s (linkMissed n s) := by
  unfold linkMissed
  dsimp only
  split
  · exact Keeps.refl s
  · exact keeps_ite ((keeps_modNode ..).trans (keeps_goOffline ..)) (keeps_modNode ..)

theorem keeps_faultTest (l : LineIx) (s : State) : Keeps s (faultTest l s) :=
  keeps_ite ((keeps_modLine ..).trans <| (keeps_offer ..).trans (keeps_raise ..)) (Keeps.refl s)

theorem keeps_exchangeMissed (l : LineIx) (bad : Bool) (s : State) : Keeps s (exchangeMissed l bad s) := by
  unfold exchangeMissed
  split
  · exact Keeps.refl s
  · next x _ =>
    have linked := (keeps_endExchange l s).trans <|
      (keeps_modLine _ l fun ln => ln.missed bad (x.frame.isTurn && (s.node ⟨l, x.addr⟩).config.configured)).trans <|
      (keeps_frameMissed ⟨l, x.addr⟩ x _).trans (keeps_linkMissed ⟨l, x.addr⟩ _)
    exact keeps_ite (linked.trans (keeps_faultTest ..)) linked

theorem keeps_frameReceived (l : LineIx) (frame : List Byte) (s : State) : Keeps s (frameReceived l frame s) := by
  unfold frameReceived
  split
  · exact Keeps.refl s
  · split
    · exact keeps_exchangeAnswered ..
    · exact keeps_exchangeMissed ..

theorem keeps_cutExchange (l : LineIx) (s : State) : Keeps s (cutExchange l s) := by
  unfold cutExchange
  split
  · exact (keeps_endExchange ..).trans (keeps_verdictMissed ..)
  · exact keeps_endExchange ..

/-- A part of the Presentation Queue is no longer than the whole. -/
theorem keeps_filterQueue (p : Presentation → Bool) (s : State) :
    Keeps s { s with verdict := { s.verdict with queue := s.verdict.queue.filter p } } where
  verdict := fun ⟨queue, watch⟩ => ⟨(List.length_filter_le ..).trans queue, watch⟩

theorem keeps_stopLineNow (l : LineIx) (s : State) : Keeps s (stopLineNow l s) :=
  (keeps_cutExchange l s).trans <| (keeps_foldl (fun _ _ => keeps_offer ..) _ _).trans <|
    (keeps_filterQueue (fun x => decide (x.node.line ≠ l)) _).trans <| (keeps_clearModeMarks (onLine l) _).trans <|
    (keeps_clearLampMarks (onLine l) _).trans (keeps_modLine ..)

theorem keeps_stopLine (l : LineIx) (s : State) : Keeps s (stopLine l s).1 := by
  unfold stopLine
  split
  · exact Keeps.refl s
  · exact keeps_stopLineNow ..

theorem keeps_startLine (l : LineIx) (s : State) : Keeps s (startLine l s).1 := by
  unfold startLine
  split
  · exact Keeps.refl s
  · exact keeps_modLine ..

theorem keeps_unpollNodes (which : NodeAddr → Bool) (s : State) : Keeps s (unpollNodes which s) := {}

theorem keeps_restartLine (l : LineIx) (s : State) : Keeps s (restartLine l s).1 :=
  (keeps_ite ((keeps_clearModeMarks (onLine l) s).trans (keeps_clearLampMarks (onLine l) _)) (keeps_stopLineNow l s)).trans <|
    (keeps_unpollNodes (onLine l) _).trans <| (keeps_leaveService (onLine l) _).trans <|
    (keeps_abandonSessions (onLine l) _).trans (keeps_modLine ..)

end Sys2Proof.Machine
end

section
/-! The statements of "Invariants": journal, lamps, ports, time and supply, and the step that keeps each invariant. -/

/- The joined text is checked with bounded memory: proofs are elaborated one after another, not each in a thread of its own. -/
set_option Elab.async false

namespace Sys2Proof.Machine

/-! ### The Journal (chapter 7) -/

/-- The Staging Queue is no longer, and no more records are in flight. -/
theorem Journal.bounded_of_le {j k : Journal} (staged : k.staged.length ≤ j.staged.length) (flight : k.inFlight ≤ j.inFlight)
    (h : j.bounded) : k.bounded := ⟨staged.trans h.1, flight.trans h.2⟩

theorem keeps_setCursor (c : Seq) (s : State) : Keeps s (setCursor c s).1 := {}
theorem keeps_readRecords (count : Nat) (s : State) : Keeps s (readRecords count s).1 := {}
theorem keeps_journalStatus (u : Unit) (s : State) : Keeps s (journalStatus u s).1 := {}
theorem keeps_writeGuards (v : Bool) (segments : Set16) (s : State) : Keeps s (writeGuards v segments s) := {}

theorem keeps_markCollected (m : Seq) (s : State) : Keeps s (markCollected m s).1 := by
  unfold markCollected
  split
  · exact Keeps.refl s
  · exact {}

theorem keeps_queueMark (c : MarkClaim) (s : State) : Keeps s (queueMark c s) := {}

theorem keeps_holdSegment (k : SegIx) (s : State) : Keeps s (holdSegment k s).1 := by
  unfold holdSegment
  dsimp only
  split
  · exact Keeps.refl s
  · split
    · exact Keeps.refl s
    · exact {}

theorem keeps_clearHold (k : SegIx) (s : State) : Keeps s (clearHold k s).1 := by
  unfold clearHold
  split
  · exact Keeps.refl s
  · exact keeps_queueMark ..

theorem keeps_flushJournal (u : Unit) (s : State) : Keeps s (flushJournal u s).1 := by
  unfold flushJournal
  split
  · exact Keeps.refl s
  · split
    · exact Keeps.refl s
    · exact {}

theorem keeps_blockProgramStart (s : State) : Keeps s (blockProgramStart s) := by
  unfold blockProgramStart
  dsimp only
  split
  · split
    · exact keeps_ite (keeps_modJournal fun ⟨staged, _⟩ => ⟨staged, Nat.min_le_left ..⟩) (Keeps.refl s)
    · exact Keeps.refl s
  · exact Keeps.refl s

/-- A mark program takes no record of the Staging Queue. -/
theorem keeps_markProgramStart (s : State) : Keeps s (markProgramStart s) := by
  unfold markProgramStart
  split
  · exact Keeps.refl s
  · next c rest _ =>
    refine keeps_ite (keeps_modJournal fun ⟨staged, _⟩ => ⟨staged, ?_⟩) (Keeps.refl s)
    cases c <;> exact Nat.zero_le 8

theorem keeps_beginErase (k : SegIx) (s : State) : Keeps s (beginErase k s) := by
  have erased (j : Journal) (last : Option Seq) (h : j.bounded) : (j.cursorErased last).bounded := by
    unfold Journal.cursorErased
    split
    · exact h
    · exact h
  unfold beginErase
  dsimp only
  split
  · refine keeps_modJournal fun h => erased _ _ ?_
    exact h
  · refine Keeps.trans ?_ (keeps_raise ..)
    refine keeps_modJournal fun h => erased _ _ ?_
    exact h

theorem keeps_eraseStart (s : State) : Keeps s (eraseStart s) := by
  unfold eraseStart
  split
  · exact Keeps.refl s
  · split
    · exact keeps_ite {} (Keeps.refl s)
    · split
      · exact keeps_beginErase ..
      · exact Keeps.refl s

theorem keeps_eraseSuspend (s : State) : Keeps s (eraseSuspend s) := by
  unfold eraseSuspend
  split
  · exact keeps_ite {} (Keeps.refl s)
  · exact Keeps.refl s

/-- No record is in flight once a program has ended. -/
theorem programEnded_bounded {j : Journal} (h : j.staged.length ≤ 64) : j.programEnded.bounded := ⟨h, Nat.zero_le 8⟩

theorem keeps_jamFlush (s : State) : Keeps s (jamFlush s) := by
  unfold jamFlush
  split
  · exact Keeps.trans (keeps_modJournal id) (keeps_answerLong ..)
  · exact Keeps.refl s

theorem keeps_becomeJammed (s : State) : Keeps s (becomeJammed s) := (keeps_jamFlush s).trans (keeps_raise ..)

/-- The head's advance changes segments alone. -/
theorem advanced_touches (j : Journal) (k : SegIx) : j.advanced k = { j with segments := (j.advanced k).segments } := by
  unfold Journal.advanced
  dsimp only
  split <;> rfl

theorem keeps_advanceHead (k : SegIx) (s : State) : Keeps s (advanceHead k s) := by
  have advanced : Keeps s (s.modJournal fun j => j.advanced k) := keeps_modJournal fun h => by
    rw [advanced_touches]
    exact h
  exact keeps_ite (advanced.trans (keeps_becomeJammed _)) advanced

theorem keeps_completeBlock (k : SegIx) (blk n : Nat) (s : State) : Keeps s (completeBlock k blk n s) := by
  unfold completeBlock
  have programmed : Keeps s (settleFlush (s.modJournal fun j =>
      { (j.modSegment k fun g => g.programmed blk (s.journal.staged.take n)).programEnded with
        staged := j.staged.drop n, marks := j.marks ++ firstClaim k blk (s.journal.staged.take n) })) := by
      refine Keeps.trans ?_ (keeps_settleFlush _)
      exact keeps_modJournal fun ⟨staged, _⟩ => ⟨by simp only [List.length_drop]; omega, Nat.zero_le 8⟩
  exact keeps_ite (programmed.trans (keeps_advanceHead k _)) programmed

theorem keeps_completeFirst (k : SegIx) (seq : Seq) (s : State) : Keeps s (completeFirst k seq s) :=
  keeps_modJournal fun h => programEnded_bounded h.1

theorem keeps_completeHold (k : SegIx) (s : State) : Keeps s (completeHold k s) := by
  refine Keeps.trans ?_ (keeps_answerLong ..)
  exact keeps_modJournal fun h => programEnded_bounded h.1

theorem keeps_completeRelease (k : SegIx) (s : State) : Keeps s (completeRelease k s) := by
  refine Keeps.trans ?_ (keeps_answerLong ..)
  exact keeps_modJournal fun h => programEnded_bounded h.1

theorem keeps_blockProgramComplete (s : State) : Keeps s (blockProgramComplete s) := by
  unfold blockProgramComplete
  split
  · exact keeps_completeBlock ..
  · exact Keeps.refl s

theorem keeps_segmentEraseComplete (s : State) : Keeps s (segmentEraseComplete s) := by
  unfold segmentEraseComplete
  split
  · exact keeps_ite (Keeps.refl s) {}
  · exact Keeps.refl s

theorem keeps_expireFlush (s : State) : Keeps s (expireFlush s) := {}

theorem keeps_completeProgram (s : State) : Keeps s (completeProgram s) := by
  unfold completeProgram
  split
  · exact keeps_completeBlock ..
  · exact keeps_completeFirst ..
  · exact keeps_completeHold ..
  · exact keeps_completeRelease ..
  · exact Keeps.refl s

theorem keeps_journalRetain (s : State) : Keeps s (journalRetain s) := (keeps_completeProgram s).trans {}
theorem keeps_journalRestart (s : State) : Keeps s (journalRestart s) := {}

/-- A rebuilt journal has nothing staged and nothing in flight (R160). -/
theorem rebuilt_bounded (j : Journal) (elapsed : Nat) : (j.rebuilt elapsed).bounded := by
  have found (k : Journal) (r : Option Record) (h : k.bounded) : (k.headFound r).bounded := by
    unfold Journal.headFound
    split
    · dsimp only
      split
      · exact h
      · rw [advanced_touches]
        exact h
    · split
      · exact h
      · exact h
  exact found _ _ ⟨Nat.zero_le 64, Nat.zero_le 8⟩

/-! ### The Indicator Unit (chapter 8) -/

theorem keeps_writeLamps (a : LampWrite) (s : State) : Keeps s (writeLamps a s).1 := {}
theorem keeps_setDark (v : Bool) (s : State) : Keeps s (setDark v s).1 := {}
theorem keeps_setBlinkPeriod (k : Nat) (s : State) : Keeps s (setBlinkPeriod k s).1 := {}
theorem keeps_beginWalk (k : ClearKind) (s : State) : Keeps s (beginWalk k s).1 := {}
theorem keeps_toggleBlink (at_ : Nat) (s : State) : Keeps s (toggleBlink at_ s) := {}

theorem keeps_setBlinkMode (m : BlinkMode) (s : State) : Keeps s (setBlinkMode m s).1 := by
  unfold setBlinkMode
  exact keeps_ite {} {}

theorem keeps_clearWalkStep (s : State) : Keeps s (clearWalkStep s) := by
  unfold clearWalkStep
  split
  · dsimp only
    split
    · exact {}
    · exact (keeps_modLamp ..).trans <| (keeps_modLamps ..).trans (keeps_answerLong ..)
  · exact Keeps.refl s

theorem keeps_markNode (n : NodeAddr) (s : State) : Keeps s (markNode n s) :=
  keeps_ite ((keeps_setLampMark n s).trans (keeps_modLamps ..)) (Keeps.refl s)

theorem keeps_visitRoom (k : SweepKind) (r : RoomIx) (s : State) : Keeps s (visitRoom k r s) := by
  unfold visitRoom
  split
  · exact keeps_ite (keeps_markNode ..) (Keeps.refl s)
  · exact Keeps.refl s

theorem keeps_sweepVisit (s : State) : Keeps s (sweepVisit s) := by
  unfold sweepVisit
  split
  · dsimp only
    split
    · exact (keeps_visitRoom ..).trans (keeps_modLamps ..)
    · exact (keeps_visitRoom ..).trans <| (keeps_modLamps ..).trans (keeps_settleSweep _)
  · exact Keeps.refl s

/-! ### Ports and attention (chapters 9 and 10) -/

theorem keeps_unknownFrame (p : Port) (code : Option Byte) (s : State) : Keeps s (unknownFrame p code s) :=
  keeps_ite (Keeps.refl s) (keeps_ite (keeps_discardFrame p s) (keeps_answer_open ..))

theorem keeps_statusFrame (p : Port) (clocked : Nat) (s : State) : Keeps s (statusFrame p clocked s) :=
  keeps_ite (Keeps.refl s) (keeps_modPort s p id)

theorem resultRead_kept {q : PortRec} (clocked : Nat) (h : q.kept) : (q.resultRead clocked).kept := by
  unfold PortRec.resultRead
  split
  · exact ⟨nofun, nofun⟩
  · exact h

theorem released_kept (q : PortRec) : q.released.kept := by
  unfold PortRec.released PortRec.kept
  refine ⟨fun _ => rfl, ?_⟩
  dsimp only
  split
  · next w =>
    intro e
    rw [e] at w
    cases w
  · nofun

theorem keeps_resultFrame (p : Port) (clocked : Nat) (s : State) : Keeps s (resultFrame p clocked s) :=
  keeps_ite (Keeps.refl s) (keeps_modPort s p (resultRead_kept clocked))

theorem keeps_portReset (p : Port) (s : State) : Keeps s (portReset p s) :=
  keeps_ite ((keeps_modPort s p fun _ => released_kept _).trans (keeps_modAttn ..)) (keeps_modPort s p id)

theorem keeps_vector (p : Port) (s : State) : Keeps s (vector p s) :=
  (keeps_raise ..).trans <| (keeps_modAttn ..).trans (keeps_placeResult ..)

theorem keeps_setCauseLevels (p : Port) (ls : List (Option (Fin 8))) (s : State) : Keeps s (setCauseLevels p ls s).1 := {}
theorem keeps_peerNotice (p : Port) (x : Port × Byte) (s : State) : Keeps s (peerNotice p x s).1 := {}

/-! ### Time (11.1) -/

theorem keeps_deliverTick (s : State) : Keeps s (deliverTick s) := by
  have compared := (keeps_requestExpiry s).trans (keeps_compareWindows _)
  exact keeps_ite (compared.trans (keeps_requestSweep ..)) compared

theorem keeps_passPeriods (periods : Nat) (s : State) : Keeps s (passPeriods periods s) := {}

theorem keeps_passToTick (s : State) : Keeps s (passToTick s) := (keeps_passPeriods ..).trans (keeps_deliverTick _)

theorem keeps_passSteps (fuel deadline : Nat) : ∀ s : State, Keeps s (passSteps fuel deadline s) := by
  induction fuel with
  | zero => exact Keeps.refl
  | succ fuel ih =>
    intro s
    exact keeps_ite (Keeps.refl s) (keeps_ite ((keeps_passToTick s).trans (ih _)) (keeps_passPeriods ..))

theorem keeps_idlePeriod (s : State) : Keeps s (idlePeriod s) :=
  keeps_ite (Keeps.refl s) (keeps_ite (keeps_passToTick s) (keeps_passPeriods ..))

theorem keeps_expireTimer {timer : Timer} {effect : State → State} (h : ∀ t, Keeps t (effect t)) (s : State) :
    Keeps s (expireTimer timer effect s) := by
  unfold expireTimer
  split
  · exact (keeps_passSteps ..).trans (keeps_ite (h _) (Keeps.refl _))
  · exact Keeps.refl s

theorem keeps_toggleDue (s : State) : Keeps s (toggleDue s) := by
  unfold toggleDue
  split
  · exact keeps_toggleBlink ..
  · exact Keeps.refl s

theorem keeps_setClock (t : HotelTime) (s : State) : Keeps s (setClock t s).1 := by
  unfold setClock
  dsimp only
  split
  · exact Keeps.trans {} (keeps_offer ..)
  · exact {}

/-! ### Supply and emergency keys (11.2, 11.3) -/

theorem keeps_writeEmergency (a : Fin 4 × CardId × Set16) (s : State) : Keeps s (writeEmergency a s).1 := by
  unfold writeEmergency
  dsimp only
  split
  · exact Keeps.refl s
  · exact {}

theorem keeps_emergencyProgrammingDone (s : State) : Keeps s (emergencyProgrammingDone s) := by
  unfold emergencyProgrammingDone
  split
  · exact Keeps.trans (t := { s with emergency := s.emergency.programmed }) {} (keeps_answerLong ..)
  · exact Keeps.refl s

theorem keeps_freezeEmergency (k : Fin 4) (s : State) : Keeps s (freezeEmergency k s).1 := by
  unfold freezeEmergency
  split
  · exact {}
  · exact Keeps.refl s

theorem keeps_setPower (p : Power) (s : State) : Keeps s (setPower p s) := {}
theorem keeps_linesRetain (s : State) : Keeps s (linesRetain s) := {}

theorem keeps_verdictRetain (s : State) : Keeps s (verdictRetain s) :=
  Keeps.trans (t := { s with verdict := { s.verdict with queue := [] } })
    { verdict := fun ⟨_, watch⟩ => ⟨Nat.zero_le 32, watch⟩ } (keeps_leaveService ..)

theorem keeps_recordLoss (discarded : Nat) (s : State) : Keeps s (recordLoss discarded s) := by
  unfold recordLoss
  exact (keeps_offer ..).trans {}

theorem keeps_storesRetain (s : State) :
    Keeps s { s with lamps := s.lamps.retained, emergency := s.emergency.programmed } := {}

theorem keeps_enterRetain (s : State) : Keeps s (enterRetain s) := by
  have ended := (keeps_setPower .retain s).trans <| (keeps_linesRetain _).trans <| (keeps_verdictRetain _).trans
    (keeps_abandonSessions everyNode _)
  have journaled := ended.trans (keeps_journalRetain _)
  have recorded := (journaled.trans (keeps_storesRetain _)).trans (keeps_recordLoss s.verdict.queue.length _)
  exact keeps_ite (recorded.trans (keeps_setPower ..)) recorded

theorem warm_kept (q : PortRec) : q.warm.kept := ⟨nofun, nofun⟩
theorem cold_kept (q : PortRec) : q.cold.kept := ⟨nofun, nofun⟩

theorem keeps_linesRestart (s : State) : Keeps s (linesRestart s) := by
  unfold linesRestart
  refine Keeps.trans ((keeps_unpollNodes everyNode _).trans (keeps_leaveService everyNode _)) {}

theorem keeps_recordReturn (s : State) : Keeps s (recordReturn s) := by
  unfold recordReturn
  exact ((keeps_offer _ s).trans (keeps_raise .service .powerReturn _)).trans {}

theorem keeps_warmRestart (s : State) : Keeps s (warmRestart s) :=
  (keeps_setPower .run s).trans <| (keeps_mapPorts _ fun q _ => warm_kept q).trans <| (keeps_linesRestart _).trans <|
    (keeps_journalRestart _).trans <| (keeps_modLamps ..).trans <| (keeps_requestSweep ..).trans (keeps_recordReturn _)

/-- After a cold start no room is paired. -/
theorem pairedWell_reset : State.reset.pairedWell := by
  intro r x e
  rw [show State.reset.room r = Room.reset from tget_replicate ..] at e
  cases e

theorem keeps_initialContents (s : State) : Keeps s (initialContents s) where
  ports _ p := by
    change ((s.ports.map PortRec.cold).get p).kept
    rw [get_map]
    exact cold_kept _
  paired _ := pairedWell_reset
  scans _ := Nat.zero_le 8
  journal _ := rebuilt_bounded _ _
  verdict _ := ⟨Nat.zero_le 32, Nat.zero_le 8, List.nodup_nil⟩
  charge _ := ⟨Nat.zero_le 16, List.nodup_nil, Nat.zero_le 128⟩

theorem keeps_coldStart (s : State) : Keeps s (coldStart s) :=
  (keeps_initialContents s).trans <| (keeps_ite (keeps_raise ..) (Keeps.refl _)).trans (keeps_offer ..)

theorem keeps_mainSupplyReturn (s : State) : Keeps s (mainSupplyReturn s) := by
  unfold mainSupplyReturn
  split
  · exact Keeps.refl s
  · exact keeps_warmRestart s
  · exact keeps_coldStart s

/-! ### The step -/

/-- The state that a step answers with; every event has one. -/
def NextKeeps (s : State) (o : Host.Outcome State Fault Refusal) : Prop := ∀ t, o = .next t → Keeps s t

theorem nextKeeps_next {s t : State} (h : Keeps s t) : NextKeeps s (.next t) := by
  intro u e
  cases e
  exact h

/-- A command whose owner keeps the invariants. -/
theorem nextKeeps_command {α : Type} {c : Command} {p : Port} {ps : List Byte} {parse : List Byte → Option α}
    {owner : α → State → Owned} {s : State} (h : ∀ a t, Keeps t (owner a t).1) :
    NextKeeps s (.next (takeCommand c p ps parse owner s)) := nextKeeps_next (keeps_takeCommand h s)

/-- A command that claims the key entries. -/
theorem nextKeeps_arbitrated {α : Type} {c : Command} {p : Port} {ps : List Byte} {parse : List Byte → Option α}
    {owner : α → State → Owned} {s : State} (h : ∀ a t, Keeps t (owner a t).1) :
    NextKeeps s (.next (takeCommand c p ps parse (arbitrated owner) s)) := nextKeeps_command (keeps_arbitrated h)

/-- A command that only reads. -/
theorem keeps_read {α : Type} {data : α → State → List Byte} (a : α) (s : State) : Keeps s (accept (data a s) s).1 :=
  Keeps.refl s

theorem nextKeeps_exec (i : Instr) (s : State) : NextKeeps s (exec i s) := by
  cases i with
  | checkIn => exact nextKeeps_arbitrated keeps_checkIn
  | checkOut => exact nextKeeps_arbitrated keeps_checkOut
  | moveStay => exact nextKeeps_arbitrated keeps_moveStay
  | blockRoom => exact nextKeeps_command keeps_blockRoom
  | unblockRoom => exact nextKeeps_command keeps_unblockRoom
  | writeRoom => exact nextKeeps_command keeps_writeRoom
  | pairRooms => exact nextKeeps_command keeps_pairRooms
  | unpairRooms => exact nextKeeps_command keeps_unpairRooms
  | setMakeup => exact nextKeeps_command keeps_writeMakeup
  | readRoom => exact nextKeeps_command keeps_read
  | issueGuestKey => exact nextKeeps_arbitrated keeps_issueGuestKey
  | issueStaffKey => exact nextKeeps_arbitrated keeps_issueStaffKey
  | revokeKey p => exact nextKeeps_arbitrated (keeps_revokeKey p)
  | reportLost p => exact nextKeeps_arbitrated (keeps_reportLost p)
  | suspendKey => exact nextKeeps_arbitrated keeps_suspendKey
  | resumeKey => exact nextKeeps_arbitrated keeps_resumeKey
  | extendKey => exact nextKeeps_arbitrated keeps_extendKey
  | revokeRoomKeys => exact nextKeeps_arbitrated keeps_revokeRoomKeys
  | readKey => exact nextKeeps_arbitrated keeps_readKey
  | keyCounts => exact nextKeeps_arbitrated keeps_read
  | writeProfile => exact nextKeeps_command keeps_writeProfile
  | readProfile => exact nextKeeps_command keeps_read
  | watchAdd => exact nextKeeps_command keeps_watchAdd
  | watchRemove => exact nextKeeps_command keeps_watchRemove
  | readWatch => exact nextKeeps_command keeps_read
  | clearAlarm => exact nextKeeps_command keeps_clearAlarm
  | setNodeMode => exact nextKeeps_command keeps_setNodeMode
  | releaseZones => exact nextKeeps_command keeps_releaseZones
  | restoreZones => exact nextKeeps_command keeps_restoreZones
  | unlatchNode => exact nextKeeps_command keeps_unlatchNode
  | writeNode => exact nextKeeps_command keeps_writeNode
  | readNode => exact nextKeeps_command keeps_read
  | stopLine => exact nextKeeps_command keeps_stopLine
  | startLine => exact nextKeeps_command keeps_startLine
  | restartLine => exact nextKeeps_command keeps_restartLine
  | readLine => exact nextKeeps_command keeps_read
  | openFolio => exact nextKeeps_command keeps_openFolio
  | closeFolio => exact nextKeeps_command keeps_closeFolio
  | readFolio => exact nextKeeps_command keeps_read
  | setAllowance => exact nextKeeps_command keeps_setAllowance
  | holdFolio => exact nextKeeps_command keeps_holdFolio
  | releaseFolio => exact nextKeeps_command keeps_releaseFolio
  | writePrices => exact nextKeeps_command keeps_writePrices
  | readPrices => exact nextKeeps_command keeps_read
  | peekCharges => exact nextKeeps_command keeps_read
  | takeCharges => exact nextKeeps_command keeps_takeCharges
  | readSessions => exact nextKeeps_command keeps_read
  | flushJournal => exact nextKeeps_command keeps_flushJournal
  | releaseGuards => exact nextKeeps_command (keeps_writeGuards false)
  | setGuards => exact nextKeeps_command (keeps_writeGuards true)
  | holdSegment => exact nextKeeps_command keeps_holdSegment
  | clearHold => exact nextKeeps_command keeps_clearHold
  | setCursor => exact nextKeeps_command keeps_setCursor
  | readRecords => exact nextKeeps_command keeps_readRecords
  | readSegmentWrapped => exact nextKeeps_command keeps_read
  | markCollected => exact nextKeeps_command keeps_markCollected
  | journalStatus => exact nextKeeps_command keeps_journalStatus
  | writeLamps => exact nextKeeps_command keeps_writeLamps
  | setBlinkMode => exact nextKeeps_command keeps_setBlinkMode
  | setBlinkPeriod => exact nextKeeps_command keeps_setBlinkPeriod
  | setDark => exact nextKeeps_command keeps_setDark
  | clearAlternate => exact nextKeeps_command fun _ => keeps_beginWalk .alternate
  | clearBlinkSet => exact nextKeeps_command fun _ => keeps_beginWalk .blinkSet
  | readLamps => exact nextKeeps_command keeps_read
  | vector p => exact nextKeeps_command fun _ => keeps_vector p
  | setCauseLevels p => exact nextKeeps_command (keeps_setCauseLevels p)
  | peerNotice p => exact nextKeeps_command (keeps_peerNotice p)
  | setClock => exact nextKeeps_command keeps_setClock
  | readClock => exact nextKeeps_command keeps_read
  | writeEmergencyKey => exact nextKeeps_command keeps_writeEmergency
  | freezeEmergencyKey => exact nextKeeps_command keeps_freezeEmergency
  | readEmergencyKey => exact nextKeeps_command keeps_read
  | partStatus => exact nextKeeps_command keeps_read
  | unknownCommand => exact nextKeeps_next (keeps_unknownFrame ..)
  | commandFrameDiscarded => exact nextKeeps_next (keeps_ite (keeps_discardFrame ..) (Keeps.refl s))
  | statusFrame => exact nextKeeps_next (keeps_statusFrame ..)
  | resultFrame => exact nextKeeps_next (keeps_resultFrame ..)
  | portReset => exact nextKeeps_next (keeps_portReset ..)
  | rotationTurn => exact nextKeeps_next (keeps_rotationTurn ..)
  | verdictFrame => exact nextKeeps_next (keeps_verdictFrame ..)
  | busyReply => exact nextKeeps_next (keeps_busyReply ..)
  | modeFrame => exact nextKeeps_next (keeps_modeFrame ..)
  | quiet => exact nextKeeps_next (keeps_exchangeAnswered ..)
  | ack => exact nextKeeps_next (keeps_exchangeAnswered ..)
  | present => exact nextKeeps_next (keeps_exchangeAnswered ..)
  | doorOpened => exact nextKeeps_next (keeps_exchangeAnswered ..)
  | doorClosed => exact nextKeeps_next (keeps_exchangeAnswered ..)
  | bolt => exact nextKeeps_next (keeps_exchangeAnswered ..)
  | button => exact nextKeeps_next (keeps_exchangeAnswered ..)
  | tray => exact nextKeeps_next (keeps_exchangeAnswered ..)
  | invalidAnswer => exact nextKeeps_next (keeps_frameReceived ..)
  | answerWindowExpiry => exact nextKeeps_next (keeps_exchangeMissed ..)
  | presentationJudgement => exact nextKeeps_next (keeps_presentationJudgement s)
  | useReport => exact nextKeeps_next (keeps_serveClaim ..)
  | rebindClaim => exact nextKeeps_next (keeps_serveClaim ..)
  | grantWindowExpiry n => exact nextKeeps_next (keeps_expireTimer (keeps_expireGrant n) s)
  | heldOpenTimerExpiry n => exact nextKeeps_next (keeps_expireTimer (keeps_expireHeldOpen n) s)
  | openLimitExpiry n => exact nextKeeps_next (keeps_expireTimer (keeps_expireOpenLimit n) s)
  | flushTimerExpiry => exact nextKeeps_next (keeps_expireTimer keeps_expireFlush s)
  | blinkPhaseToggle => exact nextKeeps_next (keeps_expireTimer keeps_toggleDue s)
  | minuteTick => exact nextKeeps_next (keeps_ite (Keeps.refl s) (keeps_passToTick s))
  | sweepVisit => exact nextKeeps_next (keeps_sweepVisit s)
  | clearWalkStep => exact nextKeeps_next (keeps_clearWalkStep s)
  | scanJobStart => exact nextKeeps_next (keeps_scanJobStart s)
  | scanStep => exact nextKeeps_next (keeps_scanStep s)
  | blockProgramStart => exact nextKeeps_next (keeps_blockProgramStart s)
  | markProgramStart => exact nextKeeps_next (keeps_markProgramStart s)
  | eraseStart => exact nextKeeps_next (keeps_eraseStart s)
  | eraseSuspend => exact nextKeeps_next (keeps_eraseSuspend s)
  | blockProgramComplete => exact nextKeeps_next (keeps_blockProgramComplete s)
  | firstSequenceMarkProgrammed =>
    refine nextKeeps_next ?_
    split
    · exact keeps_completeFirst ..
    · exact Keeps.refl s
  | holdMarkProgrammed =>
    refine nextKeeps_next ?_
    split
    · exact keeps_completeHold ..
    · exact Keeps.refl s
  | releaseMarkProgrammed =>
    refine nextKeeps_next ?_
    split
    · exact keeps_completeRelease ..
    · exact Keeps.refl s
  | segmentEraseComplete => exact nextKeeps_next (keeps_segmentEraseComplete s)
  | emergencyProgrammingDone => exact nextKeeps_next (keeps_emergencyProgrammingDone s)
  | mainSupplyLost => exact nextKeeps_next (keeps_ite (keeps_enterRetain s) (Keeps.refl s))
  | mainSupplyReturn => exact nextKeeps_next (keeps_mainSupplyReturn s)
  | coldStart => exact nextKeeps_next (keeps_coldStart s)
  | backupCellChange => exact nextKeeps_next {}
  | portResetAsserted p => exact nextKeeps_next (keeps_modPort s p id)

/-- Every step keeps every invariant: a crystal period, or an event taken with the queue's rest. -/
theorem keeps_step {s t : State} (h : step s = .next t) : Keeps s t := by
  unfold step at h
  split at h
  · cases h
    exact keeps_idlePeriod s
  · next rest _ => exact Keeps.trans (t := { s with pending := rest }) {} (nextKeeps_exec _ _ t h)

end Sys2Proof.Machine

namespace Sys2Proof.Settled

open Sys2Proof.Machine

/-- Settles O58: no event makes a queue or table longer than its check lets it. -/
theorem boundsKept : Obligations.BoundsKept := fun _ _ bounded h => (keeps_step h).bounded bounded

/-- Settles O59: only PAIR ROOMS, UNPAIR ROOMS and a cold start change pairings, the first two on both rooms at once. -/
theorem pairingKept : Obligations.PairingKept := fun _ _ paired h => (keeps_step h).paired paired

/-- Settles O60: a port goes to WORKING with an empty result record, and to DONE with a filled one. -/
theorem portsKept : Obligations.PortsKept := fun _ _ kept h => (keeps_step h).ports kept

/-- Settles O57. -/
theorem resetInvariants : Obligations.ResetInvariants :=
  ⟨by decide +kernel, pairedWell_reset, fun p => by cases p <;> exact ⟨nofun, nofun⟩⟩

end Sys2Proof.Settled
end

section
/-! The statements of "The queue, reset and formats". -/

/- The joined text is checked with bounded memory: proofs are elaborated one after another, not each in a thread of its own. -/
set_option Elab.async false

namespace Sys2Proof.Machine

/-! ### The queue (log entry 1) -/

/-- Short of a minute tick an idle part passes one crystal period. -/
theorem idlePeriod_short {s : State} (stands : s.supply.power ≠ .lost) (short : 1 < s.supply.toTick) :
    idlePeriod s = passPeriods 1 s := by
  simp only [idlePeriod, if_neg stands, if_neg (Nat.not_le.mpr short)]

/-! ### Reset -/

theorem isPending_reset_iff (p : Port) (c : Cause) :
    State.reset.isPending p c = true ↔ p = .service ∧ (c = .tablesLost ∨ c = .clockUnset) := by
  cases p with
  | front => cases c <;> decide
  | charge => cases c <;> decide
  | service => cases c <;> decide

theorem node_reset (n : NodeAddr) : State.reset.node n = Node.reset := by
  change tget (tget (Table.replicate (Table.replicate Node.reset 6) 4) n.line) n.addr = _
  rw [tget_replicate, tget_replicate]

theorem profile_reset (k : Fin 16) : State.reset.profile k = if k = 0 then Profile.guestDefault else Profile.empty := by
  change tget (tset (Table.replicate Profile.empty 4) (0 : Fin 16) Profile.guestDefault) k = _
  split
  · next h => rw [h, tget_tset_same]
  · next h => rw [tget_tset_ne (by decide) _ _ _ _ (Ne.symm h), tget_replicate]

theorem segment_reset (k : SegIx) :
    State.reset.segment k = if k = 0 then { Segment.new with state := .filling 0 } else Segment.new := by
  change tget (tset (Table.replicate Segment.new 4) (0 : SegIx) { Segment.new with state := .filling 0 }) k = _
  split
  · next h => rw [h, tget_tset_same]
  · next h => rw [tget_tset_ne (by decide) _ _ _ _ (Ne.symm h), tget_replicate]

/-! ### Lengths of records (12.5) -/

@[simp] theorem length_u8 (n : Nat) : (u8 n).length = 1 := rfl
@[simp] theorem length_u16 (n : Nat) : (u16 n).length = 2 := rfl
@[simp] theorem length_u32 (w : BitVec 32) : (u32 w).length = 4 := rfl
@[simp] theorem length_u64 (c : CardId) : (u64 c).length = 8 := rfl
@[simp] theorem length_uEnum? (c : Option Nat) : (uEnum? c).length = 1 := rfl
@[simp] theorem length_u16? (c : Option Nat) : (u16? c).length = 2 := rfl
@[simp] theorem length_u32? (w : Option (BitVec 32)) : (u32? w).length = 4 := rfl
@[simp] theorem length_uNode (n : NodeAddr) : (uNode n).length = 2 := rfl
@[simp] theorem length_uFlag (b : Bool) : (uFlag b).length = 1 := rfl
@[simp] theorem length_crcBytes (bytes : List Byte) : (crcBytes bytes).length = 2 := rfl

@[simp] theorem length_uNode? (n : Option NodeAddr) : (uNode? n).length = 2 := by cases n <;> rfl

theorem length_record (r : Record) : r.bytes.length = 32 := by
  obtain ⟨body, h, e⟩ := r.bytes_eq
  rw [e, List.length_append, List.length_append, h]
  rfl

theorem length_slot (x : Slot) : x.bytes.length = 32 := by
  cases x with
  | blank => exact List.length_replicate
  | written r => exact length_record r
  | other content => simp [Slot.bytes, contentBytes]

theorem length_chargeLine (c : ChargeLine) : c.bytes.length = 14 := by simp [ChargeLine.bytes]

@[simp] theorem length_bindingBytes (s : State) (b : Option Binding) : (s.bindingBytes b).length = 4 := by
  cases b <;> simp [State.bindingBytes]

theorem length_keyRecord (s : State) (k : KeyIx) : (s.keyRecord k).length = 57 := by
  simp [State.keyRecord]

theorem length_roomRecord (s : State) (r : RoomIx) : (s.roomRecord r).length = 29 := by
  simp [State.roomRecord]

theorem length_folioRecord (s : State) (f : FolioIx) : (s.folioRecord f).length = 18 := by
  simp [State.folioRecord]

@[simp] theorem length_windowBytes (w : Option Window) : (windowBytes w).length = 4 := by
  cases w <;> simp [windowBytes]

@[simp] theorem length_holder (x : Holder) : x.bytes.length = 3 := by
  cases x <;> simp [Holder.bytes]

theorem length_nodeRecord (s : State) (n : NodeAddr) : (s.nodeRecord n).length = 33 := by
  unfold State.nodeRecord
  cases h : (s.node n).grant <;> simp [h]

theorem length_profile (k : Fin 16) (p : Profile) : (p.bytes k).length = 9 := by
  simp [Profile.bytes]

theorem length_statusBlock (s : State) (p : Port) : (s.statusBlock p).length = 5 := by
  simp [State.statusBlock]

/-! ### The judgement of 32 bytes (R199) -/

/-- The last four bytes of 32 are two, and two more. -/
theorem drop_28 {bytes : List Byte} (h : bytes.length = 32) :
    bytes.drop 28 = bytes.getD 28 0 :: bytes.getD 29 0 :: bytes.drop 30 := by
  rw [List.drop_eq_getElem_cons (by omega), List.drop_eq_getElem_cons (by omega), List.getD_eq_getElem _ _ (by omega),
    List.getD_eq_getElem _ _ (by omega)]

theorem readingOf_eq {bytes : List Byte} (h : bytes.length = 32) : readingOf bytes =
    if ∀ b ∈ bytes, b = 0xFF then .blank
    else if bytes.getD 28 0 = 0 ∧ bytes.getD 29 0 = 0 ∧ bytes.drop 30 = crcBytes (bytes.take 30) then .valid
    else .unreadable := by
  have blank : bytes = List.replicate 32 0xFF ↔ ∀ b ∈ bytes, b = 0xFF := by
    rw [List.eq_replicate_iff]
    exact and_iff_right h
  have valid : bytes.drop 28 = [0, 0] ++ crcBytes (bytes.take 30) ↔
      bytes.getD 28 0 = 0 ∧ bytes.getD 29 0 = 0 ∧ bytes.drop 30 = crcBytes (bytes.take 30) := by
    rw [drop_28 h]
    simp only [List.cons_append, List.nil_append, List.cons.injEq]
  unfold readingOf
  simp only [blank, valid]

theorem ofCode_code (c : Command) : Command.ofCode c.code = some c := by cases c <;> decide

/-! ### Answers of a node (R96, 12.4) -/

/-- A payload of fewer than 256 bytes is judged, in the frame that carries it, by its type and values alone. -/
theorem answerOf_frameBytes (addr : Fin 64) (type : Byte) {payload : List Byte} (short : payload.length < 256) :
    answerOf addr (frameBytes (BitVec.ofNat 8 (128 + addr.val)) type payload) = answerOfPayload type payload := by
  have body : (payload ++ crcBytes (BitVec.ofNat 8 (128 + addr.val) :: type :: BitVec.ofNat 8 payload.length :: payload)).take
      payload.length = payload := List.take_left
  have check : (payload ++ crcBytes (BitVec.ofNat 8 (128 + addr.val) :: type :: BitVec.ofNat 8 payload.length :: payload)).drop
      payload.length = crcBytes (BitVec.ofNat 8 (128 + addr.val) :: type :: BitVec.ofNat 8 payload.length :: payload) :=
    List.drop_left
  simp only [frameBytes, answerOf, List.cons_append, List.length_append, length_crcBytes, Nat.add_sub_cancel, body, check]
  exact if_pos ⟨Nat.le_add_left .., trivial, trivial, by simp [Nat.mod_eq_of_lt short]⟩

theorem length_payload_lt (a : Answer) : a.payload.2.length < 256 := by
  cases a with
  | button which => cases which <;> decide
  | _ => simp [Answer.payload]

theorem answerOfPayload_payload (a : Answer) : answerOfPayload a.payload.1 a.payload.2 = some a := by
  cases a with
  | quiet => rfl
  | ack => rfl
  | present side card =>
    have card : cardAt (u64 card) 0 = card := by simpa using cardAt_u64 [] card [] 0 rfl
    cases side <;> exact congrArg (fun c => some (Answer.present _ c)) card
  | door opened => cases opened <;> rfl
  | bolt on => cases on <;> rfl
  | button which => cases which <;> rfl
  | tray slot kind =>
    have slotBack : toFin? 32 (BitVec.ofNat 8 slot.val).toNat = some slot := by
      rw [BitVec.toNat_ofNat, Nat.mod_eq_of_lt (by omega), toFin?_val]
    change ((toFin? 32 (BitVec.ofNat 8 slot.val).toNat).bind fun slot =>
      (twoValued (BitVec.ofNat 8 kind.code)).map fun t => Answer.tray slot (if t then .taken else .returned)) = _
    rw [slotBack]
    cases kind <;> rfl

end Sys2Proof.Machine

namespace Sys2Proof.Settled

open Sys2Proof.Machine

/-- Settles O1: both are what `step` says, the crystal period by `idlePeriod_short`. -/
theorem queueStep : Obligations.QueueStep :=
  ⟨fun _ _ _ => rfl, fun s stands short =>
    congrArg Host.Outcome.next (idlePeriod_short (s := { s with pending := [] }) stands short)⟩

/-- Settles O2: each table is read record by record, and the rest stands in `State.reset` as it is. -/
theorem resetState : Obligations.ResetState := by
  refine ⟨⟨fun r => tget_replicate .., fun k => tget_replicate .., fun k => ?_, node_reset, fun l => tget_replicate ..,
    fun f => tget_replicate .., fun r => tget_replicate ..⟩, ⟨fun p => ?_, fun p => ?_, isPending_reset_iff, ?_⟩,
    fun c i => ?_, fun k => tget_replicate .., rfl, fun k => ?_, ?_⟩
  · rw [profile_reset]
    split <;> rfl
  · cases p <;> rfl
  · cases p <;> exact ⟨rfl, rfl, rfl, rfl⟩
  · decide
  · change tget (tget (Table.replicate (Table.replicate 0 5) 2) c) i = 0
    rw [tget_replicate, tget_replicate]
  · rw [segment_reset]
    split <;> exact ⟨rfl, rfl, rfl, rfl, rfl, rfl, rfl, rfl, fun i => Table.get_replicate ..⟩
  · exact ⟨rfl, rfl, rfl, rfl, rfl, rfl, rfl, rfl, rfl, rfl, rfl, rfl, rfl, rfl, rfl⟩

/-- Settles O3: the frames and codes are evaluated, the lengths hold for every content, and a slot's bytes are judged by their last
four. -/
theorem frameAndRecordBytes : Obligations.FrameAndRecordBytes :=
  ⟨by decide +kernel, ⟨ofCode_code, by decide +kernel⟩,
    ⟨length_record, length_slot, length_chargeLine, length_keyRecord, length_roomRecord, length_folioRecord, length_nodeRecord,
      length_profile, length_statusBlock⟩,
    reading_blank, reading_written, fun _ => readingOf_eq⟩

/-- Settles O4. -/
theorem answerRoundTrip : Obligations.AnswerRoundTrip := fun addr a =>
  (answerOf_frameBytes addr a.payload.1 (length_payload_lt a)).trans (answerOfPayload_payload a)

end Sys2Proof.Settled
end

section
/-! The statements of "Ports and attention" (chapters 9 and 10). -/

/- The joined text is checked with bounded memory: proofs are elaborated one after another, not each in a thread of its own. -/
set_option Elab.async false

namespace Sys2Proof.Machine

/-! ### Frames on a port (R174 to R181) -/

theorem listening_false {s : State} {p : Port} (h : s.inRun = false ∨ (s.port p).resetHeld = true) : s.listening p = false := by
  unfold State.listening
  rcases h with h | h <;> simp [h]

theorem exec_unknownCommand_taken {s : State} {p : Port} (h : s.takes p) {code : Option Byte}
    (unknown : code.bind Command.ofCode = none) :
    exec (.unknownCommand p code) s =
      .next (s.answered p code ⟨if code.isSome then .unknownCommand else .truncated, []⟩) := by
  change Host.Outcome.next (unknownFrame p code s) = _
  simp only [unknownFrame, takes_listening h, unknown, h.2.2, answer_open]
  rfl

theorem exec_resultFrame_listening {s : State} {p : Port} (h : s.listening p = true) (k : Nat) :
    exec (.resultFrame p k) s = .next (s.modPort p fun q => q.resultRead k) := by
  change Host.Outcome.next (resultFrame p k s) = _
  simp [resultFrame, h]

theorem resultBytes_some {q : PortRec} {r : ResultRecord} (h : q.result = some r) : q.resultBytes =
    [q.tag, r.command.getD 0xFF, BitVec.ofNat 8 r.code.code, BitVec.ofNat 8 (r.data.length / 256),
      BitVec.ofNat 8 r.data.length] ++ r.data := by
  simp [PortRec.resultBytes, h, u8, u16]

theorem resultBytes_none {q : PortRec} (h : q.result = none) : q.resultBytes = [q.tag, 0xFF, 0xFF, 0, 0] := by
  simp [PortRec.resultBytes, h]

theorem released_eq (q : PortRec) : q.released = { q with
    phase := match q.phase with | .working c => .working c | _ => .idle
    result := none, refusal := false, restart := .none, resetHeld := false } := by
  cases h : q.phase <;> simp [PortRec.released, PortPhase.isWorking, h]

/-! ### Fields out of range (R177 check 4) -/

section
variable {ps : List Byte} {k : Nat}

theorem toFin?_none {n j : Nat} (h : n ≤ j) : toFin? n j = none := by
  simp [toFin?, h]

theorem roomAt_none (h : 512 ≤ u16At ps k) : roomAt ps k = none := toFin?_none h

theorem nodeAt_none (h : 16 ≤ u8At ps k ∨ 64 ≤ u8At ps (k + 1)) : nodeAt ps k = none := by
  unfold nodeAt
  rcases h with h | h
  · simp [toFin?_none h]
  · simp [toFin?_none h]

theorem nodeOptAt_none (h : 16 ≤ u8At ps k ∨ 64 ≤ u8At ps (k + 1)) (given : u16At ps k ≠ 0xFFFF) : nodeOptAt ps k = none := by
  simp [nodeOptAt, given, nodeAt_none h]

theorem folioOptAt_none (h : 256 ≤ u16At ps k) (given : u16At ps k ≠ 0xFFFF) : folioOptAt ps k = none := by
  simp [folioOptAt, given, toFin?_none h]

theorem flagAt_none (h : 1 < u8At ps k) : flagAt ps k = none := by
  have zero : byteAt ps k ≠ 0 := fun e => by simp [u8At, e] at h
  have one : byteAt ps k ≠ 1 := fun e => by simp [u8At, e] at h
  rw [flagAt, if_neg zero, if_neg one]

theorem countAt_none {low high : Nat} (h : u8At ps k < low ∨ high < u8At ps k) : countAt low high ps k = none := by
  unfold countAt
  rw [if_neg (by omega)]

theorem minuteAt_none (h : 1440 ≤ u16At ps k) : minuteAt ps k = none := by
  simp [minuteAt, h]

theorem u16At_eq_zero_iff : u16At ps k = 0 ↔ word16At ps k = 0 := by
  have lo := (byteAt ps (k + 1)).isLt
  unfold u16At u8At word16At
  rw [← BitVec.toNat_inj, BitVec.toNat_append, ← Nat.shiftLeft_add_eq_or_of_lt lo, Nat.shiftLeft_eq]
  rfl

theorem lampAt_none (h : 2 < u8At ps k) : lampAt ps k = none := by
  unfold lampAt
  split <;> first | omega | rfl

theorem levelAt_none (given : u8At ps k ≠ 0xFF) (h : 7 < u8At ps k) : levelAt ps k = none := by
  have byte : byteAt ps k ≠ 0xFF := fun e => given (by simp [u8At, e])
  rw [levelAt, if_neg byte, toFin?_none h, Option.map_none]

theorem portAt_none (h : 2 < u8At ps k) : portAt ps k = none := by
  unfold portAt
  split <;> first | omega | rfl

/-- A list of fields one of which is out of range is out of range. -/
theorem mapM_none {α β : Type} {f : α → Option β} {x : α} : ∀ {xs : List α}, x ∈ xs → f x = none → xs.mapM f = none
  | y :: ys, mem, out => by
    rw [List.mapM_cons]
    rcases List.mem_cons.mp mem with rfl | mem
    · rw [out]
      rfl
    · rw [mapM_none mem out]
      cases f y <;> rfl

/-- A list of fields each in range is read whole. -/
theorem mapM_some {α β : Type} {f : α → Option β} {g : α → β} : ∀ {xs : List α}, (∀ x ∈ xs, f x = some (g x)) →
    xs.mapM f = some (xs.map g)
  | [], _ => rfl
  | x :: xs, h => by
    rw [List.mapM_cons, h x List.mem_cons_self, mapM_some fun y hy => h y (List.mem_cons_of_mem x hy)]
    rfl

theorem parseGuestIssue_none (h : 1 < u8At ps 8 ∨ 3 < u8At ps 9 ∨ u8At ps 18 = 0 ∨ 4 < u8At ps 18 ∨
    ∃ j, j < u8At ps 18 ∧ 512 ≤ u16At ps (19 + 2 * j)) : parseGuestIssue ps = none := by
  unfold parseGuestIssue
  rcases h with h | h | h | h | ⟨j, hj, h⟩
  · simp [flagAt_none h]
  · simp [toFin?_none (Nat.succ_le_of_lt h)]
  · simp [countAt_none (low := 1) (high := 4) (Or.inl (by omega : u8At ps 18 < 1))]
  · simp [countAt_none (low := 1) (Or.inr h)]
  · have rooms : (List.range (u8At ps 18)).mapM (fun k => roomAt ps (19 + 2 * k)) = none :=
      mapM_none (List.mem_range.mpr hj) (roomAt_none h)
    cases flagAt ps 8 with
    | none => rfl
    | some copy =>
      cases toFin? 4 (u8At ps 9) with
      | none => rfl
      | some profile =>
        unfold countAt
        split
        · simp [rooms]
        · rfl

theorem parseReadKey_none (h : 1 < u8At ps 0 ∨ (u8At ps 0 = 1 ∧ 2048 ≤ u16At ps 7)) : parseReadKey ps = none := by
  unfold parseReadKey
  rcases h with h | ⟨one, h⟩
  · simp [flagAt_none h]
  · have one : byteAt ps 0 = 1 := BitVec.eq_of_toNat_eq one
    simp [flagAt, one, toFin?_none h]

theorem parseProfile_none (h : 31 < u8At ps 1 ∨ 127 < u8At ps 3 ∨ 1440 ≤ u16At ps 4 ∨ 1440 ≤ u16At ps 6 ∨ 127 < u8At ps 8) :
    parseProfile ps = none := by
  unfold u8At at h
  unfold parseProfile
  rcases h with h | h | h | h | h
  · simp [Nat.not_lt.mpr h]
  · simp [Nat.not_lt.mpr h]
  · simp [minuteAt_none h]
  · simp [minuteAt_none h]
  · simp [Nat.not_lt.mpr h]

theorem parseWritePrices_none (h : 31 < u8At ps 1 ∨ u8At ps 2 = 0 ∨ 32 < u8At ps 2) : parseWritePrices ps = none := by
  unfold parseWritePrices
  rcases h with h | h | h
  · simp [toFin?_none (Nat.succ_le_of_lt h)]
  · simp [countAt_none (low := 1) (high := 32) (Or.inl (by omega : u8At ps 2 < 1))]
  · simp [countAt_none (low := 1) (Or.inr h)]

theorem parseReadWrapped_none (h : 512 ≤ u16At ps 1 ∨ u8At ps 3 = 0 ∨ 16 < u8At ps 3) : parseReadWrapped ps = none := by
  unfold parseReadWrapped
  rcases h with h | h | h
  · simp [toFin?_none h]
  · simp [countAt_none (low := 1) (high := 16) (Or.inl (by omega : u8At ps 3 < 1))]
  · simp [countAt_none (low := 1) (Or.inr h)]

theorem parseWriteLamps_none
    (h : 2 < u8At ps 2 ∨ 2 < u8At ps 3 ∨ 2 < u8At ps 4 ∨ 2 < u8At ps 5 ∨ 2 < u8At ps 6) : parseWriteLamps ps = none := by
  unfold parseWriteLamps
  rcases h with h | h | h | h | h
  · have choice : (match u8At ps 2 with
        | 0 => some LampChoice.primary
        | 1 => some LampChoice.alternate
        | 2 => some LampChoice.blinkSelect
        | _ => none) = none := by
      split <;> first | omega | rfl
    cases roomAt ps 0 with
    | none => rfl
    | some r => exact congrArg (Option.bind · _) choice
  · simp [lampAt_none h]
  · simp [lampAt_none h]
  · simp [lampAt_none h]
  · simp [lampAt_none h]

theorem parseCauseLevels_none {p : Port} (h : ∃ j, j < 14 ∧ u8At ps j ≠ 0xFF ∧ (7 < u8At ps j ∨ causeCount p ≤ j)) :
    parseCauseLevels p ps = none := by
  obtain ⟨j, hj, given, h⟩ := h
  unfold parseCauseLevels
  by_cases whole : ∀ k ∈ List.range 14, levelAt ps k ≠ none
  · have levels : (List.range 14).mapM (levelAt ps) = some ((List.range 14).map fun k => (levelAt ps k).getD none) :=
      mapM_some fun k hk => by
        obtain ⟨v, hv⟩ := Option.ne_none_iff_exists'.mp (whole k hk)
        rw [hv, Option.getD_some]
    have absent : causeCount p ≤ j := h.resolve_left fun high => whole j (List.mem_range.mpr hj) (levelAt_none given high)
    have mem : j ∈ (List.range 14).drop (causeCount p) :=
      List.mem_drop_iff_getElem.mpr ⟨j - causeCount p, by rw [List.length_range]; omega, by rw [List.getElem_range]; omega⟩
    have byte : byteAt ps j ≠ 0xFF := fun e => given (by simp [u8At, e])
    obtain ⟨v, hv⟩ := Option.ne_none_iff_exists'.mp (whole j (List.mem_range.mpr hj))
    have level : v.isNone = false := by
      rw [levelAt, if_neg byte, Option.map_eq_some_iff] at hv
      obtain ⟨w, -, rfl⟩ := hv
      rfl
    rw [levels, Option.bind_some, if_neg]
    rw [← List.map_drop, List.all_map, List.all_eq_true]
    intro all
    have none := all j mem
    rw [Function.comp_apply, hv, Option.getD_some, level] at none
    cases none
  · push Not at whole
    obtain ⟨k, hk, out⟩ := whole
    rw [mapM_none hk out, Option.bind_none]

end

/-- A command whose parameters its parser does not read. -/
theorem exec_badParam {α : Type} {c : Command} {p : Port} {ps : List Byte} {parse : List Byte → Option α}
    {owner : α → State → Owned} {s : State} (h : s.takes p) (perm : c.permitted p = true) (long : c.needed ps ≤ ps.length)
    (e : parse ps = none) :
    (.next (takeCommand c p ps parse owner s) : Host.Outcome State Fault Refusal) = .next (s.refused p c .badParam) :=
  congrArg _ (takeCommand_badParam h (Nat.not_lt.mpr long) perm e)

section
variable {p : Port} {s : State} {c : Command} {ps : List Byte}

/-- A room above 511 in the first place. -/
theorem badParam_firstRoom (h : s.takes p) (perm : c.permitted p = true) (long : c.needed ps ≤ ps.length)
    (out : 512 ≤ u16At ps 0) (mem : c ∈ ([.checkIn, .checkOut, .moveStay, .blockRoom, .unblockRoom, .writeRoom, .pairRooms,
      .unpairRooms, .setMakeup, .readRoom, .revokeRoomKeys, .writeLamps, .readLamps] : List Command)) :
    exec (commandEvent p ps c) s = .next (s.refused p c .badParam) := by
  have room := roomAt_none out
  simp only [List.mem_cons, List.not_mem_nil, or_false] at mem
  rcases mem with rfl | rfl | rfl | rfl | rfl | rfl | rfl | rfl | rfl | rfl | rfl | rfl | rfl
  · exact exec_badParam h perm long (by simp [parseCheckIn, room])
  · exact exec_badParam h perm long room
  · exact exec_badParam h perm long (by simp [parseMoveStay, room])
  · exact exec_badParam h perm long (by simp [parseBlockRoom, room])
  · exact exec_badParam h perm long room
  · exact exec_badParam h perm long (by simp [parseWriteRoom, room])
  · exact exec_badParam h perm long (by simp [parsePairRooms, room])
  · exact exec_badParam h perm long room
  · exact exec_badParam h perm long (by simp [parseSetMakeup, room])
  · exact exec_badParam h perm long room
  · exact exec_badParam h perm long room
  · exact exec_badParam h perm long (by simp [parseWriteLamps, room])
  · exact exec_badParam h perm long room

/-- A line, segment or profile number above 15 in the first place. -/
theorem badParam_firstOf16 (h : s.takes p) (perm : c.permitted p = true) (long : c.needed ps ≤ ps.length)
    (out : 16 ≤ u8At ps 0) (mem : c ∈ ([.clearAlarm, .setNodeMode, .unlatchNode, .writeNode, .readNode, .stopLine, .startLine,
      .restartLine, .readLine, .holdSegment, .clearHold, .readSegmentWrapped, .writeProfile, .readProfile] : List Command)) :
    exec (commandEvent p ps c) s = .next (s.refused p c .badParam) := by
  have node : nodeAt ps 0 = none := nodeAt_none (.inl out)
  have number : toFin? 16 (u8At ps 0) = none := toFin?_none out
  simp only [List.mem_cons, List.not_mem_nil, or_false] at mem
  rcases mem with rfl | rfl | rfl | rfl | rfl | rfl | rfl | rfl | rfl | rfl | rfl | rfl | rfl | rfl
  · exact exec_badParam h perm long node
  · exact exec_badParam h perm long (by simp [parseSetNodeMode, node])
  · exact exec_badParam h perm long node
  · exact exec_badParam h perm long (by simp [parseWriteNode, node])
  · exact exec_badParam h perm long node
  · exact exec_badParam h perm long number
  · exact exec_badParam h perm long number
  · exact exec_badParam h perm long number
  · exact exec_badParam h perm long number
  · exact exec_badParam h perm long number
  · exact exec_badParam h perm long number
  · exact exec_badParam h perm long (by simp [parseReadWrapped, number])
  · exact exec_badParam h perm long (by simp [parseProfile, number])
  · exact exec_badParam h perm long number

/-- A price class or an emergency slot above 3. -/
theorem badParam_firstOf4 (h : s.takes p) (perm : c.permitted p = true) (long : c.needed ps ≤ ps.length)
    (out : 4 ≤ u8At ps 0)
    (mem : c ∈ ([.readPrices, .writePrices, .writeEmergencyKey, .freezeEmergencyKey, .readEmergencyKey] : List Command)) :
    exec (commandEvent p ps c) s = .next (s.refused p c .badParam) := by
  have number : toFin? 4 (u8At ps 0) = none := toFin?_none out
  simp only [List.mem_cons, List.not_mem_nil, or_false] at mem
  rcases mem with rfl | rfl | rfl | rfl | rfl
  · exact exec_badParam h perm long number
  · exact exec_badParam h perm long (by simp [parseWritePrices, number])
  · exact exec_badParam h perm long (by simp [parseWriteEmergency, number])
  · exact exec_badParam h perm long number
  · exact exec_badParam h perm long number

/-- An empty set of zones or segments. -/
theorem badParam_emptySet (h : s.takes p) (perm : c.permitted p = true) (long : c.needed ps ≤ ps.length)
    (out : u16At ps 0 = 0) (mem : c ∈ ([.releaseZones, .restoreZones, .releaseGuards, .setGuards] : List Command)) :
    exec (commandEvent p ps c) s = .next (s.refused p c .badParam) := by
  have set : parseSet ps = none := if_pos (u16At_eq_zero_iff.mp out)
  simp only [List.mem_cons, List.not_mem_nil, or_false] at mem
  rcases mem with rfl | rfl | rfl | rfl <;> exact exec_badParam h perm long set

/-- An address of a node above 63. -/
theorem badParam_firstAddr (h : s.takes p) (perm : c.permitted p = true) (long : c.needed ps ≤ ps.length)
    (out : 64 ≤ u8At ps 1) (mem : c ∈ ([.clearAlarm, .setNodeMode, .unlatchNode, .writeNode, .readNode] : List Command)) :
    exec (commandEvent p ps c) s = .next (s.refused p c .badParam) := by
  have node : nodeAt ps 0 = none := nodeAt_none (.inr out)
  simp only [List.mem_cons, List.not_mem_nil, or_false] at mem
  rcases mem with rfl | rfl | rfl | rfl | rfl
  · exact exec_badParam h perm long node
  · exact exec_badParam h perm long (by simp [parseSetNodeMode, node])
  · exact exec_badParam h perm long node
  · exact exec_badParam h perm long (by simp [parseWriteNode, node])
  · exact exec_badParam h perm long node

/-- A second room above 511. -/
theorem badParam_secondRoom (h : s.takes p) (perm : c.permitted p = true) (long : c.needed ps ≤ ps.length)
    (out : 512 ≤ u16At ps 2) (mem : c ∈ ([.moveStay, .pairRooms] : List Command)) :
    exec (commandEvent p ps c) s = .next (s.refused p c .badParam) := by
  have room := roomAt_none out
  simp only [List.mem_cons, List.not_mem_nil, or_false] at mem
  rcases mem with rfl | rfl
  · exact exec_badParam h perm long (by cases e : roomAt ps 0 <;> simp [parseMoveStay, room, e])
  · exact exec_badParam h perm long (by cases e : roomAt ps 0 <;> simp [parsePairRooms, room, e])

/-- A connecting node, or a door node that is given, out of range. -/
theorem badParam_thirdNode (h : s.takes p) (perm : c.permitted p = true) (long : c.needed ps ≤ ps.length)
    (out : 16 ≤ u8At ps 4 ∨ 64 ≤ u8At ps 5) (kind : c = .pairRooms ∨ (c = .writeRoom ∧ u16At ps 4 ≠ 0xFFFF)) :
    exec (commandEvent p ps c) s = .next (s.refused p c .badParam) := by
  rcases kind with rfl | ⟨rfl, given⟩
  · have node : nodeAt ps 4 = none := nodeAt_none out
    exact exec_badParam h perm long (by cases e : roomAt ps 0 <;> cases e' : roomAt ps 2 <;> simp [parsePairRooms, node, e, e'])
  · have node := nodeOptAt_none out given
    exact exec_badParam h perm long (by cases e : roomAt ps 0 <;> simp [parseWriteRoom, node, e])

/-- A minibar node that is given, out of range. -/
theorem parseWriteRoom_minibar_none (out : 16 ≤ u8At ps 6 ∨ 64 ≤ u8At ps 7) (given : u16At ps 6 ≠ 0xFFFF) :
    parseWriteRoom ps = none := by
  have node := nodeOptAt_none out given
  cases e : roomAt ps 0 <;> cases e' : nodeOptAt ps 4 <;> simp [parseWriteRoom, node, e, e']

theorem parseCheckIn_folio_none (out : 256 ≤ u16At ps 2) (given : u16At ps 2 ≠ 0xFFFF) : parseCheckIn ps = none := by
  have folio := folioOptAt_none out given
  cases e : roomAt ps 0 <;> simp [parseCheckIn, folio, e]

theorem parseSetMakeup_flag_none (out : 1 < u8At ps 2) : parseSetMakeup ps = none := by
  have flag := flagAt_none out
  cases e : roomAt ps 0 <;> simp [parseSetMakeup, flag, e]

/-- A count of 0. -/
theorem badParam_noCount (h : s.takes p) (perm : c.permitted p = true) (long : c.needed ps ≤ ps.length)
    (out : u8At ps 0 = 0) (mem : c ∈ ([.readRecords, .peekCharges, .takeCharges, .setBlinkPeriod] : List Command)) :
    exec (commandEvent p ps c) s = .next (s.refused p c .badParam) := by
  have count (high : Nat) : countAt 1 high ps 0 = none := countAt_none (.inl (by omega))
  simp only [List.mem_cons, List.not_mem_nil, or_false] at mem
  rcases mem with rfl | rfl | rfl | rfl
  · exact exec_badParam h perm long (count 16)
  · exact exec_badParam h perm long (count 8)
  · exact exec_badParam h perm long (count 128)
  · exact exec_badParam h perm long (count 8)

/-- A count above 8. -/
theorem badParam_above8 (h : s.takes p) (perm : c.permitted p = true) (long : c.needed ps ≤ ps.length)
    (out : 8 < u8At ps 0) (mem : c ∈ ([.peekCharges, .setBlinkPeriod] : List Command)) :
    exec (commandEvent p ps c) s = .next (s.refused p c .badParam) := by
  have count : countAt 1 8 ps 0 = none := countAt_none (.inr out)
  simp only [List.mem_cons, List.not_mem_nil, or_false] at mem
  rcases mem with rfl | rfl <;> exact exec_badParam h perm long count

end

theorem parseBlinkMode_none {ps : List Byte} (out : 3 < u8At ps 0) : parseBlinkMode ps = none := by
  unfold parseBlinkMode
  split <;> first | omega | rfl

theorem parseWriteEmergency_none {ps : List Byte} (out : u16At ps 9 = 0) : parseWriteEmergency ps = none :=
  if_pos (u16At_eq_zero_iff.mp out)

/-! ### Causes and levels (R184 to R188) -/

theorem raise_numbered {p : Port} {c : Cause} {k : Fin 14} (h : c.number p = some k) (s : State) :
    raise p c s = s.modAttn p fun a => { a with pending := a.pending.set k.val true } := by
  simp [raise, h]

theorem withdraw_numbered {p : Port} {c : Cause} {k : Fin 14} (h : c.number p = some k) (s : State) :
    withdraw p c s = s.modAttn p fun a => { a with pending := a.pending.set k.val false } := by
  simp [withdraw, h]

theorem isPending_raise {p : Port} {c : Cause} (h : (c.number p).isSome = true) (s : State) :
    (raise p c s).isPending p c = true := by
  obtain ⟨k, hk⟩ := Option.isSome_iff_exists.mp h
  simp [raise_numbered hk, State.isPending, hk]

theorem isPending_withdraw {p : Port} {c : Cause} (h : (c.number p).isSome = true) (s : State) :
    (withdraw p c s).isPending p c = false := by
  obtain ⟨k, hk⟩ := Option.isSome_iff_exists.mp h
  simp [withdraw_numbered hk, State.isPending, hk]

/-- The byte of a level: FFh where it is left unchanged (R187). -/
def levelByte (v : Option (Fin 8)) : Byte := (v.map fun v => BitVec.ofNat 8 v.val).getD 0xFF

theorem levelAt_levelByte {ps : List Byte} {k : Nat} {v : Option (Fin 8)} (h : byteAt ps k = levelByte v) :
    levelAt ps k = some v := by
  unfold levelAt u8At
  rw [h]
  cases v with
  | none => rfl
  | some v =>
    obtain ⟨v, lt⟩ := v
    interval_cases v <;> rfl

theorem byteAt_levels (ls : Fin 14 → Option (Fin 8)) (more : List Byte) (k : Fin 14) :
    byteAt ((List.ofFn fun k => levelByte (ls k)) ++ more) k = levelByte (ls k) := by
  unfold byteAt
  rw [List.getD_append _ _ _ _ (by simp), List.getD_eq_getElem _ _ (by simp), List.getElem_ofFn]

/-- SET CAUSE LEVELS reads back the levels given. -/
theorem parseCauseLevels_levels {p : Port} {ls : Fin 14 → Option (Fin 8)} (own : ∀ k : Fin 14, causeCount p ≤ k.val → ls k = none)
    (more : List Byte) :
    parseCauseLevels p ((List.ofFn fun k => levelByte (ls k)) ++ more) = some (List.ofFn ls) := by
  have read : (List.range 14).mapM (levelAt ((List.ofFn fun k => levelByte (ls k)) ++ more)) = some (List.ofFn ls) := by
    rw [mapM_some (g := fun k => ls (Fin.ofNat 14 k)), List.ofFn_eq_map]
    · rfl
    · intro k hk
      have lt := List.mem_range.mp hk
      have at_ := byteAt_levels ls more ⟨k, lt⟩
      rw [levelAt_levelByte at_, show Fin.ofNat 14 k = ⟨k, lt⟩ from Fin.ext (Nat.mod_eq_of_lt lt)]
  unfold parseCauseLevels
  rw [read, Option.bind_some, if_pos]
  rw [List.all_eq_true]
  intro v hv
  obtain ⟨i, lt, rfl⟩ := List.mem_drop_iff_getElem.mp hv
  rw [List.getElem_ofFn, own _ (Nat.le_add_right ..)]
  rfl

theorem withLevels_ofFn (a : Attn) (ls : Fin 14 → Option (Fin 8)) :
    a.withLevels (List.ofFn ls) = { a with levels := Vector.ofFn fun k => (ls k).getD a.levels[k.val] } := by
  unfold Attn.withLevels
  congr 2
  funext k
  rw [List.getElem?_ofFn, dif_pos k.isLt]
  rfl

theorem exec_setCauseLevels {s : State} {p : Port} (h : s.takes p) {ls : Fin 14 → Option (Fin 8)} (more : List Byte)
    (own : ∀ k : Fin 14, causeCount p ≤ k.val → ls k = none) :
    exec (.setCauseLevels p ((List.ofFn fun k => levelByte (ls k)) ++ more)) s = .next
      ((s.modAttn p fun a => { a with levels := Vector.ofFn fun k => (ls k).getD a.levels[k.val] }).done p .setCauseLevels []) := by
  change Host.Outcome.next (takeCommand ..) = _
  rw [takeCommand_accepted h (by simp [Command.needed]) rfl (parseCauseLevels_levels own more)
    (t := s.modAttn p fun a => { a with levels := Vector.ofFn fun k => (ls k).getD a.levels[k.val] })]
  unfold setCauseLevels
  simp only [withLevels_ofFn]
  rfl

theorem portAt_code (q : Port) (value : Byte) (more : List Byte) : portAt (u8 q.code ++ [value] ++ more) 0 = some q := by
  cases q <;> rfl

theorem exec_peerNotice {s : State} {p : Port} (h : s.takes p) (q : Port) (value : Byte) (more : List Byte) :
    exec (.peerNotice p (u8 q.code ++ [value] ++ more)) s = .next
      ((raise q .peerNotice (s.modAttn q fun a =>
        { a with noticeValue := value, noticeSender := some p, noticeReplaced := s.isPending q .peerNotice })).done p
          .peerNotice []) := by
  have read : parsePeerNotice (u8 q.code ++ [value] ++ more) = some (q, value) := by
    unfold parsePeerNotice
    rw [portAt_code]
    rfl
  exact congrArg _ (takeCommand_accepted h (by simp [Command.needed]) rfl read rfl)

/-! ### VECTOR (R186) -/

/-- What the best of some causes is, when they have been gone through in increasing order (R186). -/
def Attn.bestOf (a : Attn) (seen : List (Fin 14)) : Option (Fin 14) → Prop
  | none => ∀ j ∈ seen, a.asserts j = false
  | some k => k ∈ seen ∧ a.asserts k = true ∧ ∀ j ∈ seen, a.asserts j = true →
      a.levels[j.val] < a.levels[k.val] ∨ (a.levels[j.val] = a.levels[k.val] ∧ k ≤ j)

theorem bestOf_better (a : Attn) {seen : List (Fin 14)} {best : Option (Fin 14)} {x : Fin 14} (later : ∀ j ∈ seen, j < x)
    (h : a.bestOf seen best) : a.bestOf (seen ++ [x]) (a.better best x) := by
  unfold Attn.better
  split
  · next asserts =>
    cases best with
    | none =>
      refine ⟨List.mem_append_right _ List.mem_cons_self, asserts, fun j hj pending => ?_⟩
      rcases List.mem_append.mp hj with hj | hj
      · rw [h j hj] at pending
        cases pending
      · rw [List.mem_singleton.mp hj]
        exact .inr ⟨rfl, le_rfl⟩
    | some b =>
      obtain ⟨mem, pendingB, most⟩ := h
      dsimp only
      split
      · next higher =>
        refine ⟨List.mem_append_right _ List.mem_cons_self, asserts, fun j hj pending => ?_⟩
        rcases List.mem_append.mp hj with hj | hj
        · left
          rcases most j hj pending with less | ⟨same, -⟩
          · exact less.trans higher
          · exact same ▸ higher
        · rw [List.mem_singleton.mp hj]
          exact .inr ⟨rfl, le_rfl⟩
      · next notHigher =>
        refine ⟨List.mem_append_left _ mem, pendingB, fun j hj pending => ?_⟩
        rcases List.mem_append.mp hj with hj | hj
        · exact most j hj pending
        · rw [List.mem_singleton.mp hj]
          rcases lt_or_eq_of_le (not_lt.mp notHigher) with less | same
          · exact .inl less
          · exact .inr ⟨same, (later b mem).le⟩
  · next quiet =>
    have quiet : a.asserts x = false := Bool.not_eq_true _ ▸ quiet
    cases best with
    | none =>
      intro j hj
      rcases List.mem_append.mp hj with hj | hj
      · exact h j hj
      · rw [List.mem_singleton.mp hj, quiet]
    | some b =>
      obtain ⟨mem, pendingB, most⟩ := h
      refine ⟨List.mem_append_left _ mem, pendingB, fun j hj pending => ?_⟩
      rcases List.mem_append.mp hj with hj | hj
      · exact most j hj pending
      · rw [List.mem_singleton.mp hj, quiet] at pending
        cases pending

theorem bestOf_foldl (a : Attn) (xs : List (Fin 14)) (increasing : xs.Pairwise (· < ·)) :
    a.bestOf xs (xs.foldl a.better none) := by
  induction xs using List.reverseRecOn with
  | nil => exact fun _ h => nomatch h
  | append_singleton xs x ih =>
    obtain ⟨before, -, later⟩ := List.pairwise_append.mp increasing
    rw [List.foldl_append]
    exact bestOf_better a (fun j hj => later j hj x List.mem_cons_self) (ih before)

theorem bestOf_selected (a : Attn) : a.bestOf (List.finRange 14) a.selected := bestOf_foldl a _ (by decide)

theorem asserts_of_selected_none {a : Attn} (h : a.selected = none) (k : Fin 14) : a.asserts k = false := by
  have best := bestOf_selected a
  rw [h] at best
  exact best k (List.mem_finRange k)

theorem best_of_selected {a : Attn} {k : Fin 14} (h : a.selected = some k) : a.asserts k = true ∧ ∀ j : Fin 14,
    a.asserts j = true → a.levels[j.val] < a.levels[k.val] ∨ (a.levels[j.val] = a.levels[k.val] ∧ k ≤ j) := by
  have best := bestOf_selected a
  rw [h] at best
  obtain ⟨-, asserts, most⟩ := best
  exact ⟨asserts, fun j => most j (List.mem_finRange j)⟩

theorem isPeerNotice_eq (p : Port) (k : Fin 14) : isPeerNotice p k = decide (k.val = if p = .service then 13 else 5) := by
  unfold isPeerNotice
  cases p <;> revert k <;> decide

theorem exec_vector {s : State} {p : Port} (h : s.takes p) (ps : List Byte) :
    exec (.vector p ps) s = .next (vector p (s.begun p .vector)) :=
  congrArg Host.Outcome.next (takeCommand_begun (parse := parseNothing) (owner := fun _ t => (vector p t, none)) h
    (Nat.not_lt_zero _) rfl rfl rfl)

/-- The attention state and the port that VECTOR leaves. -/
theorem att_vector (p : Port) (s : State) :
    (vector p s).att p = ({ s.att p with pending := (s.att p).pending.set 0 true } : Attn).vectored p := by
  unfold vector
  rw [raise_commandDone]
  change (((s.modAttn p _).modAttn p _).att p) = _
  rw [att_modAttn_same, att_modAttn_same]

theorem port_vector (p : Port) (s : State) :
    (vector p s).port p = { s.port p with
      phase := .done
      result := some ⟨some 0x70, .ok,
        ({ s.att p with pending := (s.att p).pending.set 0 true } : Attn).vectorData p⟩ } := by
  unfold vector
  rw [raise_commandDone]
  dsimp only
  rw [att_modAttn_same, placeResult, port_modPort_same]
  rfl

theorem vectored_none {a : Attn} (h : a.selected = none) (p : Port) : a.vectored p = a := by
  simp [Attn.vectored, h]

theorem vectored_some {a : Attn} {k : Fin 14} (h : a.selected = some k) (p : Port) : a.vectored p = a.take p k := by
  simp [Attn.vectored, h]

theorem vectorData_none {a : Attn} (h : a.selected = none) (p : Port) : a.vectorData p = [0xFF, 0xFF, 0, 0] := by
  simp [Attn.vectorData, h]

/-- The byte of the port that issued a notice. -/
theorem senderByte (sender : Option Port) : uEnum? (sender.map Port.code) =
    [match sender with
      | none => 0xFF
      | some .front => 0
      | some .charge => 1
      | some .service => 2] := by
  cases sender with
  | none => rfl
  | some q => cases q <;> rfl

theorem vectorData_some {a : Attn} {k : Fin 14} (h : a.selected = some k) (p : Port) : a.vectorData p =
    [BitVec.ofNat 8 k.val, BitVec.ofNat 8 a.levels[k.val].val] ++ u16 (a.take p k).remaining ++
      if isPeerNotice p k then a.noticeValue :: uEnum? (a.noticeSender.map Port.code) ++ [if a.noticeReplaced then 1 else 0]
      else [] := by
  cases e : a.noticeReplaced <;> simp [Attn.vectorData, h, u8, uFlag, e]

/-- VECTOR leaves every other port, and every other block, as it stands. -/
theorem vector_others (p : Port) (s : State) :
    vector p s = { s with ports := (vector p s).ports, attn := (vector p s).attn } ∧
      ∀ q : Port, q ≠ p → (vector p s).port q = s.port q ∧ (vector p s).att q = s.att q := by
  refine ⟨rfl, fun q ne => ⟨port_modPort_ne _ _ ne.symm, ?_⟩⟩
  change (((raise p .commandDone s).modAttn p _).att q) = _
  rw [raise_commandDone, att_modAttn_ne _ _ ne.symm, att_modAttn_ne _ _ ne.symm]

end Sys2Proof.Machine

namespace Sys2Proof.Settled

open Sys2Proof.Machine

/-- Settles O5. -/
theorem portChecks : Obligations.PortChecks := by
  refine ⟨fun p s h => ⟨fun c ps short => ?_, fun c ps long refused => ?_, exec_unknownCommand_taken h rfl,
    fun code unknown => exec_unknownCommand_taken h unknown⟩, fun p s h => ?_⟩
  · obtain ⟨_, _, _, taken⟩ := exec_commandEvent p c
    rw [taken, takeCommand_truncated h short]
  · obtain ⟨_, _, _, taken⟩ := exec_commandEvent p c
    rw [taken, takeCommand_notPermitted h (Nat.not_lt.mpr long) refused]
  · have deaf := listening_false h
    refine ⟨fun c ps => ?_, fun code => ?_, ?_, fun k => ?_, fun k => ?_⟩
    · obtain ⟨_, _, _, taken⟩ := exec_commandEvent p c
      rw [taken, takeCommand_deaf deaf]
    · exact congrArg Host.Outcome.next (if_pos (.inl deaf))
    · change Host.Outcome.next (if s.listening p && _ then _ else _) = _
      simp [deaf]
    · exact congrArg Host.Outcome.next (if_pos deaf)
    · exact congrArg Host.Outcome.next (if_pos deaf)

/-- Settles O7: in each case the command's parser reads no parameters. -/
theorem fieldRanges : Obligations.FieldRanges := by
  intro p s c ps h perm long out
  rcases out with ⟨out, mem⟩ | ⟨out, mem⟩ | ⟨out, mem⟩ | ⟨out, mem⟩ | ⟨out, mem⟩ | ⟨out, mem⟩ | ⟨out, kind⟩ | ⟨out, rfl, given⟩ |
    ⟨out, given, rfl⟩ | ⟨out, rfl⟩ | ⟨out, rfl⟩ | ⟨out, rfl⟩ | ⟨out, rfl⟩ | ⟨out, rfl⟩ | ⟨out, rfl⟩ | ⟨out, rfl⟩ | ⟨out, mem⟩ |
    ⟨out, rfl⟩ | ⟨out, mem⟩ | ⟨out, rfl⟩ | ⟨out, rfl⟩ | ⟨out, rfl⟩ | ⟨out, rfl⟩ | ⟨out, rfl⟩ | ⟨out, rfl⟩
  · exact badParam_firstRoom h perm long out mem
  · exact badParam_firstOf16 h perm long out mem
  · exact badParam_firstOf4 h perm long out mem
  · exact badParam_emptySet h perm long out mem
  · exact badParam_firstAddr h perm long out mem
  · exact badParam_secondRoom h perm long out mem
  · exact badParam_thirdNode h perm long out kind
  · exact exec_badParam h perm long (parseWriteRoom_minibar_none out given)
  · exact exec_badParam h perm long (parseCheckIn_folio_none out given)
  · exact exec_badParam h perm long (parseSetMakeup_flag_none out)
  · exact exec_badParam h perm long (parseGuestIssue_none out)
  · exact exec_badParam h perm long (parseReadKey_none out)
  · exact exec_badParam h perm long (parseProfile_none out)
  · exact exec_badParam h perm long (parseWritePrices_none out)
  · exact exec_badParam h perm long (parseReadWrapped_none out)
  · exact exec_badParam h perm long (parseWriteLamps_none out)
  · exact badParam_noCount h perm long out mem
  · exact exec_badParam h perm long (countAt_none (.inr out))
  · exact badParam_above8 h perm long out mem
  · exact exec_badParam h perm long (countAt_none (.inr out))
  · exact exec_badParam h perm long (parseBlinkMode_none out)
  · exact exec_badParam h perm long (flagAt_none out)
  · exact exec_badParam h perm long (by rw [parsePeerNotice, portAt_none out, Option.map_none])
  · exact exec_badParam h perm long (parseWriteEmergency_none out)
  · exact exec_badParam h perm long (parseCauseLevels_none out)

/-- Settles O8. -/
theorem statusAndResultFrames : Obligations.StatusAndResultFrames :=
  ⟨fun _ k _ run free => exec_statusFrame_listening (listening_of_inRun run free) k,
    fun _ k _ run free => ⟨exec_resultFrame_listening (listening_of_inRun run free) k, fun _ => resultBytes_some,
      resultBytes_none⟩⟩

/-- Settles O9. -/
theorem portReset : Obligations.PortReset := by
  refine fun p s => ⟨rfl, fun run => (exec_portReset_inRun run p).trans ?_⟩
  exact congrArg (fun f => Host.Outcome.next ((s.modPort p f).modAttn p fun a => { a with levels := defaultLevels p }))
    (funext released_eq)

/-- Settles O10. -/
theorem causesAndLevels : Obligations.CausesAndLevels :=
  ⟨fun _ _ s => ⟨fun _ number => ⟨raise_numbered number s, withdraw_numbered number s⟩,
      fun has => ⟨isPending_raise has s, isPending_withdraw has s⟩⟩,
    fun _ _ more _ h own => exec_setCauseLevels h more own, fun _ q value more _ h => exec_peerNotice h q value more⟩

/-- Settles O11: the selection is the best of all fourteen causes (`bestOf_selected`). -/
theorem vector : Obligations.Vector := by
  intro p ps s h
  obtain ⟨rest, others⟩ := vector_others p (s.begun p .vector)
  have att := att_vector p (s.begun p .vector)
  have port := port_vector p (s.begun p .vector)
  refine ⟨_, exec_vector h ps, rest, fun q ne => ⟨?_, (others q ne).2⟩, by rw [port], by rw [port, State.begun, port_modPort_same],
    ?_⟩
  · rw [(others q ne).1, port_begun_ne s _ ne.symm]
  · change _ = Attn.vectored { s.att p with pending := (s.att p).pending.set 0 true } p at att
    have result := congrArg PortRec.result port
    dsimp only at result ⊢
    split
    · next none =>
      rw [vectored_none none] at att
      exact ⟨asserts_of_selected_none none, att, result.trans (by rw [vectorData_none]; exact none)⟩
    · next k some =>
      rw [vectored_some some] at att
      obtain ⟨asserts, most⟩ := best_of_selected some
      refine ⟨asserts, most, ?_, ?_⟩
      · rw [att, Attn.take, isPeerNotice_eq]
      · refine result.trans ?_
        rw [att, vectorData_some, senderByte, isPeerNotice_eq] <;> first | rfl | exact some

end Sys2Proof.Settled
end

section
/-! The statements of "Reading". -/

/- The joined text is checked with bounded memory: proofs are elaborated one after another, not each in a thread of its own. -/
set_option Elab.async false

namespace Sys2Proof.Machine

/-! ### A command that only reads -/

/-- A command whose owner answers OK with what stands and changes nothing. -/
theorem exec_read {α : Type} {c : Command} {p : Port} {ps : List Byte} {parse : List Byte → Option α} {data : α → State → List Byte}
    {s : State} (h : s.takes p) {a : α} (long : ¬ ps.length < c.needed ps) (d : c.permitted p = true) (e : parse ps = some a) :
    (.next (takeCommand c p ps parse (fun a t => accept (data a t) t) s) : Host.Outcome State Fault Refusal) =
      .next (s.done p c (data a (s.begun p c))) :=
  congrArg _ (takeCommand_accepted h long d e rfl)

/-- Parameters that open with a field of n bytes are not truncated for a command that needs no more. -/
theorem not_truncated {head more : List Byte} {n : Nat} (h : n ≤ head.length) : ¬ (head ++ more).length < n := by
  rw [List.length_append]
  omega

theorem arbitrated_next {α : Type} {c : Command} {p : Port} {ps : List Byte} {parse : List Byte → Option α}
    {owner : α → State → Owned} {s : State} (h : s.takes p) {a : α} (long : ¬ ps.length < c.needed ps) (d : c.permitted p = true)
    (e : parse ps = some a) :
    (.next (takeCommand c p ps parse (arbitrated owner) s) : Host.Outcome State Fault Refusal) =
      .next (takeCommand c p ps parse owner (serveWaiting s)) :=
  congrArg _ (takeCommand_arbitrated h long d e)

/-! ### READ KEY (R35) -/

theorem parseReadKey_index (k : KeyIx) (more : List Byte) :
    parseReadKey (u8 1 ++ (u16 0 ++ u32 0) ++ u16 k.val ++ more) = some (.inr k) := by
  have index : u16At (u8 1 ++ (u16 0 ++ u32 0) ++ u16 k.val ++ more) 7 = k.val := by
    rw [List.append_assoc]
    exact u16At_u16 more (by omega) (u8 1 ++ (u16 0 ++ u32 0)) 7 rfl
  have byIndex : flagAt (u8 1 ++ (u16 0 ++ u32 0) ++ u16 k.val ++ more) 0 = some true := rfl
  unfold parseReadKey
  rw [byIndex, index, toFin?_val]
  rfl

theorem parseReadKey_card (c : CardId) (more : List Byte) : parseReadKey (u8 0 ++ u64 c ++ more) = some (.inl c) := by
  have card : cardAt (u8 0 ++ u64 c ++ more) 1 = c := by
    rw [List.append_assoc]
    exact cardAt_u64 more c (u8 0) 1 rfl
  have byCard : flagAt (u8 0 ++ u64 c ++ more) 0 = some false := rfl
  unfold parseReadKey
  rw [byCard, card]
  rfl

theorem readKey_index (k : KeyIx) (s : State) : readKey (.inr k) s = accept (s.keyRecord k) s := rfl

theorem readKey_card {c : CardId} {k : KeyIx} {e : KeyEntry} {s : State} (h : s.findCard c = some (k, e)) :
    readKey (.inl c) s = accept (s.keyRecord k) s := by
  simp [readKey, h]

theorem readKey_noCard {c : CardId} {s : State} (h : s.findCard c = none) : readKey (.inl c) s = refuse .noEntry s := by
  simp [readKey, h]

/-! ### The journal (R153 to R155) -/

theorem oldest_mem_or {rs : List Record} : ∀ {best : Option Record} {r : Record},
    rs.foldl (fun best r => match best with
      | none => some r
      | some b => if seqBelow r.seq b.seq then some r else some b) best = some r → best = some r ∨ r ∈ rs := by
  induction rs with
  | nil => exact fun h => .inl h
  | cons x xs ih =>
    intro best r h
    rcases ih h with e | mem
    · cases best with
      | none =>
        cases e
        exact .inr List.mem_cons_self
      | some b =>
        dsimp only at e
        split at e
        · cases e
          exact .inr List.mem_cons_self
        · exact .inl e
    · exact .inr (List.mem_cons_of_mem x mem)

/-- The oldest of some records is one of them. -/
theorem mem_of_oldest {rs : List Record} {r : Record} (h : oldest rs = some r) : r ∈ rs :=
  (oldest_mem_or h).resolve_left nofun

theorem readFrom_succ (rs : List Record) (n : Nat) (c : Seq) : readFrom rs (n + 1) c =
    match oldest (rs.filter fun r => seqAtOrBelow c r.seq) with
    | some r => r :: readFrom rs n (r.seq + 1)
    | none => [] := rfl

theorem length_readFrom_le (rs : List Record) : ∀ (n : Nat) (c : Seq), (readFrom rs n c).length ≤ n
  | 0, _ => le_rfl
  | n + 1, c => by
    rw [readFrom_succ]
    split
    · exact Nat.succ_le_succ (length_readFrom_le rs n _)
    · exact Nat.zero_le _

theorem mem_of_mem_readFrom (rs : List Record) : ∀ (n : Nat) (c : Seq), ∀ r ∈ readFrom rs n c, r ∈ rs
  | 0, _, _, h => nomatch h
  | n + 1, c, r, h => by
    rw [readFrom_succ] at h
    split at h
    · next x first =>
      rcases List.mem_cons.mp h with rfl | h
      · exact List.mem_of_mem_filter (mem_of_oldest first)
      · exact mem_of_mem_readFrom rs n _ r h
    · cases h

/-- The first record read stands at or above the cursor. -/
theorem head_readFrom {rs : List Record} {n : Nat} {c : Seq} {r : Record} (h : (readFrom rs n c).head? = some r) :
    seqAtOrBelow c r.seq = true := by
  cases n with
  | zero => cases h
  | succ n =>
    rw [readFrom_succ] at h
    split at h
    · next x first =>
      cases h
      exact (List.mem_filter.mp (mem_of_oldest first)).2
    · cases h

theorem readFrom_nil {rs : List Record} {c : Seq} (h : ∀ r ∈ rs, seqAtOrBelow c r.seq = false) (n : Nat) :
    readFrom rs n c = [] := by
  cases n with
  | zero => rfl
  | succ n =>
    have none : rs.filter (fun r => seqAtOrBelow c r.seq) = [] :=
      List.filter_eq_nil_iff.mpr fun r hr => by rw [h r hr]; exact Bool.false_ne_true
    rw [readFrom_succ, none]
    rfl

theorem parseReadWrapped_fields (k : SegIx) (start : Fin 512) {n : Nat} (low : 1 ≤ n) (high : n ≤ 16) (more : List Byte) :
    parseReadWrapped (u8 k.val ++ u16 start.val ++ u8 n ++ more) = some (k, start, n) := by
  have segment : u8At (u8 k.val ++ u16 start.val ++ u8 n ++ more) 0 = k.val := by
    rw [List.append_assoc, List.append_assoc]
    exact u8At_u8 _ (by omega) [] 0 rfl
  have slot : u16At (u8 k.val ++ u16 start.val ++ u8 n ++ more) 1 = start.val := by
    rw [List.append_assoc, List.append_assoc]
    exact u16At_u16 _ (by omega) (u8 k.val) 1 rfl
  have count : u8At (u8 k.val ++ u16 start.val ++ u8 n ++ more) 3 = n := by
    rw [List.append_assoc]
    exact u8At_u8 more (by omega) (u8 k.val ++ u16 start.val) 3 rfl
  unfold parseReadWrapped countAt
  rw [segment, slot, count, toFin?_val, toFin?_val, if_pos ⟨low, high⟩]
  rfl

theorem exec_readRecords {s : State} (h : s.takes .service) {n : Nat} (low : 1 ≤ n) (high : n ≤ 16) (more : List Byte)
    {rs : List Record} (e : rs = readFrom s.journal.committed n s.journal.cursor) :
    exec (.readRecords .service (u8 n ++ more)) s = .next
      ({ s with journal := { s.journal with
          cursor := (rs.getLast?.map fun r : Record => r.seq + 1).getD s.journal.cursor, cursorLost := false } }.answered .service
        (some 0x56) ⟨if s.journal.cursorLost then .cursorLost else .ok, (rs.map Record.bytes).flatten⟩) := by
  subst e
  refine congrArg Host.Outcome.next (takeCommand_coded (c := .readRecords) (parse := fun ps => countAt 1 16 ps 0)
    (owner := readRecords) h (not_truncated (by rfl)) rfl (countAt_u8 more low high (by decide)) ?_)
  have standing : (s.begun .service .readRecords).journal = s.journal := rfl
  unfold readRecords
  rw [standing]
  dsimp only
  cases (readFrom s.journal.committed n s.journal.cursor).getLast? <;> rfl

theorem exec_readSegmentWrapped {p : Port} {s : State} (h : s.takes p) (k : SegIx) (start : Fin 512) {n : Nat} (low : 1 ≤ n)
    (high : n ≤ 16) (more : List Byte) :
    exec (.readSegmentWrapped p (u8 k.val ++ u16 start.val ++ u8 n ++ more)) s = .next (s.done p .readSegmentWrapped
      (((List.range n).map fun i => ((s.segment k).shown (start.val + i)).bytes).flatten
        ++ u8 (s.segment k).state.code ++ u8 (s.segment k).hold.code)) :=
  congrArg Host.Outcome.next (takeCommand_accepted (c := .readSegmentWrapped) (parse := parseReadWrapped) (owner := readWrapped) h
    (not_truncated (by rfl)) rfl (parseReadWrapped_fields k start low high more) rfl)

theorem exec_journalStatus {s : State} (h : s.takes .service) (more : List Byte) :
    exec (.journalStatus .service more) s = .next
      ({ s with journal := { s.journal with noticeArmed := true } }.done .service .journalStatus (journalBytes s.journal)) :=
  congrArg Host.Outcome.next (takeCommand_accepted (c := .journalStatus) (parse := parseNothing) (owner := journalStatus)
    (data := journalBytes s.journal) (t := { s with journal := { s.journal with noticeArmed := true } }) h (Nat.not_lt_zero _)
    rfl rfl rfl)

end Sys2Proof.Machine

namespace Sys2Proof.Settled

open Sys2Proof.Machine

/-- Settles O12. -/
theorem readCommands : Obligations.ReadCommands := by
  refine ⟨fun p more s h => ⟨fun r => ?_, ?_, fun n => ?_, ?_⟩, fun p more s h => ⟨fun f ne => ?_, fun k => ?_, fun n low high e => ?_,
    ?_, fun r => ?_, ?_, ?_, fun k e => ?_⟩⟩
  · exact exec_read h (not_truncated (by rfl)) rfl (parseRoom_u16 more r)
  · have v := serveWaiting_takes h
    have served {ps : List Byte} {a : CardId ⊕ KeyIx} (long : ¬ ps.length < Command.readKey.needed ps)
        (e : parseReadKey ps = some a) :
        exec (.readKey p ps) s = .next (takeCommand .readKey p ps parseReadKey readKey (serveWaiting s)) :=
      arbitrated_next h long rfl e
    refine ⟨fun k => ?_, fun c k e found => ?_, fun c none => ?_, ?_⟩
    · exact (served (not_truncated (by rfl)) (parseReadKey_index k more)).trans (congrArg _
        (takeCommand_accepted v (not_truncated (by rfl)) rfl (parseReadKey_index k more) (readKey_index k _)))
    · exact (served (not_truncated (by rfl)) (parseReadKey_card c more)).trans (congrArg _
        (takeCommand_accepted v (not_truncated (by rfl)) rfl (parseReadKey_card c more) (readKey_card found)))
    · exact (served (not_truncated (by rfl)) (parseReadKey_card c more)).trans (congrArg _
        (takeCommand_refused v (not_truncated (by rfl)) rfl (parseReadKey_card c more) (readKey_noCard none)))
    · exact (arbitrated_next (c := .keyCounts) (parse := parseNothing) (owner := keyCounts) h (Nat.not_lt_zero _) rfl rfl).trans
        (congrArg _ (takeCommand_accepted (c := .keyCounts) (parse := parseNothing) (owner := keyCounts) v (Nat.not_lt_zero _)
          rfl rfl rfl))
  · exact exec_read h (not_truncated (by rfl)) rfl (parseNode_uNode more n)
  · rintro rfl
    exact ⟨fun k => exec_read h (not_truncated (by rfl)) rfl (parseProfileNumber_u8 more k),
      exec_read h (Nat.not_lt_zero _) rfl rfl, fun l => exec_read h (not_truncated (by rfl)) rfl (parseLine_u8 more l)⟩
  · exact exec_read h (not_truncated (by rfl)) (by cases p <;> first | rfl | exact absurd rfl ne) (parseFolio_u8 more f)
  · exact exec_read h (not_truncated (by rfl)) rfl (parseClass_u8 more k)
  · subst e
    exact exec_read h (not_truncated (by rfl)) rfl (countAt_u8 more low high (by decide))
  · exact exec_read h (Nat.not_lt_zero _) rfl rfl
  · exact exec_read h (not_truncated (by rfl)) rfl (parseRoom_u16 more r)
  · exact exec_read h (Nat.not_lt_zero _) rfl rfl
  · exact exec_read h (Nat.not_lt_zero _) rfl rfl
  · subst e
    exact exec_read h (not_truncated (by rfl)) rfl (parseSlot_u8 more k)

/-- Settles O13: `readFrom` is gone through record by record, and the other two commands read the journal as it stands. -/
theorem readJournal : Obligations.ReadJournal := by
  intro p more s h
  refine ⟨fun k start n low high => ?_, ?_⟩
  · exact exec_readSegmentWrapped h k start low high more
  · rintro rfl
    refine ⟨exec_journalStatus h more, fun n low high => ⟨_, rfl, length_readFrom_le .., mem_of_mem_readFrom _ _ _, fun _ => head_readFrom,
      fun below => readFrom_nil below n, exec_readRecords h low high more rfl⟩⟩

end Sys2Proof.Settled
end

section
/-! The statements of "Rooms and stays" (chapter 1). -/

/- The joined text is checked with bounded memory: proofs are elaborated one after another, not each in a thread of its own. -/
set_option Elab.async false

namespace Sys2Proof.Machine

/-! ### Rules for a command that claims the key entries (R45) -/

section
variable {α : Type} {c : Command} {p : Port} {ps : List Byte} {parse : List Byte → Option α} {owner : α → State → Owned} {w : State}

/-- A command that its owner takes once the waiting claims are served. -/
theorem arbitrated_accepted (h : w.takes p) (long : ¬ ps.length < c.needed ps) (d : c.permitted p = true) {a : α}
    (e : parse ps = some a) {data : List Byte} {t : State} (o : owner a ((serveWaiting w).begun p c) = accept data (t.begun p c)) :
    (.next (takeCommand c p ps parse (arbitrated owner) w) : Host.Outcome State Fault Refusal) = .next (t.done p c data) :=
  (arbitrated_next h long d e).trans (congrArg _ (takeCommand_accepted (serveWaiting_takes h) long d e o))

/-- A command that its owner refuses once the waiting claims are served. -/
theorem arbitrated_refused (h : w.takes p) (long : ¬ ps.length < c.needed ps) (d : c.permitted p = true) {a : α}
    (e : parse ps = some a) {code : ResultCode}
    (o : owner a ((serveWaiting w).begun p c) = refuse code ((serveWaiting w).begun p c)) :
    (.next (takeCommand c p ps parse (arbitrated owner) w) : Host.Outcome State Fault Refusal) =
      .next ((serveWaiting w).refused p c code) :=
  (arbitrated_next h long d e).trans (congrArg _ (takeCommand_refused (serveWaiting_takes h) long d e o))

/-- A command that its owner takes and answers with another code once the waiting claims are served. -/
theorem arbitrated_coded (h : w.takes p) (long : ¬ ps.length < c.needed ps) (d : c.permitted p = true) {a : α}
    (e : parse ps = some a) {r : Reply} {t : State} (o : owner a ((serveWaiting w).begun p c) = (t.begun p c, some r)) :
    (.next (takeCommand c p ps parse (arbitrated owner) w) : Host.Outcome State Fault Refusal) =
      .next (t.answered p (some c.code) r) :=
  (arbitrated_next h long d e).trans (congrArg _ (takeCommand_coded (serveWaiting_takes h) long d e o))

end

theorem room_offer (o : Offer) (s : State) (r : RoomIx) : (offer o s).room r = s.room r :=
  congrArg (fun v => tget v r) (offer_rooms o s)

theorem modRoom_modRoom (s : State) (r : RoomIx) (f g : Room → Room) :
    (s.modRoom r f).modRoom r g = s.modRoom r fun rm => g (f rm) :=
  congrArg (fun v => { s with rooms := v }) (tmod_tmod s.rooms r f g)

/-! ### The parameters read back -/

section
variable (more : List Byte)

theorem folioOptAt_u16? (f : Option FolioIx) (before : List Byte) (k : Nat) (hk : before.length = k) :
    folioOptAt (before ++ (u16? (f.map Fin.val) ++ more)) k = some f := by
  unfold folioOptAt u16?
  cases f with
  | none => rw [u16At_u16 more (by decide) before k hk]; rfl
  | some f =>
    have below : f.val < 256 := f.isLt
    rw [u16At_u16 more (by simp; omega) before k hk, if_neg (by simp; omega)]
    exact congrArg (Option.map some) (toFin?_val f)

theorem nodeOptAt_uNode? (n : Option NodeAddr) (before : List Byte) (k : Nat) (hk : before.length = k) :
    nodeOptAt (before ++ (uNode? n ++ more)) k = some n := by
  unfold nodeOptAt uNode?
  cases n with
  | none => 
    have given : u16At (before ++ ([0xFF, 0xFF] ++ more)) k = 0xFFFF := u16At_u16 more (n := 0xFFFF) (by decide) before k hk
    rw [if_pos given]
  | some n =>
    have given : u16At (before ++ (uNode n ++ more)) k ≠ 0xFFFF := by
      subst hk
      obtain ⟨l, a⟩ := n
      simp [u16At, u8At, byteAt, uNode, List.getD_eq_getElem?_getD]
      omega
    dsimp only
    rw [if_neg given, nodeAt_uNode more n before k hk]
    rfl

theorem parseCheckIn_fields (r : RoomIx) (f : Option FolioIx) (note : BitVec 16) :
    parseCheckIn (u16 r.val ++ u16? (f.map Fin.val) ++ u16 note.toNat ++ more) = some (r, f, note) := by
  have room : roomAt (u16 r.val ++ u16? (f.map Fin.val) ++ u16 note.toNat ++ more) 0 = some r := by
    simpa only [List.append_assoc] using roomAt_head _ r
  have folio : folioOptAt (u16 r.val ++ u16? (f.map Fin.val) ++ u16 note.toNat ++ more) 2 = some f := by
    simpa only [List.append_assoc] using folioOptAt_u16? (u16 note.toNat ++ more) f (u16 r.val) 2 rfl
  have word : word16At (u16 r.val ++ u16? (f.map Fin.val) ++ u16 note.toNat ++ more) 4 = note := by
    simpa only [List.append_assoc] using word16At_u16 more note (u16 r.val ++ u16? (f.map Fin.val)) 4 rfl
  unfold parseCheckIn
  rw [room, folio, word]
  rfl

theorem parseMoveStay_fields (a b : RoomIx) : parseMoveStay (u16 a.val ++ u16 b.val ++ more) = some (a, b) := by
  have source : roomAt (u16 a.val ++ u16 b.val ++ more) 0 = some a := by
    simpa only [List.append_assoc] using roomAt_head _ a
  have target : roomAt (u16 a.val ++ u16 b.val ++ more) 2 = some b := by
    simpa only [List.append_assoc] using roomAt_u16 more b (u16 a.val) 2 rfl
  unfold parseMoveStay
  rw [source, target]
  rfl

theorem parseBlockRoom_fields (r : RoomIx) (why : Byte) : parseBlockRoom (u16 r.val ++ [why] ++ more) = some (r, why) := by
  have room : roomAt (u16 r.val ++ [why] ++ more) 0 = some r := by
    simpa only [List.append_assoc] using roomAt_head _ r
  unfold parseBlockRoom
  rw [room]
  rfl

theorem parseSetMakeup_fields (r : RoomIx) (v : Bool) : parseSetMakeup (u16 r.val ++ uFlag v ++ more) = some (r, v) := by
  have room : roomAt (u16 r.val ++ uFlag v ++ more) 0 = some r := by
    simpa only [List.append_assoc] using roomAt_head _ r
  have flag : flagAt (u16 r.val ++ uFlag v ++ more) 2 = some v := by
    simpa only [List.append_assoc] using flagAt_uFlag more v (u16 r.val) 2 rfl
  unfold parseSetMakeup
  rw [room, flag]
  rfl

theorem parseWriteRoom_fields (r : RoomIx) (label : BitVec 16) (door bar : Option NodeAddr) :
    parseWriteRoom (u16 r.val ++ u16 label.toNat ++ uNode? door ++ uNode? bar ++ more) = some (r, label, door, bar) := by
  have room : roomAt (u16 r.val ++ u16 label.toNat ++ uNode? door ++ uNode? bar ++ more) 0 = some r := by
    simpa only [List.append_assoc] using roomAt_head _ r
  have word : word16At (u16 r.val ++ u16 label.toNat ++ uNode? door ++ uNode? bar ++ more) 2 = label := by
    simpa only [List.append_assoc] using word16At_u16 (uNode? door ++ (uNode? bar ++ more)) label (u16 r.val) 2 rfl
  have doorAt : nodeOptAt (u16 r.val ++ u16 label.toNat ++ uNode? door ++ uNode? bar ++ more) 4 = some door := by
    simpa only [List.append_assoc] using nodeOptAt_uNode? (uNode? bar ++ more) door (u16 r.val ++ u16 label.toNat) 4 rfl
  have barAt : nodeOptAt (u16 r.val ++ u16 label.toNat ++ uNode? door ++ uNode? bar ++ more) 6 = some bar := by
    simpa only [List.append_assoc] using nodeOptAt_uNode? more bar (u16 r.val ++ u16 label.toNat ++ uNode? door) 6 (by simp)
  unfold parseWriteRoom
  rw [room, doorAt, barAt, word]
  rfl

theorem parsePairRooms_fields (a b : RoomIx) (n : NodeAddr) :
    parsePairRooms (u16 a.val ++ u16 b.val ++ uNode n ++ more) = some (a, b, n) := by
  have first : roomAt (u16 a.val ++ u16 b.val ++ uNode n ++ more) 0 = some a := by
    simpa only [List.append_assoc] using roomAt_head _ a
  have second : roomAt (u16 a.val ++ u16 b.val ++ uNode n ++ more) 2 = some b := by
    simpa only [List.append_assoc] using roomAt_u16 (uNode n ++ more) b (u16 a.val) 2 rfl
  have node : nodeAt (u16 a.val ++ u16 b.val ++ uNode n ++ more) 4 = some n := by
    simpa only [List.append_assoc] using nodeAt_uNode more n (u16 a.val ++ u16 b.val) 4 rfl
  unfold parsePairRooms
  rw [first, second, node]
  rfl

end

/-! ### CHECK IN (R4) -/

theorem folioTakes_iff (s : State) (f : Option FolioIx) :
    s.folioTakes f = true ↔ ∀ k, f = some k → (s.folio k).state = .opened ∧ (s.folio k).rooms.length < 4 := by
  cases f with
  | none => simp [State.folioTakes]
  | some k => rw [State.folioTakes, Bool.and_eq_true, decide_eq_true_iff, decide_eq_true_iff]; simp [Config.folioRoomMax]

theorem room_bindFolio (f : Option FolioIx) (r q : RoomIx) (s : State) : (bindFolio f r s).room q = s.room q := by
  cases f <;> rfl

theorem bindFolio_modRoom (f : Option FolioIx) (r q : RoomIx) (g : Room → Room) (s : State) :
    bindFolio f r (s.modRoom q g) = (bindFolio f r s).modRoom q g := by
  cases f <;> rfl

theorem bindFolio_begun (f : Option FolioIx) (r : RoomIx) (s : State) (p : Port) (c : Command) :
    bindFolio f r (s.begun p c) = (bindFolio f r s).begun p c := by
  cases f <;> rfl

theorem checkIn_taken {r : RoomIx} {f : Option FolioIx} {note : BitVec 16} {s : State} (vacant : (s.room r).phase = .vacant)
    (takes : s.folioTakes f = true) :
    checkIn (r, f, note) s = accept [(s.room r).generation + 1]
      (offer { kind := .roomCheckin, cls := .notice, time := s.now, room := some r, detail := note }
        ((bindFolio f r s).modRoom r fun rm =>
          { rm with phase := .occupied, generation := rm.generation + 1, liveKeys := 0, folio := f.or rm.folio })) := by
  unfold checkIn bumpGeneration
  simp only [vacant, takes, ne_eq, not_true_eq_false, if_false, Bool.true_eq_false, modRoom_modRoom, room_offer,
    room_bindFolio, room_modRoom_same, bindFolio_modRoom]

theorem checkIn_notVacant {r : RoomIx} {f : Option FolioIx} {note : BitVec 16} {s : State} (h : (s.room r).phase ≠ .vacant) :
    checkIn (r, f, note) s = refuse .state s := by
  simp only [checkIn, h, ne_eq, not_false_eq_true, if_true]

theorem checkIn_noFolio {r : RoomIx} {f : Option FolioIx} {note : BitVec 16} {s : State} (vacant : (s.room r).phase = .vacant)
    (full : s.folioTakes f = false) : checkIn (r, f, note) s = refuse .folio s := by
  simp only [checkIn, vacant, full, ne_eq, not_true_eq_false, if_false, if_true]

theorem folioTakes_false {s : State} {f : Option FolioIx}
    (h : ∃ k, f = some k ∧ ((s.folio k).state ≠ .opened ∨ 4 ≤ (s.folio k).rooms.length)) : s.folioTakes f = false := by
  obtain ⟨k, rfl, h⟩ := h
  refine Bool.eq_false_iff.mpr fun takes => ?_
  obtain ⟨opened, space⟩ := (folioTakes_iff s (some k)).mp takes k rfl
  rcases h with closed | full
  · exact closed opened
  · omega

/-! ### CHECK OUT (R5) -/

theorem scanFull_iff (s : State) : s.scanFull = true ↔ 8 ≤ s.keys.scanQueue.length := decide_eq_true_iff

theorem scanFull_false {s : State} (h : s.keys.scanQueue.length < 8) : s.scanFull = false :=
  Bool.eq_false_iff.mpr fun full => by
    have := (scanFull_iff s).mp full
    omega

theorem pushJob_begun (j : ScanJob) (s : State) (p : Port) (c : Command) : pushJob j (s.begun p c) = (pushJob j s).begun p c := rfl

theorem checkOut_taken {r : RoomIx} {s : State} (stay : (s.room r).stayInProgress = true) (still : (s.room r).movedFrom = none)
    (space : s.keys.scanQueue.length < 8) :
    checkOut r s = accept [] (offer { kind := .roomCheckout, cls := .notice, time := s.now, room := some r }
      (pushJob (.revokeRoom r .checkout .front) (s.modRoom r fun rm =>
        { rm with phase := rm.phase.checkedOut, closing := some .scanPending, generation := rm.generation + 1, liveKeys := 0 }))) := by
  unfold checkOut bumpGeneration
  simp only [stay, still, scanFull_false space, ne_eq, not_true_eq_false, if_false, Bool.true_eq_false, Bool.false_eq_true, or_self,
    modRoom_modRoom]

theorem checkOut_noStay {r : RoomIx} {s : State} (h : (s.room r).stayInProgress = false ∨ (s.room r).movedFrom ≠ none) :
    checkOut r s = refuse .state s := by
  unfold checkOut
  rw [if_pos h]

theorem checkOut_full {r : RoomIx} {s : State} (stay : (s.room r).stayInProgress = true) (still : (s.room r).movedFrom = none)
    (full : 8 ≤ s.keys.scanQueue.length) : checkOut r s = refuse .scanFull s := by
  unfold checkOut
  simp only [stay, still, (scanFull_iff s).mpr full, ne_eq, not_true_eq_false, if_false, if_true, Bool.true_eq_false, or_self]

/-! ### MOVE STAY (R7) -/

/-- The rooms and the folio of a stay once it has moved, the job queued. -/
def stayMoved (a b : RoomIx) (s : State) : State :=
  pushJob (.rebind a b (s.room a).generation .front) (swapFolio (s.room a).folio a b
    ((s.modRoom b fun rm => { rm with
        phase := .occupied, generation := rm.generation + 1, liveKeys := 0, movedFrom := some ⟨a, (s.room a).generation⟩
        folio := (s.room a).folio.or rm.folio }).modRoom a fun rm => { rm with
        phase := .closing, closing := some .scanPending, generation := rm.generation + 1, liveKeys := 0, folio := none }))

theorem room_swapFolio (f : Option FolioIx) (a b q : RoomIx) (s : State) : (swapFolio f a b s).room q = s.room q := by
  cases f <;> rfl

theorem room_stayMoved_target {a b : RoomIx} (ne : a ≠ b) (s : State) :
    (stayMoved a b s).room b = { s.room b with
      phase := .occupied, generation := (s.room b).generation + 1, liveKeys := 0, movedFrom := some ⟨a, (s.room a).generation⟩
      folio := (s.room a).folio.or (s.room b).folio } := by
  change (swapFolio (s.room a).folio a b _).room b = _
  rw [room_swapFolio, room_modRoom_ne _ _ ne, room_modRoom_same]

theorem room_stayMoved_source {a b : RoomIx} (ne : a ≠ b) (s : State) :
    (stayMoved a b s).room a = { s.room a with
      phase := .closing, closing := some .scanPending, generation := (s.room a).generation + 1, liveKeys := 0, folio := none } := by
  change (swapFolio (s.room a).folio a b _).room a = _
  rw [room_swapFolio, room_modRoom_same, room_modRoom_ne _ _ ne.symm]

theorem room_stayMoved_other {a b q : RoomIx} (ha : q ≠ a) (hb : q ≠ b) (s : State) : (stayMoved a b s).room q = s.room q := by
  change (swapFolio (s.room a).folio a b _).room q = _
  rw [room_swapFolio, room_modRoom_ne _ _ ha.symm, room_modRoom_ne _ _ hb.symm]

theorem stayMoved_touches (a b : RoomIx) (s : State) : stayMoved a b s =
    { s with
      rooms := (stayMoved a b s).rooms, charge := { s.charge with folios := (stayMoved a b s).charge.folios }
      keys := { s.keys with scanQueue := s.keys.scanQueue ++ [.rebind a b (s.room a).generation .front] } } := by
  unfold stayMoved
  cases (s.room a).folio <;> rfl

theorem folio_stayMoved (a b : RoomIx) (s : State) (k : FolioIx) : (stayMoved a b s).folio k =
    if (s.room a).folio = some k then
      { s.folio k with rooms := (s.folio k).rooms.map fun r => if r = a then b else r }
    else s.folio k := by
  change (swapFolio (s.room a).folio a b _).folio k = _
  cases h : (s.room a).folio with
  | none => rfl
  | some f =>
    by_cases e : f = k
    · subst e
      rw [if_pos rfl, swapFolio, folio_modFolio_same]
      rfl
    · rw [if_neg fun c => e (Option.some.inj c), swapFolio, folio_modFolio_ne _ _ e]
      rfl

theorem stayMoved_begun (a b : RoomIx) (s : State) (p : Port) (c : Command) :
    stayMoved a b (s.begun p c) = (stayMoved a b s).begun p c := by
  have still : (s.begun p c).room a = s.room a := rfl
  unfold stayMoved
  rw [still]
  cases (s.room a).folio <;> rfl

theorem moveStay_taken {a b : RoomIx} {s : State} (ne : a ≠ b) (stay : (s.room a).phase = .occupied)
    (still : (s.room a).movedFrom = none) (vacant : (s.room b).phase = .vacant) (opened : (s.room b).closing = none)
    (space : s.keys.scanQueue.length < 8) :
    moveStay (a, b) s = accept [(s.room a).generation + 1, (s.room b).generation + 1]
      (offer { kind := .roomMove, cls := .notice, time := s.now, room := some b, detail := BitVec.ofNat 16 a.val }
        (stayMoved a b s)) := by
  have moved : moveStay (a, b) s = accept [((stayMoved a b s).room a).generation, ((stayMoved a b s).room b).generation]
      (offer { kind := .roomMove, cls := .notice, time := s.now, room := some b, detail := BitVec.ofNat 16 a.val }
        (stayMoved a b s)) := by
    unfold moveStay bumpGeneration
    simp only [ne, stay, still, vacant, opened, scanFull_false space, ne_eq, not_true_eq_false, if_false, Bool.false_eq_true, or_self,
      modRoom_modRoom, room_offer]
    rfl
  rw [moved, room_stayMoved_source ne, room_stayMoved_target ne]

theorem moveStay_same (a : RoomIx) (s : State) : moveStay (a, a) s = refuse .badParam s := by
  simp only [moveStay, if_true]

theorem moveStay_state {a b : RoomIx} {s : State} (ne : a ≠ b) (h : (s.room a).phase ≠ .occupied ∨ (s.room a).movedFrom ≠ none ∨
    (s.room b).phase ≠ .vacant ∨ (s.room b).closing ≠ none) : moveStay (a, b) s = refuse .state s := by
  unfold moveStay
  dsimp only
  rw [if_neg ne, if_pos h]

theorem moveStay_full {a b : RoomIx} {s : State} (ne : a ≠ b) (stay : (s.room a).phase = .occupied)
    (still : (s.room a).movedFrom = none) (vacant : (s.room b).phase = .vacant) (opened : (s.room b).closing = none)
    (full : 8 ≤ s.keys.scanQueue.length) : moveStay (a, b) s = refuse .scanFull s := by
  simp only [moveStay, ne, stay, still, vacant, opened, (scanFull_iff s).mpr full, ne_eq, not_true_eq_false, if_false, if_true, or_self]

/-! ### BLOCK ROOM and SET MAKEUP (R9, R15) -/

theorem blockRoom_taken {r : RoomIx} {why : Byte} {prior : PriorState} {s : State}
    (h : (s.room r).phase = (match prior with | .vacant => RoomPhase.vacant | .occupied => .occupied)) :
    blockRoom (r, why) s =
      accept [] (offerBlock r (why.setWidth 16) (s.modRoom r fun rm => { rm with phase := .blocked prior why })) := by
  cases prior <;> simp only [blockRoom, h, RoomPhase.prior]

theorem blockRoom_refused {r : RoomIx} {why : Byte} {s : State} (h : (s.room r).phase = .closing ∨ (s.room r).isBlocked = true) :
    blockRoom (r, why) s = refuse .state s := by
  unfold blockRoom
  rcases h with closing | blocked
  · simp only [closing, RoomPhase.prior]
  · unfold Room.isBlocked at blocked
    split at blocked
    · next e => simp only [e, RoomPhase.prior]
    · cases blocked

theorem setMakeup_begun (r : RoomIx) (v : Bool) (s : State) (p : Port) (c : Command) :
    setMakeup r v (s.begun p c) = (setMakeup r v s).begun p c := by
  unfold setMakeup
  rw [room_begun]
  split <;> rfl

/-! ### WRITE ROOM (R11) -/

theorem tfind_isSome_iff {d n : Nat} {β : Type} (hn : n = 2 ^ d) (v : Table β d) (p : β → Bool) :
    (tfind n v p).isSome = true ↔ ∃ i : Fin n, p (tget v i) = true := by
  cases h : tfind n v p with
  | none => exact iff_of_false nofun fun ⟨i, hi⟩ => by rw [tfind_none hn h i] at hi; cases hi
  | some i => exact iff_of_true rfl ⟨i, tfind_some h⟩

theorem namedElsewhere_iff (s : State) (r : RoomIx) (n : NodeAddr) :
    s.namedElsewhere r n = true ↔ ∃ q : RoomIx, q ≠ r ∧ ((s.room q).doorNode = some n ∨ (s.room q).minibarNode = some n) := by
  unfold State.namedElsewhere
  rw [tfind_isSome_iff (by decide)]
  refine exists_congr fun q => ?_
  rw [tget_tmap (by decide), id, Bool.and_eq_true, decide_eq_true_iff, Room.names, Bool.or_eq_true, decide_eq_true_iff,
    decide_eq_true_iff]
  rfl

theorem isMinibarOf_iff (s : State) (n : NodeAddr) (r : RoomIx) :
    s.isMinibarOf n r = true ↔ ∃ c, (s.node n).config = .minibar r c := by
  unfold State.isMinibarOf
  split
  · next q c e => simp [e]
  · next other => exact iff_of_false Bool.false_ne_true fun ⟨c, e⟩ => other r c e

/-- The CONFLICT cases of WRITE ROOM, one by one (R11). -/
theorem writeRoomConflict_iff (s : State) (r : RoomIx) (door bar : Option NodeAddr) :
    s.writeRoomConflict r door bar = true ↔
      (∃ n, door = some n ∧ (s.node n).config ≠ .roomDoor r) ∨
        (∃ n, bar = some n ∧ ∀ c, (s.node n).config ≠ .minibar r c) ∨
        (∃ n q, (door = some n ∨ bar = some n) ∧ q ≠ r ∧ ((s.room q).doorNode = some n ∨ (s.room q).minibarNode = some n)) ∨
        (bar ≠ (s.room r).minibarNode ∧ s.charge.sessionOfRoom r ≠ none) := by
  have wrongDoor (n : NodeAddr) : s.isDoorOf n r = false ↔ (s.node n).config ≠ .roomDoor r := decide_eq_false_iff_not
  have wrongBar (n : NodeAddr) : s.isMinibarOf n r = false ↔ ∀ c, (s.node n).config ≠ .minibar r c := by
    rw [← Bool.not_eq_true, isMinibarOf_iff, not_exists]
  unfold State.writeRoomConflict
  rw [Bool.or_eq_true, Bool.or_eq_true, Option.any_eq_true, Option.any_eq_true, Bool.and_eq_true, decide_eq_true_iff,
    Option.isSome_iff_ne_none]
  simp only [Bool.or_eq_true, Bool.not_eq_true', wrongDoor, wrongBar, namedElsewhere_iff]
  grind

theorem writeRoom_state {r : RoomIx} {label : BitVec 16} {door bar : Option NodeAddr} {s : State}
    (h : (s.room r).phase = .occupied ∨ (s.room r).phase = .closing) : writeRoom (r, label, door, bar) s = refuse .state s := by
  unfold writeRoom
  dsimp only
  rw [if_pos h]

theorem writeRoom_conflict {r : RoomIx} {label : BitVec 16} {door bar : Option NodeAddr} {s : State}
    (h : ¬ ((s.room r).phase = .occupied ∨ (s.room r).phase = .closing)) (c : s.writeRoomConflict r door bar = true) :
    writeRoom (r, label, door, bar) s = refuse .conflict s := by
  unfold writeRoom
  dsimp only
  rw [if_neg h, if_pos c]

theorem writeRoom_taken {r : RoomIx} {label : BitVec 16} {door bar : Option NodeAddr} {s : State}
    (h : ¬ ((s.room r).phase = .occupied ∨ (s.room r).phase = .closing)) (c : s.writeRoomConflict r door bar = false) :
    writeRoom (r, label, door, bar) s = accept [] (if (s.room r).doorNode = door then
        s.modRoom r fun rm => { rm with label := label, minibarNode := bar }
      else (s.modRoom r fun rm =>
        { rm with label := label, doorNode := door, minibarNode := bar, door := .unknown, privacy := false }).modLamp r fun e =>
        { e with
          primary := { e.primary with
            privacy := false, makeup := (s.room r).makeup
            alarm := door.any fun n => alarmLit (s.node n).door (s.node n).latch }
          lastSent := none }) := by
  unfold writeRoom
  dsimp only
  rw [if_neg h, if_neg (by rw [c]; exact Bool.false_ne_true)]
  split
  · next same =>
    exact congrArg (accept []) (modRoom_congr s r (by rw [← same]))
  · unfold redoLamps
    rw [modRoom_modRoom]
    simp only [room_modRoom_same]
    cases door <;> rfl

/-! ### PAIR ROOMS and UNPAIR ROOMS (R12, R13) -/

theorem connectsElsewhere_iff (s : State) (a b : RoomIx) (n : NodeAddr) :
    s.connectsElsewhere a b n = true ↔ ∃ q : RoomIx, q ≠ a ∧ q ≠ b ∧ (s.room q).pairing.map Pairing.node = some n := by
  unfold State.connectsElsewhere
  rw [tfind_isSome_iff (by decide)]
  refine exists_congr fun q => ?_
  rw [tget_tmap (by decide), id, Bool.and_eq_true, Bool.and_eq_true, decide_eq_true_iff, decide_eq_true_iff, decide_eq_true_iff,
    and_assoc]
  rfl

/-- The CONFLICT cases of PAIR ROOMS, one by one (R12). -/
theorem pairConflict_iff (s : State) (a b : RoomIx) (n : NodeAddr) :
    s.pairConflict a b n = true ↔
      ((s.room a).pairing ≠ none ∨ (s.room b).pairing ≠ none) ∨
        ((s.node n).config ≠ .connectDoor a ∧ (s.node n).config ≠ .connectDoor b) ∨
        ∃ q : RoomIx, q ≠ a ∧ q ≠ b ∧ (s.room q).pairing.map Pairing.node = some n := by
  unfold State.pairConflict
  rw [Bool.or_eq_true, Bool.or_eq_true, Bool.or_eq_true, connectsElsewhere_iff, Option.isSome_iff_ne_none, Option.isSome_iff_ne_none,
    Bool.not_eq_true', Bool.or_eq_false_iff, decide_eq_false_iff_not, decide_eq_false_iff_not, or_assoc]

theorem pairRooms_same (a : RoomIx) (n : NodeAddr) (s : State) : pairRooms (a, a, n) s = refuse .badParam s := by
  simp only [pairRooms, if_true]

theorem pairRooms_closing {a b : RoomIx} {n : NodeAddr} {s : State} (ne : a ≠ b)
    (h : (s.room a).isClosing = true ∨ (s.room b).isClosing = true) : pairRooms (a, b, n) s = refuse .state s := by
  unfold pairRooms
  dsimp only
  rw [if_neg ne, if_pos h]

theorem pairRooms_conflict {a b : RoomIx} {n : NodeAddr} {s : State} (ne : a ≠ b)
    (ha : (s.room a).isClosing = false) (hb : (s.room b).isClosing = false) (c : s.pairConflict a b n = true) :
    pairRooms (a, b, n) s = refuse .conflict s := by
  simp only [pairRooms, ne, ha, hb, c, if_false, if_true, Bool.false_eq_true, or_self]

theorem pairRooms_taken {a b : RoomIx} {n : NodeAddr} {s : State} (ne : a ≠ b)
    (ha : (s.room a).isClosing = false) (hb : (s.room b).isClosing = false) (c : s.pairConflict a b n = false) :
    pairRooms (a, b, n) s = accept [] ((s.modRoom a fun rm => { rm with pairing := some ⟨b, n⟩ }).modRoom b fun rm =>
      { rm with pairing := some ⟨a, n⟩ }) := by
  simp only [pairRooms, ne, ha, hb, c, if_false, Bool.false_eq_true, or_self]

theorem unpairRooms_unpaired {a : RoomIx} {s : State} (h : (s.room a).pairing = none) : unpairRooms a s = refuse .state s := by
  simp only [unpairRooms, h]

theorem unpairRooms_closing {a : RoomIx} {x : Pairing} {s : State} (h : (s.room a).pairing = some x)
    (c : (s.room a).isClosing = true ∨ (s.room x.room).isClosing = true) : unpairRooms a s = refuse .state s := by
  simp only [unpairRooms, h, c, if_true]

theorem unpairRooms_taken {a : RoomIx} {x : Pairing} {s : State} (h : (s.room a).pairing = some x)
    (ha : (s.room a).isClosing = false) (hx : (s.room x.room).isClosing = false) :
    unpairRooms a s = accept []
      ((s.modRoom a fun rm => { rm with pairing := none }).modRoom x.room fun rm => { rm with pairing := none }) := by
  simp only [unpairRooms, h, ha, hx, Bool.false_eq_true, or_self, if_false]

end Sys2Proof.Machine

namespace Sys2Proof.Settled

open Sys2Proof.Machine

/-- Settles O14. -/
theorem checkIn : Obligations.CheckIn := by
  intro r f note more w h s
  have ⟨_, _, idle⟩ := serveWaiting_takes h
  have parse := parseCheckIn_fields more r f note
  refine ⟨fun vacant takes => ?_, fun occupied => ?_, fun vacant full => ?_⟩
  · have taken := checkIn_taken (note := note) (s := s.begun .front .checkIn) vacant ((folioTakes_iff s f).mpr takes)
    rw [bindFolio_begun, modRoom_begun, offer_begun _ _ _ _ (by cases f <;> exact idle) (by decide)] at taken
    refine (arbitrated_accepted h (not_truncated (by rfl)) rfl parse taken).trans ?_
    cases f <;> rfl
  · exact arbitrated_refused h (not_truncated (by rfl)) rfl parse (checkIn_notVacant occupied)
  · exact arbitrated_refused h (not_truncated (by rfl)) rfl parse (checkIn_noFolio vacant (folioTakes_false full))

/-- Settles O15. -/
theorem checkOut : Obligations.CheckOut := by
  intro r more w h s
  have ⟨_, _, idle⟩ := serveWaiting_takes h
  have parse := parseRoom_u16 more r
  refine ⟨fun stay still space => ?_, fun noStay => ?_, fun stay still full => ?_⟩
  · have taken := checkOut_taken (s := s.begun .front .checkOut) stay still space
    rw [modRoom_begun, pushJob_begun, offer_begun _ _ _ _ (by exact idle) (by decide)] at taken
    exact arbitrated_accepted h (not_truncated (by rfl)) rfl parse taken
  · exact arbitrated_refused h (not_truncated (by rfl)) rfl parse (checkOut_noStay noStay)
  · exact arbitrated_refused h (not_truncated (by rfl)) rfl parse (checkOut_full stay still full)

/-- Settles O16. -/
theorem moveStay : Obligations.MoveStay := by
  intro a b more w h s
  have ⟨_, _, idle⟩ := serveWaiting_takes h
  have parse := parseMoveStay_fields more a b
  refine ⟨fun ne stay still vacant opened space => ⟨stayMoved a b s, ?_, ?_, room_stayMoved_target ne s, room_stayMoved_source ne s,
    fun q ha hb => room_stayMoved_other ha hb s, ?_, ?_, folio_stayMoved a b s⟩, ?_, fun ne state => ?_,
    fun ne stay still vacant opened full => ?_⟩
  · have taken := moveStay_taken (s := s.begun .front .moveStay) ne stay still vacant opened space
    rw [stayMoved_begun, offer_begun _ _ _ _ (by rw [stayMoved_touches]; exact idle) (by decide)] at taken
    exact arbitrated_accepted h (not_truncated (by rfl)) rfl parse taken
  · rw [stayMoved_touches]
  · exact congrArg State.keys (stayMoved_touches a b s)
  · exact congrArg State.charge (stayMoved_touches a b s)
  · rintro rfl
    exact arbitrated_refused h (not_truncated (by rfl)) rfl parse (moveStay_same a _)
  · exact arbitrated_refused h (not_truncated (by rfl)) rfl parse (moveStay_state ne state)
  · exact arbitrated_refused h (not_truncated (by rfl)) rfl parse (moveStay_full ne stay still vacant opened full)

/-- Settles O18. -/
theorem blockAndMakeup : Obligations.BlockAndMakeup := by
  intro r why v more s h
  have ⟨_, _, idle⟩ := h
  refine ⟨fun prior phase => ?_, fun refused => ?_, ?_⟩
  · have taken := blockRoom_taken (why := why) (s := s.begun .service .blockRoom) phase
    rw [modRoom_begun, offerBlock_begun _ _ (by exact idle) (by decide)] at taken
    exact congrArg Host.Outcome.next (takeCommand_accepted h (not_truncated (by rfl)) rfl (parseBlockRoom_fields more r why) taken)
  · exact congrArg Host.Outcome.next (takeCommand_refused h (not_truncated (by rfl)) rfl (parseBlockRoom_fields more r why)
      (blockRoom_refused refused))
  · exact congrArg Host.Outcome.next (takeCommand_accepted h (not_truncated (by rfl)) rfl (parseSetMakeup_fields more r v)
      (congrArg (accept _) (setMakeup_begun r v s _ _)))

/-- Settles O19. -/
theorem writeRoom : Obligations.WriteRoom := by
  intro r label door bar more s h
  have parse := parseWriteRoom_fields more r label door bar
  have long : ¬ (u16 r.val ++ u16 label.toNat ++ uNode? door ++ uNode? bar ++ more).length < 8 := not_truncated (by simp)
  refine ⟨fun vacant opened doorOf barOf unnamed bare => ?_, fun state => ?_, fun vacant opened conflict => ?_⟩
  · have free : s.writeRoomConflict r door bar = false := by
      rw [← Bool.not_eq_true, writeRoomConflict_iff]
      grind
    refine congrArg Host.Outcome.next (takeCommand_accepted h long rfl parse
      ((writeRoom_taken (s := s.begun .service .writeRoom) (not_or.mpr ⟨vacant, opened⟩) free).trans (congrArg (accept _) ?_)))
    rw [room_begun]
    split
    · rfl
    · cases door <;> rfl
  · exact congrArg Host.Outcome.next (takeCommand_refused h long rfl parse (writeRoom_state state))
  · exact congrArg Host.Outcome.next (takeCommand_refused h long rfl parse
      (writeRoom_conflict (not_or.mpr ⟨vacant, opened⟩) ((writeRoomConflict_iff (s.begun _ _) r door bar).mpr conflict)))

/-- Settles O20. -/
theorem pairAndUnpair : Obligations.PairAndUnpair := by
  intro a b n more s h
  have parse := parsePairRooms_fields more a b n
  have long : ¬ (u16 a.val ++ u16 b.val ++ uNode n ++ more).length < 6 := not_truncated (by rfl)
  have conflicts {t : State} := pairConflict_iff t a b n
  refine ⟨fun ne ha hb pa pb door elsewhere => ?_, ?_, fun ne closing => ?_, fun ne ha hb paired => ?_, fun ne ha hb node => ?_,
    fun x paired closing => ?_, fun x paired ha hx => ?_, fun unpaired => ?_⟩
  · have free : s.pairConflict a b n = false := by
      rw [← Bool.not_eq_true, conflicts]
      grind
    exact congrArg Host.Outcome.next (takeCommand_accepted h long rfl parse (pairRooms_taken ne ha hb free))
  · rintro rfl
    exact congrArg Host.Outcome.next (takeCommand_refused h long rfl parse (pairRooms_same a n _))
  · exact congrArg Host.Outcome.next (takeCommand_refused h long rfl parse (pairRooms_closing ne closing))
  · exact congrArg Host.Outcome.next (takeCommand_refused h long rfl parse
      (pairRooms_conflict ne ha hb (conflicts.mpr (.inl paired))))
  · exact congrArg Host.Outcome.next (takeCommand_refused h long rfl parse
      (pairRooms_conflict ne ha hb (conflicts.mpr (.inr node))))
  · exact congrArg Host.Outcome.next (takeCommand_refused h (u16_not_truncated _ more) rfl (parseRoom_u16 more a)
      (unpairRooms_closing paired closing))
  · exact congrArg Host.Outcome.next (takeCommand_accepted h (u16_not_truncated _ more) rfl (parseRoom_u16 more a)
      (unpairRooms_taken paired ha hx))
  · exact congrArg Host.Outcome.next (takeCommand_refused h (u16_not_truncated _ more) rfl (parseRoom_u16 more a)
      (unpairRooms_unpaired unpaired))

end Sys2Proof.Settled
end

section
/-! The statements of "The Key Register" (chapter 2): issuing and retiring keys. -/

/- The joined text is checked with bounded memory: proofs are elaborated one after another, not each in a thread of its own. -/
set_option Elab.async false

namespace Sys2Proof.Machine

/-! ### Searching and counting a table -/

/-- No record below the one found meets the test. -/
theorem Table.findFrom_lowest {α : Type} (p : α → Bool) : ∀ {d : Nat} (v : Table α d) (base k : Nat), v.findFrom p base = some k →
    ∀ i, base + i < k → p (v.get i) = false
  | 0, .leaf x, base, k, h, i, lt => by
    have := (Table.findFrom_some p _ base k h).2.1
    omega
  | d + 1, .node lo hi, base, k, h, i, lt => by
    unfold Table.findFrom at h
    unfold Table.get
    cases found : lo.findFrom p base with
    | some j =>
      rw [found] at h
      cases h
      have := (Table.findFrom_some p lo base k found).2.1
      rw [if_pos (by omega)]
      exact Table.findFrom_lowest p lo base k found i lt
    | none =>
      rw [found] at h
      split
      · next low => exact Table.findFrom_none p lo base i found low
      · next high => exact Table.findFrom_lowest p hi (base + 2 ^ d) k h (i - 2 ^ d) (by omega)

/-- A record that meets the test, with none below it that does, is found. -/
theorem tfind_eq_some {α : Type} {d n : Nat} (hn : n = 2 ^ d) {v : Table α d} {p : α → Bool} {k : Fin n}
    (found : p (tget v k) = true) (lowest : ∀ j < k, p (tget v j) = false) : tfind n v p = some k := by
  cases h : tfind n v p with
  | none => rw [tfind_none hn h k] at found; cases found
  | some i =>
    have meets := tfind_some h
    rcases lt_trichotomy i k with lt | rfl | gt
    · rw [lowest i lt] at meets; cases meets
    · rfl
    · obtain ⟨j, first, index⟩ := Option.bind_eq_some_iff.mp h
      have none := Table.findFrom_lowest p v 0 j first k.val (by rw [Nat.zero_add, ← toFin?_some index]; exact gt)
      rw [tget, none] at found; cases found

/-- What replacing a record does to a count. -/
theorem Table.count_set {α : Type} (p : α → Bool) (x : α) : ∀ {d : Nat} (v : Table α d) (i : Nat),
    (v.set i x).count p + (if p (v.get i) then 1 else 0) = v.count p + if p x then 1 else 0
  | 0, .leaf y, i => Nat.add_comm _ _
  | d + 1, .node lo hi, i => by
    unfold Table.set Table.get
    split <;> unfold Table.count
    · have := Table.count_set p x lo i
      omega
    · have := Table.count_set p x hi (i - 2 ^ d)
      omega

/-- A record replaced by one of the same kind leaves the count. -/
theorem count_tset {α : Type} {d n : Nat} (p : α → Bool) (v : Table α d) (i : Fin n) (x : α) (same : p (tget v i) = p x) :
    (tset v i x).count p = v.count p := by
  have := Table.count_set p x v i.val
  unfold tget at same
  rw [same] at this
  exact Nat.add_right_cancel this

/-! ### Live-key counts (R3) -/

theorem room_addLive (r q : RoomIx) (s : State) :
    (addLive r s).room q = { s.room q with liveKeys := (s.room q).liveKeys + if r = q then 1 else 0 } := by
  unfold addLive
  by_cases e : r = q
  · subst e; rw [room_modRoom_same, if_pos rfl]
  · rw [room_modRoom_ne _ _ e, if_neg e]; rfl

theorem room_dropLive (r q : RoomIx) (s : State) :
    (dropLive r s).room q = { s.room q with liveKeys := (s.room q).liveKeys - if r = q then 1 else 0 } := by
  unfold dropLive
  by_cases e : r = q
  · subst e; rw [room_modRoom_same, if_pos rfl]
  · rw [room_modRoom_ne _ _ e, if_neg e]; rfl

/-- Each room counts as many more live keys as it is listed. -/
theorem room_foldl_addLive (q : RoomIx) : ∀ (rs : List RoomIx) (s : State),
    (rs.foldl (fun t r => addLive r t) s).room q = { s.room q with liveKeys := (s.room q).liveKeys + rs.count q }
  | [], _ => rfl
  | r :: rs, s => by
    rw [List.foldl_cons, room_foldl_addLive q rs, room_addLive, List.count_cons]
    by_cases e : r = q
    · simp only [e, beq_self_eq_true, if_true, Nat.add_assoc, Nat.add_comm 1]
    · simp [e]

theorem room_foldl_dropLive (q : RoomIx) : ∀ (rs : List RoomIx) (s : State),
    (rs.foldl (fun t r => dropLive r t) s).room q = { s.room q with liveKeys := (s.room q).liveKeys - rs.count q }
  | [], _ => rfl
  | r :: rs, s => by
    rw [List.foldl_cons, room_foldl_dropLive q rs, room_dropLive, List.count_cons]
    by_cases e : r = q <;> simp [e, Nat.sub_sub, Nat.add_comm]

/-- How often a room is counted for an entry: once for each current binding to it, where the entry is LIVE. -/
theorem count_countedRooms (s : State) (e : KeyEntry) (r : RoomIx) : (s.countedRooms e).count r =
    if e.standing = .live then e.bindings.countP fun b => decide (b.room = r ∧ b.generation = (s.room r).generation) else 0 := by
  unfold State.countedRooms
  split
  · rw [List.count, List.countP_map, List.countP_filter]
    refine List.countP_congr fun b _ => ?_
    simp only [Function.comp_apply, Bool.and_eq_true, beq_iff_eq, State.isCurrent, decide_eq_true_eq]
    exact and_congr_right fun e => by rw [e]
  · rfl

theorem foldl_begun {α : Type} {f : State → α → State} {p : Port} {c : Command} (h : ∀ t x, f (t.begun p c) x = (f t x).begun p c)
    (xs : List α) (s : State) : xs.foldl f (s.begun p c) = (xs.foldl f s).begun p c :=
  List.foldl_hom (fun t : State => t.begun p c) (fun t x => h t x)

/-! ### Finding an entry (R23, R44) -/

/-- An entry is not FREE and holds a card. -/
def holdsCard (card : CardId) : Option KeyEntry → Bool
  | some e => decide (e.card = card)
  | none => false

theorem findCard_eq (s : State) (card : CardId) :
    s.findCard card = (tfind 2048 s.keys.entries (holdsCard card)).bind fun k => (s.entry k).map fun e => (k, e) := rfl

theorem holdsCard_iff (card : CardId) (x : Option KeyEntry) : holdsCard card x = true ↔ ∃ e, x = some e ∧ e.card = card := by
  cases x <;> simp [holdsCard]

/-- The entry that holds a card is not FREE, and holds it. -/
theorem entry_of_findCard {s : State} {card : CardId} {k : KeyIx} {e : KeyEntry} (h : s.findCard card = some (k, e)) :
    s.entry k = some e ∧ e.card = card := by
  rw [findCard_eq] at h
  obtain ⟨j, found, read⟩ := Option.bind_eq_some_iff.mp h
  obtain ⟨x, entry, same⟩ := Option.map_eq_some_iff.mp read
  cases same
  obtain ⟨y, standing, card⟩ := (holdsCard_iff card _).mp (tfind_some found)
  cases entry.symm.trans standing
  exact ⟨entry, card⟩

/-- Where no entry is found, none holds the card. -/
theorem card_ne_of_findCard {s : State} {card : CardId} (h : s.findCard card = none) {k : KeyIx} {e : KeyEntry}
    (entry : s.entry k = some e) : e.card ≠ card := by
  intro same
  have holds : holdsCard card (tget s.keys.entries k) = true := (holdsCard_iff card _).mpr ⟨e, entry, same⟩
  rw [findCard_eq] at h
  cases found : tfind 2048 s.keys.entries (holdsCard card) with
  | none =>
    rw [tfind_none (by decide) found k] at holds
    cases holds
  | some j =>
    obtain ⟨y, standing, -⟩ := (holdsCard_iff card _).mp (tfind_some found)
    rw [found, Option.bind_some, show s.entry j = some y from standing] at h
    cases h

theorem findForIssue_held {s : State} {card : CardId} {k : KeyIx} {e : KeyEntry} (h : s.findCard card = some (k, e)) :
    s.findForIssue card = some k := by
  simp only [State.findForIssue, h]

theorem findForIssue_free {s : State} {card : CardId} (h : s.findCard card = none) {k : KeyIx}
    (free : s.entry k = none) (lowest : ∀ j : KeyIx, j < k → s.entry j ≠ none) : s.findForIssue card = some k := by
  have first : tfind 2048 s.keys.entries Option.isNone = some k :=
    tfind_eq_some (by decide) (Option.isNone_iff_eq_none.mpr free) fun j lt => Option.isNone_eq_false_iff.mpr
      (Option.isSome_iff_ne_none.mpr (lowest j lt))
  simp only [State.findForIssue, h, first, Option.some_or]

theorem findForIssue_retired {s : State} {card : CardId} (h : s.findCard card = none) (full : ∀ k, s.entry k ≠ none) :
    s.findForIssue card = s.keys.retired.head? := by
  have noFree : tfind 2048 s.keys.entries Option.isNone = none :=
    Option.eq_none_iff_forall_ne_some.mpr fun k found => full k (Option.isNone_iff_eq_none.mp (tfind_some found))
  simp only [State.findForIssue, h, noFree, Option.none_or]

/-! ### Writing an entry whole (R23, R28) -/

/-- The keys once the entry found for an issue is written. -/
theorem keys_rewriteEntry (k : KeyIx) (e : KeyEntry) (s : State) : (rewriteEntry k e s).keys = { s.keys with
    entries := tset s.keys.entries k (some e), retired := s.keys.retired.erase k
    lowArmed := s.keys.lowArmed && !decide (s.keys.sum = 64), claims := s.keys.claims.map (VeClaim.markRewritten k) } := by
  unfold rewriteEntry
  dsimp only
  split <;> rfl

/-- The alarm is raised where the sum falls from 64 while it is armed. -/
theorem attn_rewriteEntry (k : KeyIx) (e : KeyEntry) (s : State) : (rewriteEntry k e s).attn =
    if s.keys.lowArmed = true ∧ s.keys.sum = 64 then (raise .front .keyTableLow s).attn else s.attn := by
  have cond : (decide (s.keys.sum = Config.keyTableLow) && s.keys.lowArmed) = true ↔ s.keys.lowArmed = true ∧ s.keys.sum = 64 := by
    rw [Bool.and_eq_true, decide_eq_true_iff, and_comm]
    rfl
  unfold rewriteEntry
  dsimp only
  by_cases falls : s.keys.lowArmed = true ∧ s.keys.sum = 64
  · rw [if_pos (cond.mpr falls), if_pos falls]; rfl
  · rw [if_neg (cond.not.mpr falls), if_neg falls]

theorem rewriteEntry_rest (k : KeyIx) (e : KeyEntry) (s : State) :
    rewriteEntry k e s = { s with keys := (rewriteEntry k e s).keys, attn := (rewriteEntry k e s).attn } := by
  unfold rewriteEntry
  dsimp only
  split <;> rfl

theorem entry_rewriteEntry_same (k : KeyIx) (e : KeyEntry) (s : State) : (rewriteEntry k e s).entry k = some e := by
  unfold State.entry
  rw [keys_rewriteEntry]
  exact tget_tset_same ..

theorem entry_rewriteEntry_ne {k j : KeyIx} (h : j ≠ k) (e : KeyEntry) (s : State) : (rewriteEntry k e s).entry j = s.entry j := by
  unfold State.entry
  rw [keys_rewriteEntry]
  exact tget_tset_ne (by decide) _ _ _ _ h.symm

theorem rewriteEntry_begun (k : KeyIx) (e : KeyEntry) (s : State) (p : Port) (c : Command) :
    rewriteEntry k e (s.begun p c) = (rewriteEntry k e s).begun p c := by
  have keys : (s.begun p c).keys = s.keys := rfl
  unfold rewriteEntry
  dsimp only
  rw [keys]
  split <;> rfl

/-! ### ISSUE STAFF KEY (R26) -/

section
variable (more : List Byte)

theorem parseStaffIssue_fields (card : CardId) (zones : Set16) {profile : Fin 16} (staff : 4 ≤ profile.val)
    (from_ until_ : HotelTime) :
    parseStaffIssue (u64 card ++ u16 zones.toNat ++ u8 profile.val ++ u32 from_ ++ u32 until_ ++ more) =
      some { card := card, zones := zones, profile := profile, validFrom := from_, validUntil := until_ } := by
  generalize hps : u64 card ++ u16 zones.toNat ++ u8 profile.val ++ u32 from_ ++ u32 until_ ++ more = ps
  have cardRead : cardAt ps 0 = card := by
    subst hps
    simpa only [List.append_assoc, List.nil_append] using cardAt_u64 _ card [] 0 rfl
  have zonesRead : word16At ps 8 = zones := by
    subst hps
    simpa only [List.append_assoc] using word16At_u16 (u8 profile.val ++ (u32 from_ ++ (u32 until_ ++ more))) zones (u64 card) 8 rfl
  have profileRead : u8At ps 10 = profile.val := by
    subst hps
    simpa only [List.append_assoc] using
      u8At_u8 (u32 from_ ++ (u32 until_ ++ more)) (by omega : profile.val < 256) (u64 card ++ u16 zones.toNat) 10 rfl
  have fromRead : u32At ps 11 = from_ := by
    subst hps
    simpa only [List.append_assoc] using
      u32At_u32 (u32 until_ ++ more) from_ (u64 card ++ u16 zones.toNat ++ u8 profile.val) 11 rfl
  have untilRead : u32At ps 15 = until_ := by
    subst hps
    simpa only [List.append_assoc] using
      u32At_u32 more until_ (u64 card ++ u16 zones.toNat ++ u8 profile.val ++ u32 from_) 15 rfl
  unfold parseStaffIssue
  rw [cardRead, zonesRead, profileRead, fromRead, untilRead, toFin?_val]
  exact if_pos staff

theorem parseStaffIssue_noStaff (card : CardId) (zones : Set16) {profile : Byte} (out : profile.toNat < 4 ∨ 15 < profile.toNat)
    (from_ until_ : HotelTime) :
    parseStaffIssue (u64 card ++ u16 zones.toNat ++ [profile] ++ u32 from_ ++ u32 until_ ++ more) = none := by
  have profileRead : u8At (u64 card ++ u16 zones.toNat ++ [profile] ++ u32 from_ ++ u32 until_ ++ more) 10 = profile.toNat := rfl
  unfold parseStaffIssue
  rw [profileRead]
  rcases out with low | high
  · have number : toFin? 16 profile.toNat = some ⟨profile.toNat, by omega⟩ := dif_pos _
    rw [number]
    exact if_neg (by simpa using low)
  · rw [toFin?_none (Nat.succ_le_of_lt high)]
    rfl

end

theorem issueStaffKey_taken {a : StaffIssue} {k : KeyIx} {s : State} (valid : a.validFrom < a.validUntil)
    (new : s.heldInService a.card = false) (found : s.findForIssue a.card = some k) :
    issueStaffKey a s = accept (u16 k) (offer
      { kind := .keyIssued, cls := .notice, time := s.now, key := some k, card := some a.card
        detail := BitVec.ofNat 16 a.profile.val }
      (rewriteEntry k (freshEntry a.card (.staff a.zones) a.profile a.validFrom a.validUntil .service) s)) := by
  simp [issueStaffKey, valid, new, found]

theorem issueStaffKey_invalid {a : StaffIssue} {s : State} (invalid : a.validUntil ≤ a.validFrom) :
    issueStaffKey a s = refuse .badParam s := by
  simp [issueStaffKey, BitVec.not_lt.mpr invalid]

theorem issueStaffKey_duplicate {a : StaffIssue} {s : State} (valid : a.validFrom < a.validUntil)
    (held : s.heldInService a.card = true) : issueStaffKey a s = refuse .duplicate s := by
  simp [issueStaffKey, valid, held]

theorem issueStaffKey_full {a : StaffIssue} {s : State} (valid : a.validFrom < a.validUntil)
    (new : s.heldInService a.card = false) (none : s.findForIssue a.card = none) : issueStaffKey a s = refuse .tableFull s := by
  simp [issueStaffKey, valid, new, none]

/-! ### ISSUE GUEST KEY (R24, R25) -/

/-- The rooms counted are read one after another. -/
theorem mapM_roomAt (more : List Byte) : ∀ (rs : List RoomIx) (before : List Byte) (m : Nat), before.length = m →
    (List.range rs.length).mapM (fun k => roomAt (before ++ ((rs.map fun q => u16 q.val).flatten ++ more)) (m + 2 * k)) = some rs
  | [], _, _, _ => rfl
  | r :: rs, before, m, hm => by
    have first : roomAt (before ++ (((r :: rs).map fun q => u16 q.val).flatten ++ more)) m = some r := by
      rw [List.map_cons, List.flatten_cons, List.append_assoc]
      exact roomAt_u16 _ r before m hm
    have rest := mapM_roomAt more rs (before ++ u16 r.val) (m + 2) (by rw [List.length_append, hm]; rfl)
    rw [List.length_cons, List.range_succ_eq_map, List.mapM_cons, Nat.mul_zero, Nat.add_zero, first, List.mapM_map]
    have same : (fun k => roomAt (before ++ (((r :: rs).map fun q => u16 q.val).flatten ++ more)) (m + 2 * (k + 1))) =
        fun k => roomAt (before ++ u16 r.val ++ ((rs.map fun q => u16 q.val).flatten ++ more)) (m + 2 + 2 * k) := by
      funext k
      rw [List.map_cons, List.flatten_cons, List.append_assoc, List.append_assoc, Nat.mul_succ, Nat.add_comm (2 * k), Nat.add_assoc]
    rw [Option.pure_def, Option.bind_eq_bind, Option.bind_some, show ((fun k => roomAt (before ++
      (((r :: rs).map fun q => u16 q.val).flatten ++ more)) (m + 2 * k)) ∘ Nat.succ) = _ from same, rest]
    rfl

theorem parseGuestIssue_fields (card : CardId) (new : Bool) (profile : Fin 4) (from_ until_ : HotelTime) {rs : List RoomIx}
    (some_ : 1 ≤ rs.length) (few : rs.length ≤ 4) (more : List Byte) :
    parseGuestIssue (u64 card ++ uFlag (!new) ++ u8 profile.val ++ u32 from_ ++ u32 until_ ++ u8 rs.length ++
        (rs.map fun q => u16 q.val).flatten ++ more) =
      some { card := card, new := new, profile := profile.castLE (by decide), validFrom := from_, validUntil := until_
             rooms := rs } := by
  generalize hrooms : (rs.map fun q => u16 q.val).flatten ++ more = rooms
  generalize hps : u64 card ++ uFlag (!new) ++ u8 profile.val ++ u32 from_ ++ u32 until_ ++ u8 rs.length ++
    (rs.map fun q => u16 q.val).flatten ++ more = ps
  have cardRead : cardAt ps 0 = card := by
    subst hps
    simpa only [List.append_assoc, List.nil_append] using cardAt_u64 _ card [] 0 rfl
  have copyRead : flagAt ps 8 = some (!new) := by
    subst hps hrooms
    simpa only [List.append_assoc] using flagAt_uFlag _ (!new) (u64 card) 8 rfl
  have profileRead : u8At ps 9 = profile.val := by
    subst hps hrooms
    simpa only [List.append_assoc] using u8At_u8 _ (by omega : profile.val < 256) (u64 card ++ uFlag (!new)) 9 rfl
  have fromRead : u32At ps 10 = from_ := by
    subst hps hrooms
    simpa only [List.append_assoc] using u32At_u32 _ from_ (u64 card ++ uFlag (!new) ++ u8 profile.val) 10 rfl
  have untilRead : u32At ps 14 = until_ := by
    subst hps hrooms
    simpa only [List.append_assoc] using u32At_u32 _ until_ (u64 card ++ uFlag (!new) ++ u8 profile.val ++ u32 from_) 14 rfl
  have countRead : countAt 1 4 ps 18 = some rs.length := by
    have number : u8At ps 18 = rs.length := by
      subst hps hrooms
      simpa only [List.append_assoc] using u8At_u8 _ (by omega : rs.length < 256)
        (u64 card ++ uFlag (!new) ++ u8 profile.val ++ u32 from_ ++ u32 until_) 18 rfl
    unfold countAt
    rw [number, if_pos ⟨some_, few⟩]
  have roomsRead : (List.range rs.length).mapM (fun k => roomAt ps (19 + 2 * k)) = some rs := by
    subst hps hrooms
    simpa only [List.append_assoc] using mapM_roomAt more rs
      (u64 card ++ uFlag (!new) ++ u8 profile.val ++ u32 from_ ++ u32 until_ ++ u8 rs.length) 19 rfl
  unfold parseGuestIssue
  simp only [copyRead, profileRead, toFin?_val, countRead, cardRead, fromRead, untilRead, Option.bind_eq_bind, Option.bind_some,
    roomsRead, Bool.not_not, Option.pure_def]

/-- The refusal of an issue, check by check (R24). -/
theorem issueRefusal_eq (a : GuestIssue) (s : State) : s.issueRefusal a =
    if ¬ (a.rooms.Nodup ∧ a.validFrom < a.validUntil) then some .badParam
    else if ∃ q ∈ a.rooms, ¬ ((s.room q).phase = .occupied ∧ (s.room q).movedFrom = none) then some .state
    else if s.heldInService a.card = true then some .duplicate
    else if ∃ q ∈ (if a.new then a.rooms.drop 1 else a.rooms), 6 ≤ (s.room q).liveKeys then some .limit
    else if s.findForIssue a.card = none then some .tableFull
    else if a.new = true ∧ 8 ≤ s.keys.scanQueue.length then some .scanFull else none := by
  have inconsistent : a.inconsistent = true ↔ ¬ (a.rooms.Nodup ∧ a.validFrom < a.validUntil) := by
    simp only [GuestIssue.inconsistent, Bool.or_eq_true, Bool.not_eq_true', decide_eq_false_iff_not]
    exact not_and_or.symm
  have state : (!a.rooms.all fun r => (s.room r).takesKeys) = true ↔
      ∃ q ∈ a.rooms, ¬ ((s.room q).phase = .occupied ∧ (s.room q).movedFrom = none) := by
    simp only [Bool.not_eq_true', List.all_eq_false, Room.takesKeys, Bool.and_eq_true, decide_eq_true_eq, Option.isNone_iff_eq_none]
  have limit : (!s.issueWithinLimit a) = true ↔ ∃ q ∈ (if a.new then a.rooms.drop 1 else a.rooms), 6 ≤ (s.room q).liveKeys := by
    simp only [Bool.not_eq_true', State.issueWithinLimit, List.all_eq_false, decide_eq_true_eq, Nat.not_le, Nat.lt_succ_iff]
    rfl
  have full : (s.findForIssue a.card).isNone = true ↔ s.findForIssue a.card = none := Option.isNone_iff_eq_none
  have queue : (a.new && s.scanFull) = true ↔ a.new = true ∧ 8 ≤ s.keys.scanQueue.length := by
    rw [Bool.and_eq_true, scanFull_iff]
  unfold State.issueRefusal
  simp only [inconsistent, state, limit, full, queue]

theorem issueGuestKey_refused {a : GuestIssue} {s : State} {code : ResultCode} (h : s.issueRefusal a = some code) :
    issueGuestKey a s = refuse code s := by
  simp only [issueGuestKey, h]

/-- The state once a new set of keys is started, where one is (R25). -/
def issueStarted (new : Bool) (r : RoomIx) (s : State) : State := if new then startNewSet r s else s

/-- The state once a guest key is cut, before its record is offered (R25). -/
def guestKeyCut (a : GuestIssue) (k : KeyIx) (r : RoomIx) (s : State) : State :=
  a.rooms.foldl (fun t r => addLive r t)
    (rewriteEntry k
      (freshEntry a.card (.guest (a.rooms.map fun q => ⟨q, ((issueStarted a.new r s).room q).generation⟩)) a.profile a.validFrom
        a.validUntil .front)
      (issueStarted a.new r s))

theorem issueGuestKey_taken {a : GuestIssue} {k : KeyIx} {r : RoomIx} {s : State} (free : s.issueRefusal a = none)
    (found : s.findForIssue a.card = some k) (principal : a.rooms.head? = some r) :
    issueGuestKey a s = accept (u16 k ++ [((issueStarted a.new r s).room r).generation]) (offer
      { kind := .keyIssued, cls := .notice, time := s.now, key := some k, card := some a.card, room := some r
        detail := ((issueStarted a.new r s).room r).generation.setWidth 16 } (guestKeyCut a k r s)) := by
  simp only [issueGuestKey, free, found, principal]
  rfl

theorem issueStarted_begun (new : Bool) (r : RoomIx) (s : State) (p : Port) (c : Command) :
    issueStarted new r (s.begun p c) = (issueStarted new r s).begun p c := by
  cases new <;> rfl

theorem guestKeyCut_begun (a : GuestIssue) (k : KeyIx) (r : RoomIx) (s : State) (p : Port) (c : Command) :
    guestKeyCut a k r (s.begun p c) = (guestKeyCut a k r s).begun p c := by
  unfold guestKeyCut
  rw [issueStarted_begun, rewriteEntry_begun, foldl_begun fun _ _ => rfl]
  rfl

theorem issueStarted_rest (new : Bool) (r : RoomIx) (s : State) : issueStarted new r s = { s with
    rooms := (issueStarted new r s).rooms
    keys := { s.keys with scanQueue := s.keys.scanQueue ++ if new then [.replace r .front] else [] } } := by
  cases new
  · exact congrArg (fun q => { s with keys := { s.keys with scanQueue := q } }) (List.append_nil _).symm
  · rfl

theorem room_issueStarted_same (new : Bool) (r : RoomIx) (s : State) : (issueStarted new r s).room r = { s.room r with
    generation := if new then (s.room r).generation + 1 else (s.room r).generation
    liveKeys := if new then 0 else (s.room r).liveKeys } := by
  cases new
  · rfl
  · exact room_modRoom_same s r fun rm => { rm with generation := rm.generation + 1, liveKeys := 0 }

theorem room_issueStarted_ne (new : Bool) {r q : RoomIx} (h : q ≠ r) (s : State) : (issueStarted new r s).room q = s.room q := by
  cases new
  · rfl
  · exact room_modRoom_ne s (fun rm => { rm with generation := rm.generation + 1, liveKeys := 0 }) h.symm

theorem guestKeyCut_rest (a : GuestIssue) (k : KeyIx) (r : RoomIx) (s : State) : guestKeyCut a k r s = { s with
    rooms := (guestKeyCut a k r s).rooms, keys := (guestKeyCut a k r s).keys, attn := (guestKeyCut a k r s).attn } := by
  unfold guestKeyCut
  rw [foldl_addLive_touches, rewriteEntry_rest, issueStarted_rest]

/-- Each listed room counts the key once. -/
theorem room_guestKeyCut (a : GuestIssue) (k : KeyIx) (r q : RoomIx) (s : State) : (guestKeyCut a k r s).room q =
    { (issueStarted a.new r s).room q with
      liveKeys := ((issueStarted a.new r s).room q).liveKeys + a.rooms.count q } := by
  unfold guestKeyCut
  rw [room_foldl_addLive]
  unfold State.room
  rw [rewriteEntry_rest]

theorem keys_guestKeyCut (a : GuestIssue) (k : KeyIx) (r : RoomIx) (s : State) : (guestKeyCut a k r s).keys = { s.keys with
    entries := tset s.keys.entries k (some (freshEntry a.card
      (.guest (a.rooms.map fun q => ⟨q, ((issueStarted a.new r s).room q).generation⟩)) a.profile a.validFrom a.validUntil .front))
    retired := s.keys.retired.erase k
    scanQueue := s.keys.scanQueue ++ if a.new then [.replace r .front] else []
    lowArmed := s.keys.lowArmed && !decide (s.keys.sum = 64), claims := s.keys.claims.map (VeClaim.markRewritten k) } := by
  unfold guestKeyCut
  rw [foldl_addLive_touches]
  dsimp only
  rw [keys_rewriteEntry, issueStarted_rest]
  rfl

theorem attn_guestKeyCut (a : GuestIssue) (k : KeyIx) (r : RoomIx) (s : State) : (guestKeyCut a k r s).attn =
    if s.keys.lowArmed = true ∧ s.keys.sum = 64 then (raise .front .keyTableLow s).attn else s.attn := by
  unfold guestKeyCut
  rw [foldl_addLive_touches]
  dsimp only
  rw [attn_rewriteEntry, issueStarted_rest]
  rfl

theorem entry_guestKeyCut_ne (a : GuestIssue) {k j : KeyIx} (h : j ≠ k) (r : RoomIx) (s : State) :
    (guestKeyCut a k r s).entry j = s.entry j := by
  unfold State.entry
  rw [keys_guestKeyCut]
  exact tget_tset_ne (by decide) _ _ _ _ h.symm

theorem entry_guestKeyCut_same (a : GuestIssue) (k : KeyIx) (r : RoomIx) (s : State) :
    (guestKeyCut a k r s).entry k = some (freshEntry a.card
      (.guest (a.rooms.map fun q => ⟨q, ((issueStarted a.new r s).room q).generation⟩)) a.profile a.validFrom a.validUntil .front) := by
  unfold State.entry
  rw [keys_guestKeyCut]
  exact tget_tset_same ..

/-! ### Retiring an entry (R22) -/

/-- The state once an entry is retired, before its record is offered (R22). -/
def retiredKey (k : KeyIx) (how : RetiredAs) (reason : RetireReason) (e : KeyEntry) (s : State) : State :=
  appendRetired k ((s.countedRooms e).foldl (fun t r => dropLive r t)
    (s.setEntry k { e with standing := .retired how reason (s.now.getD 0) }))

theorem retire_eq {k : KeyIx} {e : KeyEntry} {s : State} (h : s.entry k = some e) (how : RetiredAs) (reason : RetireReason)
    (jobRoom : Option RoomIx) : retire k how reason jobRoom s = offer
      { kind := .keyRetired, cls := .notice, time := s.now, key := some k, card := some e.card
        room := if e.isGuest then e.principal.or jobRoom else none, reason := some (.retirement reason) }
      (retiredKey k how reason e s) := by
  simp only [retire, h]
  rfl

theorem retiredKey_rest (k : KeyIx) (how : RetiredAs) (reason : RetireReason) (e : KeyEntry) (s : State) :
    retiredKey k how reason e s = { s with
      rooms := (retiredKey k how reason e s).rooms
      keys := { s.keys with
        entries := tset s.keys.entries k (some { e with standing := .retired how reason (s.now.getD 0) })
        retired := s.keys.retired ++ [k], lowArmed := (retiredKey k how reason e s).keys.lowArmed } } := by
  unfold retiredKey
  rw [foldl_dropLive_touches]
  rfl

theorem room_retiredKey (k : KeyIx) (how : RetiredAs) (reason : RetireReason) (e : KeyEntry) (s : State) (r : RoomIx) :
    (retiredKey k how reason e s).room r = { s.room r with liveKeys := (s.room r).liveKeys -
      (if e.standing = .live then e.bindings.countP fun b => decide (b.room = r ∧ b.generation = (s.room r).generation) else 0) } := by
  rw [← count_countedRooms]
  exact room_foldl_dropLive r (s.countedRooms e) _

theorem lowArmed_retiredKey {k : KeyIx} {e : KeyEntry} {s : State} (h : s.entry k = some e) (how : RetiredAs)
    (reason : RetireReason) :
    (retiredKey k how reason e s).keys.lowArmed = (s.keys.lowArmed || decide (63 ≤ s.keys.sum)) := by
  have free : (s.setEntry k { e with standing := .retired how reason (s.now.getD 0) }).keys.freeCount = s.keys.freeCount :=
    count_tset _ _ _ _ (by rw [show tget s.keys.entries k = some e from h]; rfl)
  unfold retiredKey
  rw [foldl_dropLive_touches]
  unfold appendRetired
  dsimp only
  rw [free]
  refine congrArg (s.keys.lowArmed || ·) (decide_eq_decide.mpr ?_)
  exact Nat.succ_le_succ_iff

theorem room_of_guest (e : KeyEntry) : (if e.isGuest then e.principal.or none else none) = e.principal := by
  rw [Option.or_none]
  unfold KeyEntry.isGuest KeyEntry.principal KeyEntry.bindings
  cases e.body <;> rfl

theorem setEntry_begun (s : State) (k : KeyIx) (e : KeyEntry) (p : Port) (c : Command) :
    (s.begun p c).setEntry k e = (s.setEntry k e).begun p c := rfl

/-- A retirement is the same before and after a port holds a command. -/
theorem retire_begun (k : KeyIx) (how : RetiredAs) (reason : RetireReason) (jobRoom : Option RoomIx) {s : State} {p : Port}
    {c : Command} (idle : (s.port p).phase.isWorking = false) (d : c ≠ .flushJournal) :
    retire k how reason jobRoom (s.begun p c) = (retire k how reason jobRoom s).begun p c := by
  cases h : s.entry k with
  | none =>
    unfold retire
    rw [show (s.begun p c).entry k = s.entry k from rfl, h]
  | some e =>
    rw [retire_eq (s := s.begun p c) h, retire_eq h, ← offer_begun _ p c _ (by rw [retiredKey_rest]; exact idle) d]
    refine congrArg (offer _) ?_
    unfold retiredKey
    rw [show (s.begun p c).countedRooms e = s.countedRooms e from rfl]
    rw [setEntry_begun]
    exact congrArg (appendRetired k) (foldl_begun (f := fun t r => dropLive r t) (fun _ _ => rfl) _ _)

end Sys2Proof.Machine

namespace Sys2Proof.Settled

open Sys2Proof.Machine

/-- Settles O21. -/
theorem issueStaffKey : Obligations.IssueStaffKey := by
  refine ⟨fun card s => ⟨fun k e found => ?_, fun none => ⟨fun k e => card_ne_of_findCard none, fun k ⟨free, lowest⟩ =>
    findForIssue_free none free lowest, findForIssue_retired none⟩⟩, fun card zones profile from_ until_ more w h out => ?_,
    fun card zones profile from_ until_ more w h staff => ?_⟩
  · obtain ⟨entry, holds⟩ := entry_of_findCard found
    exact ⟨entry, holds, findForIssue_held found⟩
  · exact congrArg Host.Outcome.next (takeCommand_badParam h (not_truncated (by rfl)) rfl
      (parseStaffIssue_noStaff more card zones out from_ until_))
  · intro s
    have ⟨_, _, idle⟩ := serveWaiting_takes h
    have parse := parseStaffIssue_fields more card zones staff from_ until_
    refine ⟨fun k valid new found => ⟨rewriteEntry k (freshEntry card (.staff zones) profile from_ until_ .service) s, ?_,
      rewriteEntry_rest .., entry_rewriteEntry_same .., fun j ne => entry_rewriteEntry_ne ne .., ?_, ?_, ?_, attn_rewriteEntry ..⟩,
      fun valid held => ?_, fun invalid => ?_, fun valid new none => ?_⟩
    · have taken := issueStaffKey_taken (a := ⟨card, zones, profile, from_, until_⟩) (s := s.begun .service .issueStaffKey)
        valid new found
      rw [rewriteEntry_begun, offer_begun _ _ _ _ (by rw [rewriteEntry_rest]; exact idle) (by decide)] at taken
      exact arbitrated_accepted h (not_truncated (by rfl)) rfl parse taken
    · rw [keys_rewriteEntry]
    · rw [keys_rewriteEntry]
    · rw [keys_rewriteEntry]
    · exact arbitrated_refused h (not_truncated (by rfl)) rfl parse (issueStaffKey_duplicate valid held)
    · exact arbitrated_refused h (not_truncated (by rfl)) rfl parse (issueStaffKey_invalid invalid)
    · exact arbitrated_refused h (not_truncated (by rfl)) rfl parse (issueStaffKey_full valid new none)

/-- Settles O22. -/
theorem issueGuestKey : Obligations.IssueGuestKey := by
  have long (card : CardId) (new : Bool) (profile : Fin 4) (from_ until_ : HotelTime) {rs : List RoomIx} {more : List Byte}
      (h : 8 ≤ 2 * rs.length + more.length) : ¬ (u64 card ++ uFlag (!new) ++ u8 profile.val ++ u32 from_ ++ u32 until_ ++
        u8 rs.length ++ (rs.map fun q => u16 q.val).flatten ++ more).length < 27 := by
    have rooms : ((rs.map fun q : RoomIx => u16 q.val).flatten).length = 2 * rs.length := by
      simp [List.length_flatten, Function.comp_def, Nat.mul_comm]
    simp only [List.length_append, rooms]
    simp
    omega
  refine ⟨fun card new profile from_ until_ r rs k more w => ?_, fun card new profile from_ until_ rs more code w => ?_⟩
  · intro s h few longEnough nodup valid rooms new_ limits limit found space
    have ⟨_, _, idle⟩ := serveWaiting_takes h
    obtain ⟨fresh, nodups⟩ := List.nodup_cons.mp nodup
    have parse := parseGuestIssue_fields card new profile from_ until_ (rs := r :: rs) (by simp) (Nat.succ_le_succ few) more
    generalize ha : (⟨card, new, profile.castLE (by decide), from_, until_, r :: rs⟩ : GuestIssue) = a at parse
    have free : s.issueRefusal a = none := by
      have within : ¬ ∃ q ∈ (if new then rs else r :: rs), 6 ≤ (s.room q).liveKeys := by
        rintro ⟨q, mem, full⟩
        cases new with
        | true => exact absurd (limits q mem) (Nat.not_lt.mpr full)
        | false =>
          rcases List.mem_cons.mp mem with rfl | mem
          · exact absurd (limit rfl) (Nat.not_lt.mpr full)
          · exact absurd (limits q mem) (Nat.not_lt.mpr full)
      rw [issueRefusal_eq]
      subst ha
      exact (if_neg (not_not.mpr ⟨nodup, valid⟩)).trans <| (if_neg fun ⟨q, mem, bad⟩ => bad (rooms q mem)).trans <|
        (if_neg (Bool.not_eq_true _ ▸ new_)).trans <| (if_neg within).trans <| (if_neg (by rw [found]; nofun)).trans <|
        if_neg fun ⟨isNew, full⟩ => absurd (space isNew) (Nat.not_lt.mpr full)
    have keys := keys_guestKeyCut a k r s
    have room (q : RoomIx) := room_guestKeyCut a k r q s
    have principal := room_issueStarted_same new r s
    have others {q : RoomIx} (ne : q ≠ r) := room_issueStarted_ne new ne s
    refine ⟨guestKeyCut a k r s, _, rfl, ?_, guestKeyCut_rest .., (entry_guestKeyCut_same ..).trans ?_, fun j ne => entry_guestKeyCut_ne _ ne r s,
      ?_, ?_, ?_, ?_, fun q mem => ?_, fun q out => ?_, ?_, attn_guestKeyCut ..⟩
    · subst ha
      have taken := issueGuestKey_taken (s := s.begun .front .issueGuestKey) free found rfl
      rw [guestKeyCut_begun, offer_begun _ _ _ _ (by rw [guestKeyCut_rest]; exact idle) (by decide), issueStarted_begun] at taken
      rw [show ((issueStarted new r s).begun .front .issueGuestKey).room r = (issueStarted new r s).room r from rfl,
        principal] at taken
      exact arbitrated_accepted h (long card new profile from_ until_ longEnough) rfl parse taken
    · subst ha
      rw [List.map_cons, principal, List.map_congr_left (l := rs) fun q mem => by rw [others (ne_of_mem_of_not_mem mem fresh)]]
      rfl
    · rw [keys]
    · rw [keys]
    · subst ha
      exact congrArg KeyRegister.scanQueue keys
    · subst ha
      rw [room, principal, List.count_cons_self, List.count_eq_zero_of_not_mem fresh]
      cases new <;> rfl
    · subst ha
      have ne := ne_of_mem_of_not_mem mem fresh
      rw [room, others ne, List.count_cons_of_ne ne.symm, List.count_eq_one_of_mem nodups mem]
    · subst ha
      have ne : q ≠ r := fun e => out (e ▸ List.mem_cons_self)
      rw [room, others ne, List.count_eq_zero_of_not_mem out]
      rfl
    · subst ha
      rw [keys]
      cases s.keys.lowArmed <;> simp
  · intro s h some_ few longEnough refused
    exact arbitrated_refused h (long card new profile from_ until_ longEnough) rfl
      (parseGuestIssue_fields card new profile from_ until_ some_ few more)
      (issueGuestKey_refused ((issueRefusal_eq _ _).trans refused.symm))

/-- Settles O23. -/
theorem retirement : Obligations.Retirement := by
  intro k how reason e s entry inService
  have rest := retiredKey_rest k how reason e s
  refine ⟨retiredKey k how reason e s, ?_, ?_, ?_, fun j ne => ?_, ?_, ?_, ?_, ?_, lowArmed_retiredKey entry how reason,
    room_retiredKey k how reason e s⟩
  · rw [retire_eq entry, room_of_guest]
  · rw [rest]
  · rw [rest]; exact tget_tset_same ..
  · rw [rest]; exact tget_tset_ne (by decide) _ _ _ _ ne.symm
  · rw [rest]
  · rw [rest]
  · rw [rest]
  · rw [rest]

end Sys2Proof.Settled
end

section
/-! The statements of "The Key Register" (chapter 2): changing a key's standing. -/

/- The joined text is checked with bounded memory: proofs are elaborated one after another, not each in a thread of its own. -/
set_option Elab.async false

namespace Sys2Proof.Machine

/-! ### REVOKE KEY (R29) -/

theorem foreignKey_iff (p : Port) (e : KeyEntry) : foreignKey p e = true ↔ p = .front ∧ e.issuer = .service := by
  simp [foreignKey]

theorem revokeKey_taken {p : Port} {card : CardId} {k : KeyIx} {e : KeyEntry} {s : State} (found : s.findCard card = some (k, e))
    (inService : e.standing.inService = true) (own : ¬ (p = .front ∧ e.issuer = .service)) :
    revokeKey p card s = accept [] (retire k .revoked .manual none s) := by
  simp [revokeKey, found, inService, foreignKey_iff, own]

theorem revokeKey_noEntry {p : Port} {card : CardId} {s : State} (none : s.findCard card = none) :
    revokeKey p card s = refuse .noEntry s := by
  simp only [revokeKey, none]

theorem revokeKey_state {p : Port} {card : CardId} {k : KeyIx} {e : KeyEntry} {s : State} (found : s.findCard card = some (k, e))
    (bad : e.standing.inService = false ∨ (p = .front ∧ e.issuer = .service)) : revokeKey p card s = refuse .state s := by
  simp only [revokeKey, found, foreignKey_iff, or_comm.mp bad, if_true]

/-! ### REPORT LOST (R30) -/

/-- The state once the entry that holds a lost card is revoked, where it is in service. -/
def lostRevoked (k : KeyIx) (e : KeyEntry) (s : State) : State := if e.standing.inService then retire k .revoked .lost none s else s

theorem lostRevoked_begun (k : KeyIx) (e : KeyEntry) {s : State} {p : Port} {c : Command}
    (idle : (s.port p).phase.isWorking = false) (d : c ≠ .flushJournal) :
    lostRevoked k e (s.begun p c) = (lostRevoked k e s).begun p c := by
  unfold lostRevoked
  split
  · exact retire_begun k .revoked .lost none idle d
  · rfl

theorem watchOf_lostRevoked (k : KeyIx) (e : KeyEntry) (s : State) (card : CardId) :
    (lostRevoked k e s).watchOf card = s.watchOf card := by
  unfold lostRevoked State.watchOf
  split
  · rw [retire_verdict]
  · rfl

theorem joinWatch_begun (x : WatchEntry) (s : State) (p : Port) (c : Command) :
    joinWatch x (s.begun p c) = (joinWatch x s).begun p c := rfl

/-- The lost card joins the Watch List unless it is listed (R30, R56). -/
theorem watchLost_eq (card : CardId) (s : State) :
    watchLost card s = if s.watchOf card ≠ none then s else joinWatch ⟨card, .alert, .lost⟩ s := by
  unfold watchLost
  cases s.watchOf card <;> rfl

theorem canWatch_iff (s : State) (card : CardId) :
    s.canWatch card = true ↔ s.watchOf card ≠ none ∨ s.verdict.watch.length < 8 := by
  unfold State.canWatch
  rw [Bool.or_eq_true, Option.isSome_iff_ne_none, decide_eq_true_iff]
  rfl

theorem reportLost_found {p : Port} {card : CardId} {k : KeyIx} {e : KeyEntry} {s : State} (found : s.findCard card = some (k, e))
    (own : ¬ (p = .front ∧ e.issuer = .service)) : reportLost p card s =
      if s.watchOf card ≠ none then accept [] (lostRevoked k e s)
      else if s.verdict.watch.length < 8 then accept [] (joinWatch ⟨card, .alert, .lost⟩ (lostRevoked k e s))
      else (lostRevoked k e s, some ⟨.watchFull, []⟩) := by
  have own' : ¬ foreignKey p e = true := (foreignKey_iff p e).not.mpr own
  simp only [reportLost, found]
  rw [if_neg own']
  change (if s.canWatch card = true then accept [] (watchLost card (lostRevoked k e s))
    else (lostRevoked k e s, some ⟨.watchFull, []⟩)) = _
  rw [watchLost_eq, watchOf_lostRevoked]
  simp only [canWatch_iff]
  by_cases listed : s.watchOf card ≠ none
  · rw [if_pos (.inl listed), if_pos listed, if_pos listed]
  · rw [if_neg listed, if_neg listed]
    exact if_congr (or_iff_right listed) rfl rfl

theorem reportLost_noEntry {p : Port} {card : CardId} {s : State} (none : s.findCard card = none) : reportLost p card s =
      if s.watchOf card ≠ .none then (s, some ⟨.noEntry, []⟩)
      else if s.verdict.watch.length < 8 then (joinWatch ⟨card, .alert, .lost⟩ s, some ⟨.noEntry, []⟩)
      else refuse .watchFull s := by
  simp only [reportLost, none]
  rw [watchLost_eq]
  simp only [canWatch_iff]
  by_cases listed : s.watchOf card ≠ .none
  · rw [if_pos (.inl listed), if_pos listed, if_pos listed]
  · rw [if_neg listed, if_neg listed]
    exact if_congr (or_iff_right listed) rfl rfl

theorem reportLost_state {p : Port} {card : CardId} {k : KeyIx} {e : KeyEntry} {s : State} (found : s.findCard card = some (k, e))
    (foreign : p = .front ∧ e.issuer = .service) : reportLost p card s = refuse .state s := by
  simp only [reportLost, found, (foreignKey_iff p e).mpr foreign, if_true]

/-! ### SUSPEND KEY and RESUME KEY (R31, R32) -/

/-- The state once a LIVE key is suspended. -/
def keySuspended (k : KeyIx) (e : KeyEntry) (s : State) : State :=
  (s.countedRooms e).foldl (fun t r => dropLive r t) (s.setEntry k { e with standing := .suspended })

/-- The state once a SUSPENDED key is resumed. -/
def keyResumed (k : KeyIx) (e : KeyEntry) (s : State) : State :=
  (s.countedRooms { e with standing := .live }).foldl (fun t r => addLive r t) (s.setEntry k { e with standing := .live })

theorem suspendKey_taken {card : CardId} {k : KeyIx} {e : KeyEntry} {s : State} (found : s.findCard card = some (k, e))
    (live : e.standing = .live) : suspendKey card s = accept [] (keySuspended k e s) := by
  simp only [suspendKey, found, live, ne_eq, not_true_eq_false, if_false]
  rfl

theorem suspendKey_noEntry {card : CardId} {s : State} (none : s.findCard card = none) : suspendKey card s = refuse .noEntry s := by
  simp only [suspendKey, none]

theorem suspendKey_state {card : CardId} {k : KeyIx} {e : KeyEntry} {s : State} (found : s.findCard card = some (k, e))
    (other : e.standing ≠ .live) : suspendKey card s = refuse .state s := by
  simp only [suspendKey, found, other, ne_eq, not_false_eq_true, if_true]

theorem keySuspended_begun (k : KeyIx) (e : KeyEntry) (s : State) (p : Port) (c : Command) :
    keySuspended k e (s.begun p c) = (keySuspended k e s).begun p c :=
  foldl_begun (f := fun t r => dropLive r t) (fun _ _ => rfl) (s.countedRooms e) (s.setEntry k { e with standing := .suspended })

theorem keyResumed_begun (k : KeyIx) (e : KeyEntry) (s : State) (p : Port) (c : Command) :
    keyResumed k e (s.begun p c) = (keyResumed k e s).begun p c :=
  foldl_begun (f := fun t r => addLive r t) (fun _ _ => rfl) (s.countedRooms { e with standing := .live })
    (s.setEntry k { e with standing := .live })

theorem keySuspended_rest (k : KeyIx) (e : KeyEntry) (s : State) : keySuspended k e s =
    { s with rooms := (keySuspended k e s).rooms, keys := (s.setEntry k { e with standing := .suspended }).keys } := by
  unfold keySuspended
  rw [foldl_dropLive_touches]
  rfl

theorem keyResumed_rest (k : KeyIx) (e : KeyEntry) (s : State) : keyResumed k e s =
    { s with rooms := (keyResumed k e s).rooms, keys := (s.setEntry k { e with standing := .live }).keys } := by
  unfold keyResumed
  rw [foldl_addLive_touches]
  rfl

theorem room_keySuspended (k : KeyIx) {e : KeyEntry} (live : e.standing = .live) (s : State) (r : RoomIx) :
    (keySuspended k e s).room r = { s.room r with liveKeys := (s.room r).liveKeys -
      (e.bindings.countP fun b => decide (b.room = r ∧ b.generation = (s.room r).generation)) } := by
  have counted := count_countedRooms s e r
  rw [if_pos live] at counted
  rw [← counted]
  exact room_foldl_dropLive r _ _

theorem room_keyResumed (k : KeyIx) (e : KeyEntry) (s : State) (r : RoomIx) :
    (keyResumed k e s).room r = { s.room r with liveKeys := (s.room r).liveKeys +
      (e.bindings.countP fun b => decide (b.room = r ∧ b.generation = (s.room r).generation)) } := by
  have counted := count_countedRooms s { e with standing := .live } r
  rw [if_pos rfl] at counted
  change _ = e.bindings.countP _ at counted
  rw [← counted]
  exact room_foldl_addLive r _ _

theorem isCurrent_iff (s : State) (b : Binding) : s.isCurrent b = true ↔ b.generation = (s.room b.room).generation :=
  decide_eq_true_iff

/-- A move to a target for which a binding is held (R20). -/
def State.movesTo (s : State) (b : Binding) (target : RoomIx) : Prop :=
  ∃ p, ScanJob.rebind b.room target b.generation p ∈ s.keys.scanQueue

theorem inRebindJob_iff (s : State) (b : Binding) : s.inRebindJob b = true ↔ ∃ target, s.movesTo b target := by
  unfold State.inRebindJob State.movesTo
  rw [List.any_eq_true]
  constructor
  · rintro ⟨j, mem, holds⟩
    split at holds
    · next source target g p =>
      obtain ⟨rfl, rfl⟩ := of_decide_eq_true holds
      exact ⟨target, p, mem⟩
    · cases holds
  · rintro ⟨target, p, mem⟩
    exact ⟨_, mem, decide_eq_true ⟨rfl, rfl⟩⟩

theorem movesTo_of_moveTarget {s : State} {b : Binding} {target : RoomIx} (h : s.moveTarget b = some target) :
    s.movesTo b target := by
  obtain ⟨j, mem, found⟩ := List.exists_of_findSome?_eq_some h
  split at found
  · split at found
    · next same =>
      obtain ⟨rfl, rfl⟩ := same
      cases found
      exact ⟨_, mem⟩
    · cases found
  · cases found

theorem moveTarget_isSome {s : State} {b : Binding} {target : RoomIx} (h : s.movesTo b target) : ∃ t, s.moveTarget b = some t := by
  obtain ⟨p, mem⟩ := h
  cases found : s.moveTarget b with
  | some t => exact ⟨t, rfl⟩
  | none =>
    have fails := List.findSome?_eq_none_iff.mp found _ mem
    exact nomatch (if_pos (⟨rfl, rfl⟩ : b.room = b.room ∧ b.generation = b.generation)).symm.trans fails

theorem liveHolders_eq (s : State) (b : Binding) : s.liveHolders b =
    s.keys.entries.count fun x => x.any fun y => decide (y.standing = .live ∧ b ∈ y.bindings) := by
  unfold State.liveHolders
  congr 1
  funext x
  cases x with
  | none => rfl
  | some y => simp

/-- A binding lets a key be resumed, case by case of its mark (R32). -/
theorem resumable_of {s : State} {b : Binding}
    (current : b.generation = (s.room b.room).generation → (s.room b.room).liveKeys + 1 ≤ 6)
    (held : b.generation ≠ (s.room b.room).generation → ∀ target, s.movesTo b target →
      (s.room target).liveKeys + s.liveHolders b + 1 ≤ 6) : s.resumable b = true := by
  unfold State.resumable State.bindingMark
  by_cases now : s.isCurrent b = true
  · simp only [now, if_true]
    exact decide_eq_true (current ((isCurrent_iff s b).mp now))
  · rw [if_neg now]
    by_cases job : s.inRebindJob b = true
    · rw [if_pos job]
      refine Option.all_eq_true_iff_get _ _ |>.mpr fun found => decide_eq_true ?_
      exact held ((isCurrent_iff s b).not.mp now) _ (movesTo_of_moveTarget (Option.some_get found).symm)
    · rw [if_neg job]

theorem not_resumable_of {s : State} {b : Binding}
    (h : (b.generation = (s.room b.room).generation ∧ 6 < (s.room b.room).liveKeys + 1) ∨
      (b.generation ≠ (s.room b.room).generation ∧ (∃ target, s.movesTo b target) ∧
        ∀ target, s.movesTo b target → 6 < (s.room target).liveKeys + s.liveHolders b + 1)) : s.resumable b = false := by
  unfold State.resumable State.bindingMark
  rcases h with ⟨current, full⟩ | ⟨stale, moves, full⟩
  · rw [if_pos ((isCurrent_iff s b).mpr current)]
    exact decide_eq_false (Nat.not_le.mpr full)
  · rw [if_neg ((isCurrent_iff s b).not.mpr stale), if_pos ((inRebindJob_iff s b).mpr moves)]
    obtain ⟨target, move⟩ := moves
    obtain ⟨t, found⟩ := moveTarget_isSome move
    dsimp only
    rw [found]
    exact decide_eq_false (Nat.not_le.mpr (full t (movesTo_of_moveTarget found)))

theorem resumeKey_taken {card : CardId} {k : KeyIx} {e : KeyEntry} {s : State} (found : s.findCard card = some (k, e))
    (suspended : e.standing = .suspended) (room : ∀ b ∈ e.bindings, s.resumable b = true) :
    resumeKey card s = accept [] (keyResumed k e s) := by
  have all : e.bindings.all s.resumable = true := List.all_eq_true.mpr room
  simp only [resumeKey, found, suspended, all, ne_eq, not_true_eq_false, if_false, Bool.not_true, Bool.false_eq_true]
  rfl

theorem resumeKey_noEntry {card : CardId} {s : State} (none : s.findCard card = none) : resumeKey card s = refuse .noEntry s := by
  simp only [resumeKey, none]

theorem resumeKey_state {card : CardId} {k : KeyIx} {e : KeyEntry} {s : State} (found : s.findCard card = some (k, e))
    (other : e.standing ≠ .suspended) : resumeKey card s = refuse .state s := by
  simp only [resumeKey, found, other, ne_eq, not_false_eq_true, if_true]

theorem resumeKey_limit {card : CardId} {k : KeyIx} {e : KeyEntry} {s : State} (found : s.findCard card = some (k, e))
    (suspended : e.standing = .suspended) {b : Binding} (mem : b ∈ e.bindings) (full : s.resumable b = false) :
    resumeKey card s = refuse .limit s := by
  have all : e.bindings.all s.resumable = false := List.all_eq_false.mpr ⟨b, mem, by rw [full]; exact Bool.false_ne_true⟩
  simp only [resumeKey, found, suspended, all, ne_eq, not_true_eq_false, if_false, Bool.not_false, if_true]

/-! ### EXTEND KEY (R33) -/

theorem parseExtendKey_fields (card : CardId) (until_ : HotelTime) (more : List Byte) :
    parseExtendKey (u64 card ++ u32 until_ ++ more) = some (card, until_) := by
  have cardRead : cardAt (u64 card ++ u32 until_ ++ more) 0 = card := by
    simpa only [List.append_assoc, List.nil_append] using cardAt_u64 _ card [] 0 rfl
  have untilRead : u32At (u64 card ++ u32 until_ ++ more) 8 = until_ := by
    simpa only [List.append_assoc] using u32At_u32 more until_ (u64 card) 8 rfl
  unfold parseExtendKey
  rw [cardRead, untilRead]

theorem extendKey_noEntry {card : CardId} {until_ : HotelTime} {s : State} (none : s.findCard card = none) :
    extendKey (card, until_) s = refuse .noEntry s := by
  simp only [extendKey, none]

theorem extendKey_found {card : CardId} {until_ : HotelTime} {k : KeyIx} {e : KeyEntry} {s : State}
    (found : s.findCard card = some (k, e)) : extendKey (card, until_) s =
      if e.issuer = .service ∨ e.standing.inService = false then refuse .state s
      else if until_ ≤ e.validFrom then refuse .badParam s
      else accept [] (s.setEntry k { e with validUntil := until_ }) := by
  simp only [extendKey, found, Bool.not_eq_true', decide_eq_false_iff_not, BitVec.not_lt]

end Sys2Proof.Machine

namespace Sys2Proof.Settled

open Sys2Proof.Machine

/-- Settles O24. -/
theorem revokeAndReportLost : Obligations.RevokeAndReportLost := by
  refine ⟨fun p card more w h own => ?_, fun p card more w h own => ?_⟩
  · intro s
    have ⟨_, _, idle⟩ := serveWaiting_takes h
    have permitted : Command.revokeKey.permitted p = true := by cases p <;> first | rfl | exact absurd rfl own
    have parse := parseCard_u64 more card
    refine ⟨fun k e found inService own => ?_, fun none => ?_, fun k e found bad => ?_⟩
    · have taken := revokeKey_taken (s := s.begun p .revokeKey) found inService own
      rw [retire_begun _ _ _ _ (by exact idle) (by decide)] at taken
      exact arbitrated_accepted h (not_truncated (by rfl)) permitted parse taken
    · exact arbitrated_refused h (not_truncated (by rfl)) permitted parse (revokeKey_noEntry none)
    · exact arbitrated_refused h (not_truncated (by rfl)) permitted parse (revokeKey_state found bad)
  · intro s
    have ⟨_, _, idle⟩ := serveWaiting_takes h
    have permitted : Command.reportLost.permitted p = true := by cases p <;> first | rfl | exact absurd rfl own
    have parse := parseCard_u64 more card
    refine ⟨fun k e found own => ?_, fun none => ?_, fun k e found front service => ?_⟩
    · have taken := reportLost_found (s := s.begun p .reportLost) found own
      rw [lostRevoked_begun k e (by exact idle) (by decide), joinWatch_begun] at taken
      by_cases listed : s.watchOf card ≠ none
      · exact (arbitrated_accepted h (not_truncated (by rfl)) permitted parse (taken.trans (if_pos listed))).trans
          (congrArg _ (if_pos listed).symm)
      · refine Eq.trans ?_ (congrArg _ (if_neg listed).symm)
        replace taken := taken.trans (if_neg listed)
        by_cases space : s.verdict.watch.length < 8
        · exact (arbitrated_accepted h (not_truncated (by rfl)) permitted parse (taken.trans (if_pos space))).trans
            (congrArg _ (if_pos space).symm)
        · exact (arbitrated_coded h (not_truncated (by rfl)) permitted parse (taken.trans (if_neg space))).trans
            (congrArg _ (if_neg space).symm)
    · have taken := reportLost_noEntry (p := p) (s := s.begun p .reportLost) none
      by_cases listed : s.watchOf card ≠ .none
      · rw [if_pos listed]
        exact arbitrated_coded h (not_truncated (by rfl)) permitted parse (taken.trans (if_pos listed))
      · rw [if_neg listed]
        replace taken := taken.trans (if_neg listed)
        by_cases space : s.verdict.watch.length < 8
        · rw [if_pos space]
          exact arbitrated_coded h (not_truncated (by rfl)) permitted parse (taken.trans (if_pos space))
        · rw [if_neg space]
          exact arbitrated_refused h (not_truncated (by rfl)) permitted parse (taken.trans (if_neg space))
    · exact arbitrated_refused h (not_truncated (by rfl)) permitted parse (reportLost_state found ⟨front, service⟩)

/-- Settles O25. -/
theorem suspendAndResume : Obligations.SuspendAndResume := by
  intro card more w h s
  have parse := parseCard_u64 more card
  refine ⟨fun none => ⟨?_, ?_⟩, fun k e found => ?_⟩
  · exact arbitrated_refused h (not_truncated (by rfl)) rfl parse (suspendKey_noEntry none)
  · exact arbitrated_refused h (not_truncated (by rfl)) rfl parse (resumeKey_noEntry none)
  intro current moves held
  have holders (b : Binding) : s.liveHolders b = held b := liveHolders_eq s b
  refine ⟨fun live => ⟨keySuspended k e s, ?_, keySuspended_rest k e s, room_keySuspended k live s⟩, fun other => ?_, fun other => ?_,
    fun suspended room => ⟨keyResumed k e s, ?_, keyResumed_rest k e s, room_keyResumed k e s⟩, fun suspended ⟨b, mem, full⟩ => ?_⟩
  · exact arbitrated_accepted h (not_truncated (by rfl)) rfl parse ((suspendKey_taken (s := s.begun .service .suspendKey) found live).trans
      (congrArg (accept _) (keySuspended_begun k e s _ _)))
  · exact arbitrated_refused h (not_truncated (by rfl)) rfl parse (suspendKey_state found other)
  · exact arbitrated_refused h (not_truncated (by rfl)) rfl parse (resumeKey_state found other)
  · have resumable (b : Binding) (mem : b ∈ e.bindings) : s.resumable b = true :=
      resumable_of (room b mem).1 fun stale target move => by
        rw [holders]
        exact (room b mem).2 stale target move
    exact arbitrated_accepted h (not_truncated (by rfl)) rfl parse ((resumeKey_taken (s := s.begun .service .resumeKey) found suspended
      resumable).trans (congrArg (accept _) (keyResumed_begun k e s _ _)))
  · rw [← holders] at full
    exact arbitrated_refused h (not_truncated (by rfl)) rfl parse
      (resumeKey_limit (s := s.begun .service .resumeKey) found suspended mem (not_resumable_of full))

/-- Settles O26. -/
theorem extendKey : Obligations.ExtendKey := by
  intro card until_ more w h s
  have parse := parseExtendKey_fields card until_ more
  refine ⟨fun none => ?_, fun k e found => ?_⟩
  · exact arbitrated_refused h (not_truncated (by rfl)) rfl parse (extendKey_noEntry none)
  · have taken := extendKey_found (until_ := until_) (s := s.begun .front .extendKey) found
    by_cases bad : e.issuer = .service ∨ e.standing.inService = false
    · rw [if_pos bad] at taken ⊢
      exact arbitrated_refused h (not_truncated (by rfl)) rfl parse taken
    · rw [if_neg bad] at taken ⊢
      by_cases early : until_ ≤ e.validFrom
      · rw [if_pos early] at taken ⊢
        exact arbitrated_refused h (not_truncated (by rfl)) rfl parse taken
      · rw [if_neg early] at taken ⊢
        exact arbitrated_accepted h (not_truncated (by rfl)) rfl parse taken

end Sys2Proof.Settled
end

section
/-! The statements of "The Key Register" (chapter 2): scans and the claims of the Verdict Engine. -/

/- The joined text is checked with bounded memory: proofs are elaborated one after another, not each in a thread of its own. -/
set_option Elab.async false

namespace Sys2Proof.Machine

/-! ### REVOKE ROOM KEYS (R34) -/

theorem revokeRoomKeys_eq (r : RoomIx) (s : State) : revokeRoomKeys r s =
    if (s.room r).stayInProgress = false then refuse .state s
    else if 8 ≤ s.keys.scanQueue.length then refuse .scanFull s
    else accept [] (pushJob (.revokeRoom r .manual .front) s) := by
  unfold revokeRoomKeys
  simp only [scanFull_iff]

/-! ### One step of the walk (R37) -/

theorem exec_scanJobStart {s : State} (run : s.inRun = true) (idle : s.keys.walk = none) (jobs : s.keys.scanQueue ≠ []) :
    exec .scanJobStart s = .next { s with keys := { s.keys with walk := some 0 } } :=
  congrArg Host.Outcome.next (if_pos ⟨run, idle, jobs⟩)

/-- A step judges the entry and goes on, or completes the job at the last index. -/
theorem exec_scanStep {s : State} {k : KeyIx} {j : ScanJob} {rest : List ScanJob} (run : s.inRun = true)
    (walk : s.keys.walk = some k) (queue : s.keys.scanQueue = j :: rest) : exec .scanStep s = .next
      (if h : k.val + 1 < 2048 then walkTo (some ⟨k.val + 1, h⟩) (judgeEntry j k (serveWaiting s))
       else finishJob j (judgeEntry j k (serveWaiting s))) := by
  refine congrArg Host.Outcome.next ?_
  simp only [scanStep, run, walk, queue]

/-- A FREE entry is passed over. -/
theorem judgeEntry_free {j : ScanJob} {k : KeyIx} {s : State} (free : s.entry k = none) : judgeEntry j k s = s := by
  simp only [judgeEntry, judgeInService, free]

/-- A retired entry is passed over. -/
theorem judgeEntry_retired {j : ScanJob} {k : KeyIx} {e : KeyEntry} {s : State} (entry : s.entry k = some e)
    (retired : e.standing.inService = false) : judgeEntry j k s = s := by
  simp only [judgeEntry, judgeInService, entry, retired, Bool.false_eq_true, if_false]

section
variable {k : KeyIx} {e : KeyEntry} {s : State} (entry : s.entry k = some e) (inService : e.standing.inService = true)
include entry inService

theorem judgeEntry_expiry : judgeEntry .expiry k s = judgeExpiry k e s := by
  simp only [judgeEntry, judgeInService, entry, inService, if_true]

theorem judgeEntry_replace (r : RoomIx) (p : Port) : judgeEntry (.replace r p) k s = judgeReplace r k e s := by
  simp only [judgeEntry, judgeInService, entry, inService, if_true]

theorem judgeEntry_revokeRoom (r : RoomIx) (why : RetireReason) (p : Port) :
    judgeEntry (.revokeRoom r why p) k s = judgeRevokeRoom r why k e s := by
  simp only [judgeEntry, judgeInService, entry, inService, if_true]

theorem judgeEntry_rebind (a b : RoomIx) (g : BitVec 8) (p : Port) :
    judgeEntry (.rebind a b g p) k s = judgeRebind a b g k e s := by
  simp only [judgeEntry, judgeInService, entry, inService, if_true]

end

/-! ### The judgement of an entry, job by job (R38 to R40) -/

theorem any_room_iff (e : KeyEntry) (r : RoomIx) :
    (e.bindings.any fun b => decide (b.room = r)) = true ↔ ∃ b ∈ e.bindings, b.room = r := by
  simp only [List.any_eq_true, decide_eq_true_eq]

theorem filter_other_room_nil_iff (e : KeyEntry) (r : RoomIx) :
    e.bindings.filter (fun b => decide (b.room ≠ r)) = [] ↔ ∀ b ∈ e.bindings, b.room = r := by
  simp only [List.filter_eq_nil_iff, decide_eq_true_eq, ne_eq, not_not]

theorem judgeReplace_other {r : RoomIx} {k : KeyIx} {e : KeyEntry} {s : State} (other : ∀ b ∈ e.bindings, b.room ≠ r) :
    judgeReplace r k e s = s := by
  have none : (e.bindings.any fun b => decide (b.room = r)) = false :=
    List.any_eq_false.mpr fun b mem => by rw [decide_eq_true_iff]; exact other b mem
  simp only [judgeReplace, none, Bool.not_false, if_true]

theorem judgeReplace_spent {r : RoomIx} {k : KeyIx} {e : KeyEntry} {s : State} (bound : ∃ b ∈ e.bindings, b.room = r)
    (stale : ∀ b ∈ e.bindings, s.bindingMark b = .stale) : judgeReplace r k e s = retire k .revoked .replaced none s := by
  have all : (e.bindings.all fun b => decide (s.bindingMark b = .stale)) = true :=
    List.all_eq_true.mpr fun b mem => decide_eq_true (stale b mem)
  simp only [judgeReplace, (any_room_iff e r).mpr bound, all, Bool.not_true, Bool.false_eq_true, if_false, if_true]

theorem judgeReplace_kept {r : RoomIx} {k : KeyIx} {e : KeyEntry} {s : State} (bound : ∃ b ∈ e.bindings, b.room = r)
    (good : ∃ b ∈ e.bindings, s.bindingMark b ≠ .stale) : judgeReplace r k e s =
      setBindings k e (e.bindings.filter fun b => !(decide (b.room = r) && decide (s.bindingMark b = .stale))) s := by
  obtain ⟨b, mem, mark⟩ := good
  have all : (e.bindings.all fun b => decide (s.bindingMark b = .stale)) = false :=
    List.all_eq_false.mpr ⟨b, mem, by rw [decide_eq_true_iff]; exact mark⟩
  simp only [judgeReplace, (any_room_iff e r).mpr bound, all, Bool.not_true, Bool.false_eq_true, if_false]

theorem judgeRevokeRoom_other {r : RoomIx} {why : RetireReason} {k : KeyIx} {e : KeyEntry} {s : State}
    (other : ∀ b ∈ e.bindings, b.room ≠ r) : judgeRevokeRoom r why k e s = s := by
  have none : e.bindings.filter (fun b => decide (b.room = r)) = [] :=
    List.filter_eq_nil_iff.mpr fun b mem => by rw [decide_eq_true_iff]; exact other b mem
  simp only [judgeRevokeRoom, none, if_true]

/-- The state once a room's bindings are taken from an entry, and the key uncounted where one was current (R38). -/
def roomCut (r : RoomIx) (k : KeyIx) (e : KeyEntry) (s : State) : State :=
  if e.standing = .live ∧ ∃ b ∈ e.bindings, b.room = r ∧ b.generation = (s.room r).generation then
    (setBindings k e (e.bindings.filter fun b => decide (b.room ≠ r)) s).modRoom r fun rm =>
      { rm with liveKeys := rm.liveKeys - 1 }
  else setBindings k e (e.bindings.filter fun b => decide (b.room ≠ r)) s

theorem judgeRevokeRoom_bound {r : RoomIx} {why : RetireReason} {k : KeyIx} {e : KeyEntry} {s : State}
    (bound : ∃ b ∈ e.bindings, b.room = r) : judgeRevokeRoom r why k e s =
      if ∀ b ∈ e.bindings, b.room = r then retire k .revoked why (some r) (roomCut r k e s) else roomCut r k e s := by
  obtain ⟨b, mem, same⟩ := bound
  have some_ : e.bindings.filter (fun b => decide (b.room = r)) ≠ [] :=
    List.ne_nil_of_mem (List.mem_filter.mpr ⟨mem, decide_eq_true same⟩)
  have current : ((e.bindings.filter fun b => decide (b.room = r)).any s.isCurrent) = true ↔
      ∃ b ∈ e.bindings, b.room = r ∧ b.generation = (s.room r).generation := by
    simp only [List.any_filter, List.any_eq_true, Bool.and_eq_true, decide_eq_true_eq, isCurrent_iff]
    exact exists_congr fun b => and_congr_right fun _ => and_congr_right fun e => by rw [e]
  simp only [judgeRevokeRoom, some_, if_false, current, filter_other_room_nil_iff]
  rfl

theorem rebound_inPlace {bs : List Binding} {source target : Binding} (other : ∀ b ∈ bs, b.room ≠ target.room) :
    rebound bs source target = bs.map fun b => if b = source then target else b := by
  have none : (bs.any fun b => decide (b.room = target.room)) = false :=
    List.any_eq_false.mpr fun b mem => by rw [decide_eq_true_iff]; exact other b mem
  simp only [rebound, none, Bool.false_eq_true, if_false]

theorem rebound_into {bs : List Binding} {source target : Binding} (held : ∃ b ∈ bs, b.room = target.room) :
    rebound bs source target =
      (bs.filter fun b => decide (b ≠ source)).map fun b => if b.room = target.room then target else b := by
  have any : (bs.any fun b => decide (b.room = target.room)) = true := by
    simpa only [List.any_eq_true, decide_eq_true_eq] using held
  simp only [rebound, any, if_true]

theorem judgeRebind_held {a b : RoomIx} {g : BitVec 8} {k : KeyIx} {e : KeyEntry} {s : State}
    (mem : (⟨a, g⟩ : Binding) ∈ e.bindings) : judgeRebind a b g k e s = rebindEntry k e ⟨a, g⟩ b s := by
  have contains : e.bindings.contains ⟨a, g⟩ = true := List.contains_iff_mem.mpr mem
  simp only [judgeRebind, contains, if_true]

theorem judgeRebind_cut {a b : RoomIx} {g : BitVec 8} {k : KeyIx} {e : KeyEntry} {s : State}
    (out : (⟨a, g⟩ : Binding) ∉ e.bindings) (bound : ∃ x ∈ e.bindings, x.room = a) : judgeRebind a b g k e s =
      if ∀ x ∈ e.bindings, x.room = a then
        retire k .revoked .replaced none (setBindings k e (e.bindings.filter fun x => decide (x.room ≠ a)) s)
      else setBindings k e (e.bindings.filter fun x => decide (x.room ≠ a)) s := by
  have contains : e.bindings.contains ⟨a, g⟩ = false := Bool.eq_false_iff.mpr (List.contains_iff_mem.not.mpr out)
  simp only [judgeRebind, contains, (any_room_iff e a).mpr bound, filter_other_room_nil_iff, Bool.not_true, Bool.false_eq_true,
    if_false]

theorem judgeRebind_other {a b : RoomIx} {g : BitVec 8} {k : KeyIx} {e : KeyEntry} {s : State}
    (other : ∀ x ∈ e.bindings, x.room ≠ a) : judgeRebind a b g k e s = s := by
  have contains : e.bindings.contains ⟨a, g⟩ = false :=
    Bool.eq_false_iff.mpr (List.contains_iff_mem.not.mpr fun mem => other _ mem rfl)
  have none : (e.bindings.any fun b => decide (b.room = a)) = false :=
    List.any_eq_false.mpr fun b mem => by rw [decide_eq_true_iff]; exact other b mem
  simp only [judgeRebind, contains, none, Bool.not_false, Bool.false_eq_true, if_false, if_true]

/-! ### The completion of a job (R37) -/

theorem scanQueue_retire (k : KeyIx) (how : RetiredAs) (reason : RetireReason) (jobRoom : Option RoomIx) (s : State) :
    (retire k how reason jobRoom s).keys.scanQueue = s.keys.scanQueue := by
  cases entry : s.entry k with
  | none => simp only [retire, entry]
  | some e => rw [retire_eq entry, offer_keys, retiredKey_rest]

theorem scanQueue_rebindEntry (k : KeyIx) (e : KeyEntry) (b : Binding) (target : RoomIx) (s : State) :
    (rebindEntry k e b target s).keys.scanQueue = s.keys.scanQueue := by
  unfold rebindEntry
  dsimp only
  split <;> rfl

theorem scanQueue_judgeEntry (j : ScanJob) (k : KeyIx) (s : State) : (judgeEntry j k s).keys.scanQueue = s.keys.scanQueue := by
  unfold judgeEntry judgeInService
  split
  · split
    · cases j with
      | revokeRoom r reason p =>
        dsimp only [judgeRevokeRoom]
        split
        · rfl
        · split
          · rw [scanQueue_retire]; split <;> rfl
          · split <;> rfl
      | replace r p =>
        dsimp only [judgeReplace]
        split
        · rfl
        · split
          · exact scanQueue_retire ..
          · rfl
      | rebind a b g p =>
        dsimp only [judgeRebind]
        split
        · exact scanQueue_rebindEntry ..
        · split
          · rfl
          · split
            · exact scanQueue_retire ..
            · rfl
      | expiry =>
        dsimp only [judgeExpiry]
        split
        · exact scanQueue_retire ..
        · rfl
    · rfl
  · rfl

/-- A job that has judged its last entry leaves the queue, and the engine is idle. -/
def jobLeft (rest : List ScanJob) (s : State) : State := { s with keys := { s.keys with scanQueue := rest, walk := none } }

theorem exec_scanStep_last {s : State} {k : KeyIx} {j : ScanJob} {rest : List ScanJob} (last : k.val = 2047)
    (run : s.inRun = true) (walk : s.keys.walk = some k) (queue : s.keys.scanQueue = j :: rest) :
    exec .scanStep s = .next (finishJob j (judgeEntry j k (serveWaiting s))) ∧
      (judgeEntry j k (serveWaiting s)).keys.scanQueue.drop 1 = rest := by
  constructor
  · rw [exec_scanStep run walk queue, dif_neg (by omega)]
  · rw [scanQueue_judgeEntry, serveWaiting_scanQueue, queue]
    rfl

theorem scanDoneAt_eq (r : RoomIx) (s : State) : scanDoneAt r s =
    if s.charge.sessionOfRoom r = none then vacate r (s.modRoom r fun rm => { rm with closing := some .scanDone })
    else s.modRoom r fun rm => { rm with closing := some .scanDone } := by
  unfold scanDoneAt settleRoom
  rw [room_modRoom_same, modRoom_charge]
  simp only [true_and]

/-! ### Vacating a room (R6) -/

/-- The room itself once it is vacated. -/
def Room.vacated (rm : Room) : Room :=
  { rm with
    phase := match rm.phase with
      | .closing => .vacant
      | .blocked _ why => .blocked .vacant why
      | other => other
    closing := none, folio := none, privacy := false, makeup := false }

theorem vacated_eq {rm : Room} (h : rm.phase = .closing ∨ rm.isBlocked = true) : rm.vacated = { rm with
    phase := match rm.phase with | .blocked _ why => .blocked .vacant why | _ => .vacant
    closing := none, folio := none, privacy := false, makeup := false } := by
  unfold Room.isBlocked at h
  unfold Room.vacated
  cases phase : rm.phase <;> simp_all

/-- A vacated room before ROOM_VACATED is raised. -/
def roomVacated (r : RoomIx) (s : State) : State :=
  writePrimary r .privacy false (writePrimary r .makeup false (removeFromFolio (s.room r).folio r (s.modRoom r Room.vacated)))

theorem vacate_eq (r : RoomIx) (s : State) : vacate r s = raise .front .roomVacated (roomVacated r s) := rfl

theorem roomVacated_rest (r : RoomIx) (s : State) : roomVacated r s = { s with
    rooms := (s.modRoom r Room.vacated).rooms, charge := (roomVacated r s).charge, lamps := (roomVacated r s).lamps
    attn := (roomVacated r s).attn } := by
  unfold roomVacated
  rw [removeFromFolio_touches]
  rfl

theorem lamp_removeFromFolio (f : Option FolioIx) (r : RoomIx) (s : State) : (removeFromFolio f r s).lamps = s.lamps := by
  rw [removeFromFolio_touches]

theorem lamp_roomVacated_same (r : RoomIx) (s : State) : (roomVacated r s).lamp r =
    { s.lamp r with primary := { (s.lamp r).primary with privacy := false, makeup := false } } := by
  unfold roomVacated writePrimary
  rw [lamp_modLamp_same, lamp_modLamp_same]
  unfold State.lamp
  rw [lamp_removeFromFolio]
  rfl

theorem lamp_roomVacated_ne {r q : RoomIx} (h : q ≠ r) (s : State) : (roomVacated r s).lamp q = s.lamp q := by
  unfold roomVacated writePrimary
  rw [lamp_modLamp_ne _ _ h.symm, lamp_modLamp_ne _ _ h.symm]
  unfold State.lamp
  rw [lamp_removeFromFolio]
  rfl

theorem sessionsOf_zero_iff (c : ChargeUnit) (f : FolioIx) : c.sessionsOf f = 0 ↔ ∀ x ∈ c.sessions, x.folio ≠ some f := by
  simp only [ChargeUnit.sessionsOf, List.countP_eq_zero, decide_eq_true_eq, ne_eq]

/-- What is left of a folio whose CLOSING room is vacated (R113, R116). -/
theorem folio_roomVacated {r : RoomIx} {s : State} {f : FolioIx} (h : (s.room r).folio = some f) :
    if (s.folio f).state = .closing ∧ (s.folio f).rooms.erase r = [] ∧ (s.folio f).pendingLines = 0 ∧
        (∀ x ∈ s.charge.sessions, x.folio ≠ some f) then
      (roomVacated r s).charge = (s.modFolio f fun x => { x with rooms := [], state := .free, allowance := 0, spent := 0 }).charge ∧
      (roomVacated r s).attn = (raise .front .folioDrained (raise .charge .folioDrained s)).attn
    else (roomVacated r s).charge = (s.modFolio f fun x => { x with rooms := x.rooms.erase r }).charge ∧
      (roomVacated r s).attn = s.attn := by
  have folio : ((s.modRoom r Room.vacated).modFolio f fun x => { x with rooms := x.rooms.erase r }).folio f =
      { s.folio f with rooms := (s.folio f).rooms.erase r } := folio_modFolio_same ..
  have drains : settleFolio f ((s.modRoom r Room.vacated).modFolio f fun x => { x with rooms := x.rooms.erase r }) =
      if (s.folio f).state = .closing ∧ (s.folio f).rooms.erase r = [] ∧ (s.folio f).pendingLines = 0 ∧
        (∀ x ∈ s.charge.sessions, x.folio ≠ some f) then
        raise .front .folioDrained (raise .charge .folioDrained
          (((s.modRoom r Room.vacated).modFolio f fun x => { x with rooms := x.rooms.erase r }).modFolio f fun x =>
            { x with state := .free, allowance := 0, spent := 0 }))
      else (s.modRoom r Room.vacated).modFolio f fun x => { x with rooms := x.rooms.erase r } := by
    unfold settleFolio
    rw [folio]
    exact if_congr (and_congr_right fun _ => and_congr_right fun _ => and_congr_right fun _ => sessionsOf_zero_iff s.charge f) rfl rfl
  unfold roomVacated removeFromFolio
  rw [h]
  dsimp only
  rw [drains]
  split
  · next closed =>
    refine ⟨?_, rfl⟩
    have twice := tmod_tmod s.charge.folios f (fun x => { x with rooms := x.rooms.erase r }) fun x =>
      { x with state := .free, allowance := 0, spent := 0 }
    have emptied := tmod_congr s.charge.folios f
      (fun x => { x with rooms := x.rooms.erase r, state := .free, allowance := 0, spent := 0 })
      (fun x => { x with rooms := [], state := .free, allowance := 0, spent := 0 }) (congrArg (fun rooms : List RoomIx =>
        { s.folio f with rooms := rooms, state := .free, allowance := 0, spent := 0 }) closed.2.1)
    exact congrArg (fun v => { s.charge with folios := v }) (twice.trans emptied)
  · exact ⟨rfl, rfl⟩

/-! ### The claims of the Verdict Engine (R43 to R45) -/

/-- The state once the oldest claim is taken from the claims that wait. -/
def claimsLeft (rest : List VeClaim) (s : State) : State := { s with keys := { s.keys with claims := rest } }

theorem exec_useReport {s : State} {c : VeClaim} {rest : List VeClaim} (run : s.inRun = true) (claims : s.keys.claims = c :: rest)
    (use : c.isUse = true) : exec .useReport s = .next (takeClaim c (claimsLeft rest s)) := by
  refine congrArg Host.Outcome.next ?_
  unfold serveClaim
  rw [run, claims, List.find?_cons_of_pos use, List.eraseP_cons_of_pos use]
  rfl

theorem exec_rebindClaim {s : State} {c : VeClaim} {rest : List VeClaim} (run : s.inRun = true) (claims : s.keys.claims = c :: rest)
    (rebind : c.isUse = false) : exec .rebindClaim s = .next (takeClaim c (claimsLeft rest s)) := by
  have kind : (!c.isUse) = true := by rw [rebind]; rfl
  refine congrArg Host.Outcome.next ?_
  unfold serveClaim
  rw [run, claims, List.find?_cons_of_pos (p := fun c : VeClaim => !c.isUse) kind,
    List.eraseP_cons_of_pos (p := fun c : VeClaim => !c.isUse) kind]
  rfl

theorem takeClaim_use {k : KeyIx} {card : CardId} {used : Bool} {arrival : Stamp} {e : KeyEntry} {s : State}
    (entry : s.entry k = some e) (holds : e.card = card) :
    takeClaim (.use k card used arrival false) s = s.setEntry k (e.reported used arrival) := by
  simp only [takeClaim, entry, holds, and_self, if_true]

theorem takeClaim_use_lost {k : KeyIx} {card : CardId} {used : Bool} {arrival : Stamp} {w : Bool} {s : State}
    (lost : w = true ∨ ∀ e, s.entry k = some e → e.card ≠ card) : takeClaim (.use k card used arrival w) s = s := by
  cases entry : s.entry k with
  | none => simp only [takeClaim, entry]
  | some e =>
    simp only [takeClaim, entry]
    exact if_neg fun ⟨holds, fresh⟩ => lost.elim (fun w => by rw [w] at fresh; cases fresh) fun other => other e entry holds

theorem takeClaim_rebind {k : KeyIx} {card : CardId} {m : MovedFrom} {target : RoomIx} {e : KeyEntry} {s : State}
    (entry : s.entry k = some e) (holds : e.card = card) (inService : e.standing.inService = true)
    (mem : (⟨m.source, m.generation⟩ : Binding) ∈ e.bindings) :
    takeClaim (.rebind k card m target false) s = rebindEntry k e ⟨m.source, m.generation⟩ target s := by
  have contains : e.bindings.contains ⟨m.source, m.generation⟩ = true := List.contains_iff_mem.mpr mem
  simp only [takeClaim, entry, holds, inService, contains, and_self, if_true]

theorem takeClaim_rebind_lost {k : KeyIx} {card : CardId} {m : MovedFrom} {target : RoomIx} {w : Bool} {s : State}
    (lost : w = true ∨ ∀ e, s.entry k = some e → e.card ≠ card ∨ e.standing.inService = false ∨
      (⟨m.source, m.generation⟩ : Binding) ∉ e.bindings) : takeClaim (.rebind k card m target w) s = s := by
  cases entry : s.entry k with
  | none => simp only [takeClaim, entry]
  | some e =>
    simp only [takeClaim, entry]
    refine if_neg fun ⟨holds, fresh, inService, contains⟩ => ?_
    rcases lost with w | lost
    · rw [w] at fresh
      cases fresh
    · rcases lost e entry with card | retired | out
      · exact card holds
      · rw [retired] at inService
        cases inService
      · exact out (List.contains_iff_mem.mp contains)

end Sys2Proof.Machine

namespace Sys2Proof.Settled

open Sys2Proof.Machine

/-- Settles O27. -/
theorem scanStep : Obligations.ScanStep := by
  refine ⟨fun r more w => ⟨fun h => ?_, exec_scanJobStart⟩, fun k h j rest w run walk queue => ?_, fun k j s =>
    ⟨judgeEntry_free, fun e entry => ⟨judgeEntry_retired entry, fun inService => ?_⟩⟩⟩
  · intro s
    have parse := parseRoom_u16 more r
    have taken := revokeRoomKeys_eq r (s.begun .front .revokeRoomKeys)
    by_cases none : (s.room r).stayInProgress = false
    · rw [if_pos none]
      exact arbitrated_refused h (not_truncated (by rfl)) rfl parse (taken.trans (if_pos none))
    · rw [if_neg none]
      replace taken := taken.trans (if_neg none)
      by_cases full : 8 ≤ s.keys.scanQueue.length
      · rw [if_pos full]
        exact arbitrated_refused h (not_truncated (by rfl)) rfl parse (taken.trans (if_pos full))
      · rw [if_neg full]
        rw [pushJob_begun] at taken
        exact arbitrated_accepted h (not_truncated (by rfl)) rfl parse (taken.trans (if_neg full))
  · rw [exec_scanStep run walk queue, dif_pos h]
    rfl
  · intro binding
    refine ⟨?_, ?_, ?_, ?_, ?_, ?_⟩
    · rintro rfl
      exact judgeEntry_expiry entry inService
    · rintro r p rfl bound stale
      exact (judgeEntry_replace entry inService r p).trans (judgeReplace_spent bound stale)
    · rintro r p rfl bound good
      exact (judgeEntry_replace entry inService r p).trans (judgeReplace_kept bound good)
    · rintro r why p rfl bound
      exact (judgeEntry_revokeRoom entry inService r why p).trans (judgeRevokeRoom_bound bound)
    · rintro r why p (rfl | rfl) other
      · exact (judgeEntry_revokeRoom entry inService r why p).trans (judgeRevokeRoom_other other)
      · exact (judgeEntry_replace entry inService r p).trans (judgeReplace_other other)
    · rintro a b g p rfl counted turned
      have judged := judgeEntry_rebind entry inService a b g p
      refine ⟨fun mem other => ?_, fun mem held => ?_, fun out bound => ?_, fun other => ?_⟩
      · rw [judged, judgeRebind_held mem, rebindEntry, rebound_inPlace (by exact other)]
        rfl
      · rw [judged, judgeRebind_held mem, rebindEntry, rebound_into (by exact held)]
        rfl
      · exact judged.trans (judgeRebind_cut out bound)
      · exact judged.trans (judgeRebind_other other)

/-- Settles O28. -/
theorem scanCompletion : Obligations.ScanCompletion := by
  refine ⟨fun k j rest w last run walk queue => ?_, fun r s h => ?_⟩
  · obtain ⟨done, left⟩ := exec_scanStep_last last run walk queue
    intro s
    change exec .scanStep w = .next (finishJob j s) at done
    change s.keys.scanQueue.drop 1 = rest at left
    rw [done]
    intro left_ close
    have leaves : ({ s with keys := { s.keys with scanQueue := s.keys.scanQueue.drop 1, walk := none } } : State) = left_ := by
      rw [left]
    refine ⟨?_, ?_, ?_, ?_, ?_⟩
    · rintro rfl
      exact congrArg _ leaves
    · rintro r p rfl
      exact congrArg (fun t => Host.Outcome.next (raise p .scanDone t)) leaves
    · rintro r p rfl
      exact congrArg (fun t => Host.Outcome.next (raise p .scanDone t)) leaves
    · rintro r p rfl
      refine congrArg Host.Outcome.next ?_
      unfold finishJob
      dsimp only
      rw [leaves, scanDoneAt_eq]
      rfl
    · rintro a b g p rfl
      refine congrArg Host.Outcome.next ?_
      unfold finishJob
      dsimp only
      rw [leaves, scanDoneAt_eq]
      rfl
  · have rest := roomVacated_rest r s
    refine ⟨roomVacated r s, vacate_eq r s, ?_, ?_, fun q ne => ?_, lamp_roomVacated_same r s, fun q ne => lamp_roomVacated_ne ne s,
      fun noFolio => ?_, fun f => folio_roomVacated⟩
    · rw [rest]
    · have room : (roomVacated r s).room r = (s.room r).vacated := by
        rw [rest]
        exact room_modRoom_same s r Room.vacated
      exact room.trans (vacated_eq h)
    · rw [rest]
      exact room_modRoom_ne s _ ne.symm
    · unfold roomVacated
      rw [noFolio]
      exact ⟨rfl, rfl⟩

/-- Settles O29. -/
theorem engineClaims : Obligations.EngineClaims := by
  refine ⟨fun k card rest s run => ?_,
    fun s => ⟨serveWaiting_claims s, serveWaiting_none s, fun c rest run claims => ⟨takeClaim c (claimsLeft rest s), ?_,
      serveWaiting_cons c rest s claims⟩⟩⟩
  · intro left
    refine ⟨fun used arrival e claims entry holds => ?_, fun used arrival w claims lost => ?_,
      fun m target e claims entry holds inService mem => ?_, fun m target w claims lost => ?_⟩
    · rw [exec_useReport run claims rfl, takeClaim_use (s := claimsLeft rest s) entry holds]
      rfl
    · rw [exec_useReport run claims rfl, takeClaim_use_lost (by exact lost)]
      rfl
    · intro source turned counted
      rw [exec_rebindClaim run claims rfl, takeClaim_rebind (s := claimsLeft rest s) entry holds inService mem, rebindEntry]
      refine ⟨fun other => ?_, fun held => ?_⟩
      · rw [rebound_inPlace (by exact other)]
        rfl
      · rw [rebound_into (by exact held)]
        rfl
    · rw [exec_rebindClaim run claims rfl, takeClaim_rebind_lost (by exact lost)]
      rfl
  · cases use : c.isUse with
    | true => exact exec_useReport run claims use
    | false => exact exec_rebindClaim run claims use

end Sys2Proof.Settled
end

section
/-! The statements of "Profiles and the Watch List" (chapter 3), and the commands on nodes (4.8). -/

/- The joined text is checked with bounded memory: proofs are elaborated one after another, not each in a thread of its own. -/
set_option Elab.async false

namespace Sys2Proof.Machine

/-! ### WRITE PROFILE (R48) -/

/-- The flags byte of a profile, bit by bit. -/
theorem flags_bits : ∀ a b c d e f g : Bool,
    let v : Byte := BitVec.ofNat 8 (bit 0 a + bit 1 b + bit 2 c + bit 3 d + bit 4 e + bit 5 f + bit 6 g)
    v.toNat < 128 ∧ v.getLsbD 0 = a ∧ v.getLsbD 1 = b ∧ v.getLsbD 2 = c ∧ v.getLsbD 3 = d ∧ v.getLsbD 4 = e ∧ v.getLsbD 5 = f ∧
      v.getLsbD 6 = g := by
  decide

theorem minuteAt_u16 {n : Nat} (h : n < 1440) (before more : List Byte) (k : Nat) (hk : before.length = k) :
    minuteAt (before ++ (u16 n ++ more)) k = some n := by
  unfold minuteAt
  rw [u16At_u16 more (by omega) before k hk, if_pos h]

theorem parseProfile_bytes (k : Fin 16) {x : Profile} (kinds : x.kinds.toNat < 32) (days : x.days.toNat < 128)
    (start : x.windowFrom < 1440) (stop : x.windowUntil < 1440) (more : List Byte) :
    parseProfile (x.bytes k ++ more) = some (k, x) := by
  have number : u8At (x.bytes k ++ more) 0 = k.val := by
    simpa only [Profile.bytes, List.append_assoc] using u8At_head _ (by omega : k.val < 256)
  have startRead : minuteAt (x.bytes k ++ more) 4 = some x.windowFrom := by
    simpa only [Profile.bytes, List.append_assoc] using
      minuteAt_u16 start (u8 k.val ++ [x.kinds, x.classes, x.days]) (u16 x.windowUntil ++ (u8 x.flags ++ more)) 4 rfl
  have stopRead : minuteAt (x.bytes k ++ more) 6 = some x.windowUntil := by
    simpa only [Profile.bytes, List.append_assoc] using
      minuteAt_u16 stop (u8 k.val ++ [x.kinds, x.classes, x.days] ++ u16 x.windowFrom) (u8 x.flags ++ more) 6 rfl
  have kindsRead : byteAt (x.bytes k ++ more) 1 = x.kinds := rfl
  have classesRead : byteAt (x.bytes k ++ more) 2 = x.classes := rfl
  have daysRead : byteAt (x.bytes k ++ more) 3 = x.days := rfl
  have flagsRead : byteAt (x.bytes k ++ more) 8 = BitVec.ofNat 8 x.flags := rfl
  obtain ⟨small, h0, h1, h2, h3, h4, h5, h6⟩ := flags_bits x.enterOccupied x.enterVacant x.makeupOnly x.overridePrivacy
    x.overrideBlock x.restock x.clockless
  change (BitVec.ofNat 8 x.flags).toNat < 128 at small
  change (BitVec.ofNat 8 x.flags).getLsbD 0 = _ at h0
  change (BitVec.ofNat 8 x.flags).getLsbD 1 = _ at h1
  change (BitVec.ofNat 8 x.flags).getLsbD 2 = _ at h2
  change (BitVec.ofNat 8 x.flags).getLsbD 3 = _ at h3
  change (BitVec.ofNat 8 x.flags).getLsbD 4 = _ at h4
  change (BitVec.ofNat 8 x.flags).getLsbD 5 = _ at h5
  change (BitVec.ofNat 8 x.flags).getLsbD 6 = _ at h6
  unfold parseProfile
  rw [number, toFin?_val, startRead, stopRead, kindsRead, classesRead, daysRead, flagsRead]
  change (if _ then _ else _) = _
  rw [if_pos ⟨kinds, days, small⟩, h0, h1, h2, h3, h4, h5, h6]
  rfl

theorem writeProfile_eq (k : Fin 16) (x : Profile) (s : State) : writeProfile (k, x) s =
    if k.val < 4 ∧ (x.kinds.getLsbD 3 || x.enterOccupied || x.enterVacant || x.makeupOnly || x.overridePrivacy ||
      x.overrideBlock || x.restock) = true then refuse .badParam s
    else accept [] { s with verdict := { s.verdict with profiles := tset s.verdict.profiles k x } } := rfl

/-! ### The Watch List (R57, R58) -/

theorem watchOf_isSome_iff (s : State) (card : CardId) : (s.watchOf card).isSome = true ↔ ∃ w ∈ s.verdict.watch, w.card = card := by
  simp only [State.watchOf, List.find?_isSome, decide_eq_true_eq]

theorem watchAdd_eq (card : CardId) (action : WatchAction) (s : State) : watchAdd (card, action) s =
    if ∃ w ∈ s.verdict.watch, w.card = card then refuse .duplicate s
    else if 8 ≤ s.verdict.watch.length then refuse .watchFull s
    else accept [] (joinWatch ⟨card, action, .service⟩ s) := by
  unfold watchAdd
  exact if_congr (watchOf_isSome_iff s card) rfl rfl

theorem watchRemove_eq (card : CardId) (s : State) : watchRemove card s =
    if ∃ w ∈ s.verdict.watch, w.card = card then
      accept [] { s with verdict := { s.verdict with watch := s.verdict.watch.filter fun w => decide (w.card ≠ card) } }
    else refuse .noEntry s := by
  unfold watchRemove
  by_cases held : ∃ w ∈ s.verdict.watch, w.card = card
  · rw [if_pos held, if_neg]
    rw [Option.isNone_iff_eq_none, ← Option.not_isSome_iff_eq_none, not_not]
    exact (watchOf_isSome_iff s card).mpr held
  · rw [if_neg held, if_pos]
    rw [Option.isNone_iff_eq_none, ← Option.not_isSome_iff_eq_none]
    exact (watchOf_isSome_iff s card).not.mpr held

theorem parseWatchAdd_fields (card : CardId) {action : Byte} (known : action = 0 ∨ action = 1) (more : List Byte) :
    parseWatchAdd (u64 card ++ [action] ++ more) = some (card, if action = 0 then .alert else .alertAndDeny) := by
  have cardRead : cardAt (u64 card ++ [action] ++ more) 0 = card := by
    simpa only [List.append_assoc, List.nil_append] using cardAt_u64 _ card [] 0 rfl
  have actionRead : byteAt (u64 card ++ [action] ++ more) 8 = action := rfl
  unfold parseWatchAdd flagAt
  rw [cardRead, actionRead]
  rcases known with rfl | rfl <;> rfl

theorem parseWatchAdd_unknown (card : CardId) {action : Byte} (unknown : action ≠ 0 ∧ action ≠ 1) (more : List Byte) :
    parseWatchAdd (u64 card ++ [action] ++ more) = none := by
  have actionRead : byteAt (u64 card ++ [action] ++ more) 8 = action := rfl
  unfold parseWatchAdd flagAt
  rw [actionRead, if_neg unknown.1, if_neg unknown.2]
  rfl

/-! ### Nodes changed together -/

/-- Every node of a changed table is the old one changed. -/
theorem node_mapNodes (s : State) (f : NodeAddr → Node → Node) (n : NodeAddr) :
    ({ s with nodes := mapNodes s.nodes f } : State).node n = f n (s.node n) := by
  unfold State.node mapNodes
  rw [tget_tmap (by decide), tget_tmap (by decide)]

/-! ### A change of door condition and latch (R84) -/

/-- The nodes once a node takes a door condition and a latch. -/
theorem nodes_setDoor (n : NodeAddr) (d : DoorCond) (latch : Bool) (s : State) :
    (setDoor n d latch s).nodes = (s.modNode n fun nd => { nd with door := d, latch := latch }).nodes := by
  unfold setDoor
  dsimp only
  split
  · rfl
  · split <;> split <;> rfl

theorem node_setDoor_same (n : NodeAddr) (d : DoorCond) (latch : Bool) (s : State) :
    (setDoor n d latch s).node n = { s.node n with door := d, latch := latch } := by
  unfold State.node
  rw [nodes_setDoor]
  exact node_modNode_same ..

theorem node_setDoor_ne {n k : NodeAddr} (h : k ≠ n) (d : DoorCond) (latch : Bool) (s : State) :
    (setDoor n d latch s).node k = s.node k := by
  unfold State.node
  rw [nodes_setDoor]
  exact node_modNode_ne s _ h.symm

/-- The rooms where the door condition stays. -/
theorem rooms_setDoor_same {n : NodeAddr} {d : DoorCond} {s : State} (same : (s.node n).door = d) (latch : Bool) :
    (setDoor n d latch s).rooms = s.rooms := by
  unfold setDoor
  cases s.doorRoom n with
  | none => rfl
  | some r =>
    dsimp only
    rw [if_pos same]
    split <;> rfl

theorem setDoor_begun (n : NodeAddr) (d : DoorCond) (latch : Bool) (s : State) (p : Port) (c : Command) :
    setDoor n d latch (s.begun p c) = (setDoor n d latch s).begun p c := by
  unfold setDoor
  dsimp only
  rw [show (s.begun p c).doorRoom n = s.doorRoom n from rfl, show (s.begun p c).node n = s.node n from rfl]
  cases s.doorRoom n with
  | none => rfl
  | some r =>
    dsimp only
    split <;> split <;> rfl

/-! ### CLEAR ALARM (R84) -/

theorem configured_iff (c : NodeConfig) : c.configured = true ↔ c ≠ .none := by
  cases c <;> simp [NodeConfig.configured]

theorem clearAlarm_taken {n : NodeAddr} {s : State} (configured : (s.node n).config.configured = true)
    (set : (s.node n).latch = true) : clearAlarm n s = accept []
      (offer { kind := .alarmCleared, cls := .notice, time := s.now, node := some n } (setDoor n (s.node n).door false s)) := by
  simp only [clearAlarm, configured, set, Bool.true_eq_false, if_false]

theorem clearAlarm_none {n : NodeAddr} {s : State} (none : (s.node n).config = .none) : clearAlarm n s = refuse .conflict s := by
  simp only [clearAlarm, none, NodeConfig.configured, if_true]

theorem clearAlarm_clear {n : NodeAddr} {s : State} (configured : (s.node n).config.configured = true)
    (clear : (s.node n).latch = false) : clearAlarm n s = refuse .state s := by
  simp only [clearAlarm, configured, clear, Bool.true_eq_false, if_false, if_true]

/-! ### SET NODE MODE (R87) -/

theorem parseSetNodeMode_fields (n : NodeAddr) (m : KeptMode) (more : List Byte) :
    parseSetNodeMode (uNode n ++ u8 m.mode.name.code ++ more) = some (n, m) := by
  have node : nodeAt (uNode n ++ u8 m.mode.name.code ++ more) 0 = some n := by
    simpa only [List.append_assoc] using nodeAt_head _ n
  have mode : u8At (uNode n ++ u8 m.mode.name.code ++ more) 2 = m.mode.name.code := by
    cases m <;> rfl
  unfold parseSetNodeMode
  rw [node, mode]
  cases m <;> rfl

theorem parseSetNodeMode_none (n : NodeAddr) {b : Byte} (h0 : b ≠ 0) (h1 : b ≠ 1) (h3 : b ≠ 3) (more : List Byte) :
    parseSetNodeMode (uNode n ++ [b] ++ more) = none := by
  have node : nodeAt (uNode n ++ [b] ++ more) 0 = some n := by
    simpa only [List.append_assoc] using nodeAt_head _ n
  have mode : u8At (uNode n ++ [b] ++ more) 2 = b.toNat := rfl
  have value {v : Byte} (h : b ≠ v) : b.toNat ≠ v.toNat := fun e => h (BitVec.eq_of_toNat_eq e)
  unfold parseSetNodeMode
  rw [node, mode]
  change (match b.toNat with | 0 => _ | 1 => _ | 3 => _ | _ => _) = _
  split
  · next e => exact absurd e (value h0)
  · next e => exact absurd e (value h1)
  · next e => exact absurd e (value h3)
  · rfl

theorem setNodeMode_conflict {n : NodeAddr} {m : KeptMode} {s : State}
    (h : (s.node n).config = .none ∨ ((s.node n).config.isMinibar = true ∧ m = .passage)) :
    setNodeMode (n, m) s = refuse .conflict s := by
  have none_ : (s.node n).config = .none → (s.node n).config.configured = false := fun e => by rw [e]; rfl
  unfold setNodeMode
  dsimp only
  rw [if_pos (h.imp_left none_)]

theorem setNodeMode_released {n : NodeAddr} {m : KeptMode} {s : State} (configured : (s.node n).config.configured = true)
    (bar : (s.node n).config.isMinibar = true → m ≠ .passage) (released : (s.node n).mode.isReleased = true) :
    setNodeMode (n, m) s = accept [] (s.modNode n fun nd => { nd with mode := .released m }) := by
  have free : ¬ ((s.node n).config.configured = false ∨ ((s.node n).config.isMinibar = true ∧ m = .passage)) := by
    rintro (none | ⟨isBar, passage⟩)
    · rw [configured] at none
      cases none
    · exact bar isBar passage
  unfold setNodeMode
  dsimp only
  rw [if_neg free, if_pos released]

/-- The state once a node that is not RELEASED takes a mode by command. -/
def modeTaken (n : NodeAddr) (m : KeptMode) (s : State) : State :=
  setModeMark n (s.modNode n fun nd => nd.withMode m.mode s.supply.elapsed)

theorem setNodeMode_taken {n : NodeAddr} {m : KeptMode} {s : State} (configured : (s.node n).config.configured = true)
    (bar : (s.node n).config.isMinibar = true → m ≠ .passage) (held : (s.node n).mode.isReleased = false) :
    setNodeMode (n, m) s = accept [] (modeTaken n m s) := by
  have free : ¬ ((s.node n).config.configured = false ∨ ((s.node n).config.isMinibar = true ∧ m = .passage)) := by
    rintro (none | ⟨isBar, passage⟩)
    · rw [configured] at none
      cases none
    · exact bar isBar passage
  unfold setNodeMode
  dsimp only
  rw [if_neg free, if_neg (by rw [held]; exact Bool.false_ne_true)]
  rfl

theorem keptMode_normal_iff (m : KeptMode) : m.mode = .normal ↔ m = .normal := by
  cases m <;> simp [KeptMode.mode]

theorem node_setModeMark_same (n : NodeAddr) (s : State) : (setModeMark n s).node n = { s.node n with modePending := true } :=
  node_modNode_same s n fun nd => { nd with modePending := true }

theorem node_setModeMark_ne {n k : NodeAddr} (h : k ≠ n) (s : State) : (setModeMark n s).node k = s.node k :=
  node_modNode_ne s (fun nd => { nd with modePending := true }) h.symm

theorem line_setModeMark_ne {n : NodeAddr} {l : LineIx} (h : l ≠ n.line) (s : State) : (setModeMark n s).line l = s.line l :=
  line_modLine_ne (s.modNode n _) _ h.symm

theorem remarkMode_idle {ln : Line} (idle : ln.exchange = none) (which : Fin 64 → Bool) (again : Bool) :
    ln.remarkMode which again = ln := by
  unfold Line.remarkMode
  rw [idle]

theorem remarkLamps_idle {ln : Line} (idle : ln.exchange = none) (which : Fin 64 → Bool) (again : Bool) :
    ln.remarkLamps which again = ln := by
  unfold Line.remarkLamps
  rw [idle]

theorem lines_setModeMark_idle {n : NodeAddr} {s : State} (idle : (s.line n.line).exchange = none) :
    (setModeMark n s).lines = s.lines := by
  have same : (s.line n.line).remarkMode (fun a => decide (a = n.addr)) true = s.line n.line := remarkMode_idle idle _ _
  exact tmod_id s.lines n.line (fun ln => ln.remarkMode (fun a => decide (a = n.addr)) true) same

theorem node_modeTaken_same (n : NodeAddr) (m : KeptMode) (s : State) : (modeTaken n m s).node n = { s.node n with
    mode := m.mode, modePending := true
    heldOpen := if m = .normal ∧ (s.node n).mode ≠ .normal ∧ (s.node n).door = .opened ∧ (s.node n).config.isMinibar = false then
        some { expiry := s.supply.elapsed + (s.node n).heldOpenLimit * 32768, limit := (s.node n).heldOpenLimit }
      else (s.node n).heldOpen } := by
  unfold modeTaken
  rw [node_setModeMark_same, node_modNode_same]
  unfold Node.withMode
  simp only [keptMode_normal_iff]
  rfl

theorem node_modeTaken_ne {n k : NodeAddr} (h : k ≠ n) (m : KeptMode) (s : State) : (modeTaken n m s).node k = s.node k := by
  unfold modeTaken
  rw [node_setModeMark_ne h, node_modNode_ne _ _ h.symm]

/-! ### UNLATCH NODE (R91) -/

/-- A node is the connecting node of a pair of rooms. -/
def State.joins (s : State) (n : NodeAddr) : Prop := ∃ r q, (s.node n).config = .connectDoor r ∧ (s.room r).pairing = some ⟨q, n⟩

theorem pairedRoom_eq_some_iff (s : State) (n : NodeAddr) (r q : RoomIx) :
    s.pairedRoom n r = some q ↔ (s.room r).pairing = some ⟨q, n⟩ := by
  unfold State.pairedRoom
  cases (s.room r).pairing with
  | none => simp
  | some x =>
    obtain ⟨room, node⟩ := x
    by_cases e : node = n <;> simp [e]

theorem unlatchConflict_iff (s : State) (n : NodeAddr) : s.unlatchConflict n = true ↔
    (s.node n).config = .none ∨ (s.node n).config.isMinibar = true ∨ s.joins n := by
  unfold State.unlatchConflict State.joins
  cases config : (s.node n).config with
  | connectDoor r =>
    simp only [NodeConfig.isMinibar, reduceCtorEq, Bool.false_eq_true, false_or, NodeConfig.connectDoor.injEq,
      Option.isSome_iff_exists, pairedRoom_eq_some_iff]
    exact ⟨fun ⟨q, paired⟩ => ⟨r, q, rfl, paired⟩, fun ⟨_, q, e, paired⟩ => ⟨q, e ▸ paired⟩⟩
  | none => simp
  | minibar r c => simp [NodeConfig.isMinibar]
  | roomDoor r => simp [NodeConfig.isMinibar]
  | commonDoor c ws => simp [NodeConfig.isMinibar]
  | staffDoor => simp [NodeConfig.isMinibar]

theorem isDoor_cases {c : NodeConfig} (h : c.isDoor = true) : c ≠ .none ∧ c.isMinibar = false := by
  cases c with
  | none => cases h
  | minibar r c => cases h
  | roomDoor r => exact ⟨nofun, rfl⟩
  | connectDoor r => exact ⟨nofun, rfl⟩
  | commonDoor c ws => exact ⟨nofun, rfl⟩
  | staffDoor => exact ⟨nofun, rfl⟩

/-- The state once a node is unlatched, before its record is offered (R91). -/
def nodeUnlatched (n : NodeAddr) (s : State) : State :=
  noteRemoteEntry n (setGrant n .none
    (appendVerdict n.line { addr := n.addr, verdict := ⟨.grant, .remote⟩, card := none, key := none, remote := true } s))

theorem unlatchNode_taken {n : NodeAddr} {s : State} (door : (s.node n).config.isDoor = true) (single : ¬ s.joins n)
    (runs : (s.line n.line).state ≠ .stopped) (space : s.outstanding n.line < 8) : unlatchNode n s = accept []
      (offer { kind := .entryGranted, cls := .routine, time := s.now, node := some n, reason := some (.verdict .remote) }
        (nodeUnlatched n s)) := by
  obtain ⟨notNone, notBar⟩ := isDoor_cases door
  have free : ¬ s.unlatchConflict n = true := by
    rw [unlatchConflict_iff, notBar]
    rintro (none | bar | joins)
    · exact notNone none
    · cases bar
    · exact single joins
  unfold unlatchNode
  rw [if_neg free, if_neg runs]
  exact if_neg (Nat.not_le.mpr space)

theorem unlatchNode_conflict {n : NodeAddr} {s : State}
    (h : (s.node n).config = .none ∨ (s.node n).config.isMinibar = true ∨ s.joins n) : unlatchNode n s = refuse .conflict s := by
  unfold unlatchNode
  rw [if_pos ((unlatchConflict_iff s n).mpr h)]

theorem unlatchConflict_false {n : NodeAddr} {s : State} (door : (s.node n).config.isDoor = true) (single : ¬ s.joins n) :
    ¬ s.unlatchConflict n = true := by
  obtain ⟨notNone, notBar⟩ := isDoor_cases door
  rw [unlatchConflict_iff, notBar]
  rintro (none | bar | joins)
  · exact notNone none
  · cases bar
  · exact single joins

theorem unlatchNode_stopped {n : NodeAddr} {s : State} (door : (s.node n).config.isDoor = true) (single : ¬ s.joins n)
    (stopped : (s.line n.line).state = .stopped) : unlatchNode n s = refuse .state s := by
  unfold unlatchNode
  rw [if_neg (unlatchConflict_false door single), if_pos stopped]

theorem unlatchNode_limit {n : NodeAddr} {s : State} (door : (s.node n).config.isDoor = true) (single : ¬ s.joins n)
    (runs : (s.line n.line).state ≠ .stopped) (full : 8 ≤ s.outstanding n.line) : unlatchNode n s = refuse .limit s := by
  unfold unlatchNode
  rw [if_neg (unlatchConflict_false door single), if_neg runs]
  exact if_pos full

theorem ownRoom_eq_some_iff (s : State) (n : NodeAddr) (r : RoomIx) :
    s.ownRoom n = some r ↔ (s.node n).config = .roomDoor r ∧ (s.room r).doorNode = some n := by
  unfold State.ownRoom
  cases (s.node n).config with
  | roomDoor q =>
    by_cases named : (s.room q).doorNode = some n
    · simp only [named, if_true, Option.some.injEq, NodeConfig.roomDoor.injEq]
      exact ⟨fun e => ⟨e, e ▸ named⟩, And.left⟩
    · simp only [named, if_false, NodeConfig.roomDoor.injEq]
      exact ⟨nofun, fun ⟨e, h⟩ => absurd (e ▸ h) named⟩
  | _ => simp

theorem ownRoom_unlatched (n : NodeAddr) (s : State) (v : QueuedVerdict) :
    (setGrant n .none (appendVerdict n.line v s)).ownRoom n = s.ownRoom n := by
  unfold State.ownRoom setGrant
  rw [node_modNode_same]
  rfl

theorem nodeUnlatched_eq (n : NodeAddr) (s : State) : nodeUnlatched n s = { s with
    rooms := match s.ownRoom n with
      | some r => (noteEntry r s.now s).rooms
      | none => s.rooms
    lines := (appendVerdict n.line { addr := n.addr, verdict := ⟨.grant, .remote⟩, card := none, key := none, remote := true } s).lines
    nodes := (setGrant n .none s).nodes } := by
  unfold nodeUnlatched noteRemoteEntry
  rw [ownRoom_unlatched]
  cases s.ownRoom n <;> rfl

theorem room_noteEntry (r q : RoomIx) (t : Stamp) (s : State) : (noteEntry r t s).room q =
    if r = q then { s.room q with lastEntry := t.or (s.room q).lastEntry } else s.room q := by
  unfold noteEntry
  split
  · next e => subst e; exact room_modRoom_same ..
  · next e => exact room_modRoom_ne _ _ e

theorem room_nodeUnlatched (n : NodeAddr) (s : State) (r : RoomIx) : (nodeUnlatched n s).room r =
    if (s.node n).config = .roomDoor r ∧ (s.room r).doorNode = some n then
      { s.room r with lastEntry := s.now.or (s.room r).lastEntry } else s.room r := by
  simp only [← ownRoom_eq_some_iff]
  unfold State.room
  rw [nodeUnlatched_eq]
  dsimp only
  cases s.ownRoom n with
  | none => rfl
  | some q =>
    exact (room_noteEntry q r s.now s).trans (if_congr Option.some_inj.symm rfl rfl)

/-! ### RELEASE ZONES and RESTORE ZONES (R89, R90) -/

theorem node_changeModes (choose : NodeAddr → Node → Option Mode) (s : State) (n : NodeAddr) :
    (changeModes choose s).node n = match choose n (s.node n) with
      | some m => (s.node n).withMode m s.supply.elapsed
      | none => s.node n := by
  refine (node_mapNodes s _ n).trans ?_
  cases choose n (s.node n) <;> rfl

theorem withMode_released (nd : Node) (k : KeptMode) (elapsed : Nat) :
    nd.withMode (.released k) elapsed = { nd with mode := .released k, modePending := true } := by
  unfold Node.withMode
  rw [if_neg (fun h => nomatch h.1)]

end Sys2Proof.Machine

namespace Sys2Proof.Settled

open Sys2Proof.Machine

/-- Settles O30. -/
theorem writeProfile : Obligations.WriteProfile := by
  intro k x more s h kinds days start stop
  have parse := parseProfile_bytes k kinds days start stop more
  have long : ¬ (x.bytes k ++ more).length < 9 := not_truncated (by rw [length_profile])
  have taken := writeProfile_eq k x (s.begun .service .writeProfile)
  split
  · next bad => exact congrArg Host.Outcome.next (takeCommand_refused h long rfl parse (taken.trans (if_pos bad)))
  · next good => exact congrArg Host.Outcome.next (takeCommand_accepted h long rfl parse (taken.trans (if_neg good)))

/-- Settles O31. -/
theorem watchList : Obligations.WatchList := by
  refine ⟨fun card action more s h => ?_, fun card more s h => ?_⟩
  · split
    · next unknown =>
      exact congrArg Host.Outcome.next (takeCommand_badParam h (not_truncated (by rfl)) rfl (parseWatchAdd_unknown card unknown more))
    · next known =>
      have parse := parseWatchAdd_fields card (not_and_or.mp known |>.imp not_not.mp not_not.mp) more
      have taken := watchAdd_eq card (if action = 0 then .alert else .alertAndDeny) (s.begun .service .watchAdd)
      split
      · next held => exact congrArg Host.Outcome.next (takeCommand_refused h (not_truncated (by rfl)) rfl parse
          (taken.trans (if_pos held)))
      · next new =>
        replace taken := taken.trans (if_neg new)
        split
        · next full => exact congrArg Host.Outcome.next (takeCommand_refused h (not_truncated (by rfl)) rfl parse
            (taken.trans (if_pos full)))
        · next space =>
          rw [joinWatch_begun] at taken
          exact congrArg Host.Outcome.next (takeCommand_accepted h (not_truncated (by rfl)) rfl parse (taken.trans (if_neg space)))
  · have taken := watchRemove_eq card (s.begun .service .watchRemove)
    split
    · next held => exact congrArg Host.Outcome.next (takeCommand_accepted h (not_truncated (by rfl)) rfl (parseCard_u64 more card)
        (taken.trans (if_pos held)))
    · next none => exact congrArg Host.Outcome.next (takeCommand_refused h (not_truncated (by rfl)) rfl (parseCard_u64 more card)
        (taken.trans (if_neg none)))

/-- Settles O34. -/
theorem nodeCommands : Obligations.NodeCommands := by
  refine ⟨fun n m more s h => ?_, fun n more s h => ?_⟩
  · intro nd
    have ⟨_, _, idle⟩ := h
    have node := parseNode_uNode more n
    have mode := parseSetNodeMode_fields n m more
    refine ⟨fun configured set => ⟨setDoor n nd.door false s, ?_, ?_, node_setDoor_same .., fun k ne => node_setDoor_ne ne .., fun r => ?_⟩,
      fun none => ?_, fun configured clear => ?_, fun configured bar => ⟨fun k released => ?_, fun held =>
        ⟨modeTaken n m s, ?_, rfl, node_modeTaken_same n m s, fun k ne => node_modeTaken_ne ne m s, fun l ne =>
          line_setModeMark_ne ne _, fun quiet => lines_setModeMark_idle quiet⟩⟩, fun bad => ?_, fun b h0 h1 h3 => ?_⟩
    · have taken := clearAlarm_taken (s := s.begun .service .clearAlarm) configured set
      rw [setDoor_begun, offer_begun _ _ _ _ (by rw [setDoor_touches]; exact idle) (by decide)] at taken
      exact congrArg Host.Outcome.next (takeCommand_accepted h (not_truncated (by rfl)) rfl node taken)
    · have rooms : (setDoor n nd.door false s).rooms = s.rooms := rooms_setDoor_same rfl false
      rw [setDoor_touches, rooms]
    · have handed := (setDoor_alarmHanded n nd.door false s).2 r
      have changes : (s.node n).door ≠ nd.door ∨ (s.node n).latch ≠ false := .inr (by rw [show (s.node n).latch = true from set]; decide)
      rw [handed]
      refine if_congr (and_iff_left changes) ?_ rfl
      rw [Bool.or_false]
    · exact congrArg Host.Outcome.next (takeCommand_refused h (not_truncated (by rfl)) rfl node (clearAlarm_none none))
    · exact congrArg Host.Outcome.next (takeCommand_refused h (not_truncated (by rfl)) rfl node (clearAlarm_clear configured clear))
    · exact congrArg Host.Outcome.next (takeCommand_accepted h (not_truncated (by rfl)) rfl mode
        (setNodeMode_released (s := s.begun .service .setNodeMode) configured bar (congrArg Mode.isReleased released)))
    · exact congrArg Host.Outcome.next (takeCommand_accepted h (not_truncated (by rfl)) rfl mode
        (setNodeMode_taken (s := s.begun .service .setNodeMode) configured bar held))
    · exact congrArg Host.Outcome.next (takeCommand_refused h (not_truncated (by rfl)) rfl mode (setNodeMode_conflict bad))
    · exact congrArg Host.Outcome.next (takeCommand_badParam h (not_truncated (by rfl)) rfl (parseSetNodeMode_none n h0 h1 h3 more))
  · intro paired
    have ⟨_, _, idle⟩ := h
    have node := parseNode_uNode more n
    have unlatched := nodeUnlatched_eq n s
    refine ⟨fun door single runs space => ⟨nodeUnlatched n s, ?_, ?_, ?_, fun l ne => ?_, ?_, fun k ne => ?_, room_nodeUnlatched n s⟩,
      fun conflict => ?_, fun door single stopped => ?_, fun door single runs full => ?_⟩
    · have taken := unlatchNode_taken (s := s.begun .service .unlatchNode) door single runs space
      have begun : nodeUnlatched n (s.begun .service .unlatchNode) = (nodeUnlatched n s).begun .service .unlatchNode := by
        rw [nodeUnlatched_eq, nodeUnlatched_eq, show (s.begun .service .unlatchNode).ownRoom n = s.ownRoom n from rfl]
        cases s.ownRoom n <;> rfl
      rw [begun, offer_begun _ _ _ _ (by rw [nodeUnlatched_eq]; exact idle) (by decide)] at taken
      exact congrArg Host.Outcome.next (takeCommand_accepted h (not_truncated (by rfl)) rfl node taken)
    · rw [unlatched]
    · rw [unlatched]
      exact line_modLine_same s n.line fun ln => { ln with verdicts := ln.verdicts ++
        [{ addr := n.addr, verdict := ⟨.grant, .remote⟩, card := none, key := none, remote := true }] }
    · rw [unlatched]
      exact line_modLine_ne s (fun ln => { ln with verdicts := ln.verdicts ++
        [{ addr := n.addr, verdict := ⟨.grant, .remote⟩, card := none, key := none, remote := true }] }) ne.symm
    · rw [unlatched]
      exact node_modNode_same s n _
    · rw [unlatched]
      exact node_modNode_ne s _ ne.symm
    · exact congrArg Host.Outcome.next (takeCommand_refused h (not_truncated (by rfl)) rfl node (unlatchNode_conflict conflict))
    · exact congrArg Host.Outcome.next (takeCommand_refused h (not_truncated (by rfl)) rfl node
        (unlatchNode_stopped door single stopped))
    · exact congrArg Host.Outcome.next (takeCommand_refused h (not_truncated (by rfl)) rfl node
        (unlatchNode_limit door single runs full))

/-- Settles O35. -/
theorem zones : Obligations.Zones := by
  intro zones more s h some_
  have ⟨_, _, idle⟩ := h
  have parse := parseSet_u16 more zones some_
  refine ⟨⟨changeModes (fun _ nd => releaseChoice zones nd) s, ?_, rfl, fun n => ?_⟩,
    ⟨changeModes (fun _ nd => restoreChoice zones nd) s, ?_, rfl, fun n => ?_⟩⟩
  · exact congrArg Host.Outcome.next (takeCommand_accepted h (not_truncated (by rfl)) rfl parse (congrArg (accept [])
      (offer_begun { kind := .release, cls := .notice, time := s.now, detail := zones } .service .releaseZones
        (changeModes (fun _ nd => releaseChoice zones nd) s) idle (by decide))))
  · rw [node_changeModes, releaseChoice]
    dsimp only
    by_cases chosen : (s.node n).config.isDoor = true ∧ zones.getLsbD (s.node n).zone = true
    · have both : ((s.node n).config.isDoor && inSet zones (s.node n).zone) = true := Bool.and_eq_true_iff.mpr chosen
      rw [if_pos chosen, if_pos both]
      cases mode : (s.node n).mode <;> simp only [withMode_released]
    · have both : ¬ ((s.node n).config.isDoor && inSet zones (s.node n).zone) = true := Bool.and_eq_true_iff.not.mpr chosen
      rw [if_neg chosen, if_neg both]
  · exact congrArg Host.Outcome.next (takeCommand_accepted h (not_truncated (by rfl)) rfl parse (congrArg (accept [])
      (offer_begun { kind := .restore, cls := .notice, time := s.now, detail := zones } .service .restoreZones
        (changeModes (fun _ nd => restoreChoice zones nd) s) idle (by decide))))
  · rw [node_changeModes, restoreChoice]
    dsimp only
    by_cases chosen : zones.getLsbD (s.node n).zone = true
    · have inZones : inSet zones (s.node n).zone = true := chosen
      rw [if_pos inZones]
      cases mode : (s.node n).mode with
      | released k =>
        simp only [Mode.kept, Option.map_some, chosen, if_true, Node.withMode, keptMode_normal_iff, mode, ne_eq, reduceCtorEq,
          not_false_eq_true, true_and]
        rfl
      | _ => rfl
    · have out : ¬ inSet zones (s.node n).zone = true := chosen
      rw [if_neg out]
      cases mode : (s.node n).mode with
      | released k => exact (if_neg chosen).symm
      | _ => rfl

end Sys2Proof.Settled
end

section
/-! The statement of WRITE NODE (5.1). -/

/- The joined text is checked with bounded memory: proofs are elaborated one after another, not each in a thread of its own. -/
set_option Elab.async false

namespace Sys2Proof.Machine

/-! ### The parameters of WRITE NODE (R94) -/

/-- The parameters of WRITE NODE that write a configuration. -/
def nodeParams (n : NodeAddr) (c : NodeConfig) (zone : Fin 16) (limit : Nat) (more : List Byte) : List Byte :=
  uNode n ++ u8 c.code ++ u16? (c.room.map Fin.val) ++ u8 zone.val ++ uEnum? c.cls ++ u8 limit ++
    u8 c.windows.length ++ windowBytes c.windows[0]? ++ windowBytes c.windows[1]? ++ more

theorem windowAt_windowBytes {w : Window} (start : w.start < 1440) (stop : w.stop < 1440) (before more : List Byte) (k : Nat)
    (hk : before.length = k) : windowAt (before ++ (windowBytes (some w) ++ more)) k = some w := by
  have first : minuteAt (before ++ (windowBytes (some w) ++ more)) k = some w.start := by
    simpa only [windowBytes, List.append_assoc] using minuteAt_u16 start before (u16 w.stop ++ more) k hk
  have second : minuteAt (before ++ (windowBytes (some w) ++ more)) (k + 2) = some w.stop := by
    simpa only [windowBytes, List.append_assoc] using
      minuteAt_u16 stop (before ++ u16 w.start) more (k + 2) (by rw [List.length_append, hk]; rfl)
  unfold windowAt
  rw [first, second]
  rfl

theorem windowsAt_windowBytes {ws : List Window} (few : ws.length ≤ 2) (valid : ∀ w ∈ ws, w.start < 1440 ∧ w.stop < 1440)
    (before more : List Byte) (long : before.length = 9) :
    ((List.range ws.length).mapM fun k =>
      windowAt (before ++ (windowBytes ws[0]? ++ (windowBytes ws[1]? ++ more))) (9 + 4 * k)) = some ws := by
  match ws, few, valid with
  | [], _, _ => rfl
  | [w], _, valid =>
    obtain ⟨start, stop⟩ := valid w List.mem_cons_self
    have first := windowAt_windowBytes start stop before (windowBytes none ++ more) 9 long
    have one : List.range [w].length = [0] := rfl
    rw [one, List.mapM_cons, List.mapM_nil]
    exact congrArg (fun x : Option Window => do let w ← x; pure [w]) first
  | [w, v], _, valid =>
    obtain ⟨start, stop⟩ := valid w List.mem_cons_self
    obtain ⟨start', stop'⟩ := valid v (List.mem_cons_of_mem _ List.mem_cons_self)
    have first := windowAt_windowBytes start stop before (windowBytes (some v) ++ more) 9 long
    have second := windowAt_windowBytes start' stop' (before ++ windowBytes (some w)) more 13
      (by rw [List.length_append, long]; rfl)
    rw [List.append_assoc] at second
    have two : List.range [w, v].length = [0, 1] := rfl
    rw [two, List.mapM_cons, List.mapM_cons, List.mapM_nil]
    change (windowAt (before ++ (windowBytes (some w) ++ (windowBytes (some v) ++ more))) 9).bind (fun a =>
      ((windowAt (before ++ (windowBytes (some w) ++ (windowBytes (some v) ++ more))) 13).bind fun b => some [b]).bind fun bs =>
        some (a :: bs)) = _
    rw [first, second]
    rfl

theorem configOf_config (c : NodeConfig) :
    configOf c.code ((c.room.map Fin.val).getD 0xFFFF) (c.cls.getD 0xFF) c.windows = some c := by
  cases c with
  | none => rfl
  | roomDoor r => exact congrArg (Option.map NodeConfig.roomDoor) (toFin?_val r)
  | connectDoor r => exact congrArg (Option.map NodeConfig.connectDoor) (toFin?_val r)
  | commonDoor k ws => exact congrArg (Option.map fun k => NodeConfig.commonDoor k ws) (toFin?_val k)
  | staffDoor => rfl
  | minibar r k =>
    change ((toFin? 512 r.val).bind fun r => (toFin? 4 k.val).map fun c => NodeConfig.minibar r c) = _
    rw [toFin?_val, toFin?_val]
    rfl

theorem code_lt (c : NodeConfig) : c.code < 256 := by
  cases c <;> exact Nat.lt_of_sub_eq_succ rfl

theorem roomField_lt (c : NodeConfig) : (c.room.map Fin.val).getD 0xFFFF < 65536 := by
  cases c.room with
  | none => decide
  | some r => exact lt_trans r.isLt (by decide)

theorem clsField_lt (c : NodeConfig) : c.cls.getD 0xFF < 256 := by
  cases c with
  | commonDoor k ws => exact lt_trans k.isLt (by decide)
  | minibar r k => exact lt_trans k.isLt (by decide)
  | _ => exact (by decide : 0xFF < 256)

theorem parseWriteNode_nodeParams (n : NodeAddr) {c : NodeConfig} (zone : Fin 16) {limit : Nat} (low : 10 ≤ limit)
    (high : limit ≤ 250) (few : c.windows.length ≤ 2) (valid : ∀ w ∈ c.windows, w.start < 1440 ∧ w.stop < 1440)
    (more : List Byte) : parseWriteNode (nodeParams n c zone limit more) = some ⟨n, c, zone, limit⟩ := by
  have node : nodeAt (nodeParams n c zone limit more) 0 = some n := by
    simpa only [nodeParams, List.append_assoc] using nodeAt_head _ n
  have kindRead : u8At (nodeParams n c zone limit more) 2 = c.code := by
    simpa only [nodeParams, List.append_assoc] using u8At_u8 _ (code_lt c) (uNode n) 2 rfl
  have roomRead : u16At (nodeParams n c zone limit more) 3 = (c.room.map Fin.val).getD 0xFFFF := by
    simpa only [nodeParams, u16?, List.append_assoc] using u16At_u16 _ (roomField_lt c) (uNode n ++ u8 c.code) 3 rfl
  have zoneRead : u8At (nodeParams n c zone limit more) 5 = zone.val := by
    simpa only [nodeParams, u16?, List.append_assoc] using u8At_u8 _ (by omega : zone.val < 256)
      (uNode n ++ u8 c.code ++ u16? (c.room.map Fin.val)) 5 rfl
  have clsRead : u8At (nodeParams n c zone limit more) 6 = c.cls.getD 0xFF := by
    simpa only [nodeParams, u16?, uEnum?, List.append_assoc] using u8At_u8 _ (clsField_lt c)
      (uNode n ++ u8 c.code ++ u16? (c.room.map Fin.val) ++ u8 zone.val) 6 rfl
  have limitRead : u8At (nodeParams n c zone limit more) 7 = limit := by
    simpa only [nodeParams, u16?, List.append_assoc] using u8At_u8 _ (by omega : limit < 256)
      (uNode n ++ u8 c.code ++ u16? (c.room.map Fin.val) ++ u8 zone.val ++ uEnum? c.cls) 7 rfl
  have countRead : u8At (nodeParams n c zone limit more) 8 = c.windows.length := by
    simpa only [nodeParams, u16?, List.append_assoc] using u8At_u8 _ (by omega : c.windows.length < 256)
      (uNode n ++ u8 c.code ++ u16? (c.room.map Fin.val) ++ u8 zone.val ++ uEnum? c.cls ++ u8 limit) 8 rfl
  have windowsRead : ((List.range c.windows.length).mapM fun k => windowAt (nodeParams n c zone limit more) (9 + 4 * k)) =
      some c.windows := by
    simpa only [nodeParams, List.append_assoc] using windowsAt_windowBytes few valid
      (uNode n ++ u8 c.code ++ u16? (c.room.map Fin.val) ++ u8 zone.val ++ uEnum? c.cls ++ u8 limit ++ u8 c.windows.length)
      more rfl
  unfold parseWriteNode countAt
  rw [node, kindRead, roomRead, zoneRead, clsRead, limitRead, countRead, toFin?_val, if_pos ⟨low, high⟩,
    if_pos ⟨Nat.zero_le _, few⟩]
  change (((List.range c.windows.length).mapM fun k => windowAt (nodeParams n c zone limit more) (9 + 4 * k)).bind fun ws =>
    (configOf c.code ((c.room.map Fin.val).getD 0xFFFF) (c.cls.getD 0xFF) ws).bind fun d =>
      some (⟨n, d, zone, limit⟩ : NodeWrite)) = _
  rw [windowsRead, Option.bind_some, configOf_config, Option.bind_some]

/-- A configuration's fields out of range, or given for another kind. -/
theorem configOf_none {kind room cls : Nat} {ws : List Window} (h : 5 < kind ∨
    ((kind = 1 ∨ kind = 2 ∨ kind = 5) ∧ 512 ≤ room) ∨ ((kind = 0 ∨ kind = 3 ∨ kind = 4) ∧ room ≠ 0xFFFF) ∨
    (kind = 3 ∧ 8 ≤ cls) ∨ (kind = 5 ∧ 4 ≤ cls) ∨ ((kind = 0 ∨ kind = 1 ∨ kind = 2 ∨ kind = 4) ∧ cls ≠ 0xFF) ∨
    (kind ≠ 3 ∧ ws ≠ [])) : configOf kind room cls ws = none := by
  rcases h with high | ⟨rfl | rfl | rfl, out⟩ | ⟨rfl | rfl | rfl, given⟩ | ⟨rfl, out⟩ | ⟨rfl, out⟩ |
    ⟨rfl | rfl | rfl | rfl, given⟩ | ⟨other, some_⟩
  · obtain ⟨k, rfl⟩ := Nat.exists_eq_add_of_lt high
    rw [show 5 + k + 1 = k + 6 by omega]
    rfl
  · simp [configOf, toFin?_none out]
  · simp [configOf, toFin?_none out]
  · simp [configOf, toFin?_none out]
  · simp [configOf, given]
  · simp [configOf, given]
  · simp [configOf, given]
  · simp [configOf, toFin?_none out]
  · simp [configOf, toFin?_none out]
  · simp [configOf, given]
  · simp [configOf, given]
  · simp [configOf, given]
  · simp [configOf, given]
  · match kind with
    | 0 | 1 | 2 | 4 | 5 => simp [configOf, some_]
    | 3 => exact absurd rfl other
    | k + 6 => rfl

/-- What the bytes of a WRITE NODE that reads hold. -/
theorem parseWriteNode_some {ps : List Byte} {x : NodeWrite} (h : parseWriteNode ps = some x) : ∃ ws : List Window,
    u8At ps 5 < 16 ∧ 10 ≤ u8At ps 7 ∧ u8At ps 7 ≤ 250 ∧ u8At ps 8 ≤ 2 ∧
      (List.range (u8At ps 8)).mapM (fun k => windowAt ps (9 + 4 * k)) = some ws ∧
      configOf (u8At ps 2) (u16At ps 3) (u8At ps 6) ws ≠ none := by
  unfold parseWriteNode at h
  obtain ⟨n, _, h⟩ := Option.bind_eq_some_iff.mp h
  obtain ⟨zone, zoneRead, h⟩ := Option.bind_eq_some_iff.mp h
  obtain ⟨limit, limitRead, h⟩ := Option.bind_eq_some_iff.mp h
  obtain ⟨count, countRead, h⟩ := Option.bind_eq_some_iff.mp h
  obtain ⟨ws, windowsRead, h⟩ := Option.bind_eq_some_iff.mp h
  obtain ⟨c, configRead, _⟩ := Option.bind_eq_some_iff.mp h
  obtain ⟨⟨low, high⟩, _⟩ := Option.ite_none_right_eq_some.mp limitRead
  obtain ⟨⟨_, few⟩, same⟩ := Option.ite_none_right_eq_some.mp countRead
  obtain rfl := Option.some.inj same
  exact ⟨ws, toFin?_some zoneRead ▸ zone.isLt, low, high, few, windowsRead, by rw [configRead]; nofun⟩

theorem windowAt_none {ps : List Byte} {k : Nat} (h : 1440 ≤ u16At ps k ∨ 1440 ≤ u16At ps (k + 2)) : windowAt ps k = none := by
  unfold windowAt
  rcases h with start | stop
  · rw [minuteAt_none start]
    rfl
  · rw [minuteAt_none stop]
    cases minuteAt ps k <;> rfl

/-- Windows that read are those counted, each of two minutes. -/
theorem windowsAt_some {ps : List Byte} {count : Nat} {ws : List Window} (few : count ≤ 2)
    (h : (List.range count).mapM (fun k => windowAt ps (9 + 4 * k)) = some ws) : ws.length = count ∧
      (1 ≤ count → windowAt ps 9 ≠ none) ∧ (count = 2 → windowAt ps 13 ≠ none) := by
  match count, few with
  | 0, _ =>
    obtain rfl := Option.some.inj h
    exact ⟨rfl, nofun, nofun⟩
  | 1, _ =>
    obtain ⟨w, first, h⟩ := Option.bind_eq_some_iff.mp h
    obtain rfl := Option.some.inj h
    exact ⟨rfl, fun _ e => (by rw [show windowAt ps 9 = some w from first] at e; cases e), nofun⟩
  | 2, _ =>
    obtain ⟨w, first, h⟩ := Option.bind_eq_some_iff.mp h
    obtain ⟨v, second, h⟩ := Option.bind_eq_some_iff.mp h
    obtain rfl := Option.some.inj h
    exact ⟨rfl, fun _ e => (by rw [show windowAt ps 9 = some w from first] at e; cases e),
      fun _ e => (by rw [show windowAt ps 13 = some v from second] at e; cases e)⟩

/-! ### The change of kind (R94) -/

/-- No record below the one a search finds meets its test. -/
theorem tfind_lowest {α : Type} {d n : Nat} {v : Table α d} {p : α → Bool} {k : Fin n} (h : tfind n v p = some k) (j : Fin n)
    (below : j < k) : p (tget v j) = false := by
  obtain ⟨i, first, index⟩ := Option.bind_eq_some_iff.mp h
  have := toFin?_some index
  exact Table.findFrom_lowest p v 0 i first j.val (by omega)

/-- A search of two tables whose records agree on the test finds the same. -/
theorem tfind_congr {α : Type} {d n : Nat} (hn : n = 2 ^ d) {v w : Table α d} {p : α → Bool}
    (same : ∀ i : Fin n, p (tget v i) = p (tget w i)) : tfind n v p = tfind n w p := by
  cases found : tfind n w p with
  | none =>
    cases other : tfind n v p with
    | none => rfl
    | some i =>
      have meets := tfind_some other
      rw [same, tfind_none hn found i] at meets
      cases meets
  | some k => exact tfind_eq_some hn ((same k).trans (tfind_some found)) fun j below => (same j).trans (tfind_lowest found j below)

/-- Rooms that keep their door nodes are found by them as before. -/
theorem doorRoom_congr {s t : State} (same : ∀ r : RoomIx, (t.room r).doorNode = (s.room r).doorNode) (n : NodeAddr) :
    t.doorRoom n = s.doorRoom n :=
  tfind_congr (by decide) fun r => congrArg (fun d : Option NodeAddr => decide (d = some n)) (same r)

theorem room_modRoom_door (s : State) (r q : RoomIx) (d : DoorCond) :
    (s.modRoom r fun rm => { rm with door := d }).room q = if r = q then { s.room q with door := d } else s.room q := by
  split
  · next e => subst e; exact room_modRoom_same ..
  · next e => exact room_modRoom_ne _ _ e

/-- The rooms once a node takes a door condition: the room whose door node it is is told. -/
theorem room_setDoor (n : NodeAddr) (d : DoorCond) (latch : Bool) (s : State) (r : RoomIx) : (setDoor n d latch s).room r =
    if s.doorRoom n = some r ∧ (s.node n).door ≠ d then { s.room r with door := d } else s.room r := by
  unfold setDoor
  dsimp only
  cases s.doorRoom n with
  | none => exact (if_neg (fun h => nomatch h.1)).symm
  | some q =>
    dsimp only
    have told : (if (s.node n).door = d then s.modNode n fun nd => { nd with door := d, latch := latch }
        else (s.modNode n fun nd => { nd with door := d, latch := latch }).modRoom q fun rm => { rm with door := d }).room r =
        if some q = some r ∧ (s.node n).door ≠ d then { s.room r with door := d } else s.room r := by
      by_cases same : (s.node n).door = d
      · rw [if_pos same, if_neg (fun h => h.2 same)]
        rfl
      · rw [if_neg same]
        exact (room_modRoom_door _ q r d).trans (if_congr (by rw [Option.some_inj, and_iff_left same]) rfl rfl)
    split
    · exact told
    · exact told

theorem doorNode_setDoor (n : NodeAddr) (d : DoorCond) (latch : Bool) (s : State) (r : RoomIx) :
    ((setDoor n d latch s).room r).doorNode = (s.room r).doorNode := by
  rw [room_setDoor]
  split <;> rfl

theorem room_handDoor (n : NodeAddr) (s : State) (r : RoomIx) : (handDoor n s).room r =
    if s.doorRoom n = some r then { s.room r with door := (s.node n).door } else s.room r := by
  unfold handDoor
  cases s.doorRoom n with
  | none => exact (if_neg nofun).symm
  | some q => exact (room_modRoom_door s q r _).trans (if_congr Option.some_inj.symm rfl rfl)

theorem handDoor_begun (n : NodeAddr) (s : State) (p : Port) (c : Command) :
    handDoor n (s.begun p c) = (handDoor n s).begun p c := by
  unfold handDoor
  rw [show (s.begun p c).doorRoom n = s.doorRoom n from rfl]
  cases s.doorRoom n <;> rfl

theorem resetNodeFields_touches (n : NodeAddr) (s : State) : resetNodeFields n s = { s with
    nodes := (resetNodeFields n s).nodes, rooms := (resetNodeFields n s).rooms, lamps := (resetNodeFields n s).lamps } := by
  unfold resetNodeFields
  rw [handDoor_touches, State.modNode, setDoor_touches]

theorem node_resetNodeFields_same (n : NodeAddr) (s : State) : (resetNodeFields n s).node n =
    { s.node n with mode := .normal, inside := false, latch := false, door := .unknown, heldOpen := none } := by
  unfold resetNodeFields State.node
  rw [handDoor_nodes]
  refine (node_modNode_same (setDoor n .unknown false s) n _).trans ?_
  rw [node_setDoor_same]
  rfl

theorem node_resetNodeFields_ne {n k : NodeAddr} (h : k ≠ n) (s : State) : (resetNodeFields n s).node k = s.node k := by
  unfold resetNodeFields State.node
  rw [handDoor_nodes]
  exact (node_modNode_ne (setDoor n .unknown false s) _ h.symm).trans (node_setDoor_ne h ..)

theorem room_resetNodeFields (n : NodeAddr) (s : State) (r : RoomIx) : (resetNodeFields n s).room r =
    if s.doorRoom n = some r then { s.room r with door := .unknown } else s.room r := by
  have named : ((setDoor n .unknown false s).modNode n
      fun nd => { nd with mode := .normal, inside := false, heldOpen := none }).doorRoom n = s.doorRoom n :=
    doorRoom_congr (doorNode_setDoor n .unknown false s) n
  unfold resetNodeFields
  rw [room_handDoor, named, node_modNode_same, node_setDoor_same]
  change (if _ then { (setDoor n .unknown false s).room r with door := .unknown } else (setDoor n .unknown false s).room r) = _
  rw [room_setDoor]
  by_cases hit : s.doorRoom n = some r
  · rw [if_pos hit, if_pos hit]
    split <;> rfl
  · rw [if_neg hit, if_neg hit, if_neg (fun h => hit h.1)]

theorem resetNodeFields_begun (n : NodeAddr) (s : State) (p : Port) (c : Command) :
    resetNodeFields n (s.begun p c) = (resetNodeFields n s).begun p c := by
  unfold resetNodeFields
  rw [setDoor_begun]
  exact handDoor_begun n ((setDoor n .unknown false s).modNode n fun nd => { nd with mode := .normal, inside := false, heldOpen := none }) p c

theorem settleSweep_begun (s : State) (p : Port) (c : Command) : settleSweep (s.begun p c) = (settleSweep s).begun p c := by
  unfold settleSweep
  rw [show (s.begun p c).lamps = s.lamps from rfl]
  split <;> rfl

theorem clearLampMarks_begun (which : NodeAddr → Bool) (s : State) (p : Port) (c : Command) :
    clearLampMarks which (s.begun p c) = (clearLampMarks which s).begun p c := by
  unfold clearLampMarks
  exact settleSweep_begun { s with
    nodes := mapNodes s.nodes fun n nd => if which n then { nd with lampPending := false } else nd
    lines := tmap 16 s.lines fun l ln => ln.remarkLamps (fun a => which ⟨l, a⟩) false
    lamps := { s.lamps with outstanding := s.lamps.outstanding.filter fun n => !which n } } p c

theorem dropMarks_begun (n : NodeAddr) (s : State) (p : Port) (c : Command) :
    dropMarks n (s.begun p c) = (dropMarks n s).begun p c := by
  unfold dropMarks
  exact clearLampMarks_begun _ ((s.modNode n fun nd => { nd with modePending := false }).modLine n.line fun ln =>
    ln.remarkMode (fun a => decide (a = n.addr)) false) p c

/-- A sweep that ends leaves the outstanding set as it stands. -/
theorem outstanding_settleSweep (s : State) : (settleSweep s).lamps.outstanding = s.lamps.outstanding := by
  unfold settleSweep
  split <;> rfl

theorem node_clearLampMarks (which : NodeAddr → Bool) (s : State) (n : NodeAddr) : (clearLampMarks which s).node n =
    if which n then { s.node n with lampPending := false } else s.node n := by
  unfold clearLampMarks State.node
  rw [settleSweep_nodes]
  exact node_mapNodes s _ n

theorem outstanding_clearLampMarks (which : NodeAddr → Bool) (s : State) :
    (clearLampMarks which s).lamps.outstanding = s.lamps.outstanding.filter fun n => !which n :=
  outstanding_settleSweep _

theorem dropMarks_touches (n : NodeAddr) (s : State) : dropMarks n s = { s with
    nodes := (dropMarks n s).nodes, lines := (dropMarks n s).lines, lamps := (dropMarks n s).lamps, attn := (dropMarks n s).attn } := by
  unfold dropMarks
  rw [clearLampMarks_touches]
  rfl

theorem node_dropMarks_same (n : NodeAddr) (s : State) :
    (dropMarks n s).node n = { s.node n with modePending := false, lampPending := false } := by
  unfold dropMarks
  rw [node_clearLampMarks, if_pos (decide_eq_true rfl)]
  exact congrArg (fun nd : Node => { nd with lampPending := false }) (node_modNode_same s n fun nd => { nd with modePending := false })

theorem node_dropMarks_ne {n k : NodeAddr} (h : k ≠ n) (s : State) : (dropMarks n s).node k = s.node k := by
  unfold dropMarks
  rw [node_clearLampMarks, if_neg (by rw [decide_eq_true_iff]; exact h)]
  exact node_modNode_ne s (fun nd => { nd with modePending := false }) h.symm

theorem not_mem_outstanding_dropMarks (n : NodeAddr) (s : State) : n ∉ (dropMarks n s).lamps.outstanding := by
  unfold dropMarks
  rw [outstanding_clearLampMarks, List.mem_filter, decide_eq_true rfl]
  exact fun h => nomatch h.2

/-- The parameters of WRITE NODE as they stand in their bytes. -/
def nodeBytes (n : NodeAddr) (kind zone cls limit count : Byte) (room a b c d : BitVec 16) (more : List Byte) : List Byte :=
  uNode n ++ [kind] ++ u16 room.toNat ++ [zone, cls, limit, count] ++ u16 a.toNat ++ u16 b.toNat ++ u16 c.toNat ++
    u16 d.toNat ++ more

/-- WRITE NODE with a field out of range, missing, or given for a kind that has none. -/
theorem parseWriteNode_none (n : NodeAddr) {kind zone cls limit count : Byte} {room a b c d : BitVec 16} (more : List Byte)
    (bad : 15 < zone.toNat ∨ limit.toNat < 10 ∨ 250 < limit.toNat ∨ 5 < kind.toNat ∨ 2 < count.toNat ∨
      (kind ∈ [1, 2, 5] ∧ 511 < room.toNat) ∨ (kind ∈ [0, 3, 4] ∧ room ≠ 0xFFFF) ∨
      (kind = 3 ∧ 7 < cls.toNat) ∨ (kind = 5 ∧ 3 < cls.toNat) ∨ (kind ∈ [0, 1, 2, 4] ∧ cls ≠ 0xFF) ∨
      (kind ≠ 3 ∧ count ≠ 0) ∨ (1 ≤ count.toNat ∧ (1439 < a.toNat ∨ 1439 < b.toNat)) ∨
      (count = 2 ∧ (1439 < c.toNat ∨ 1439 < d.toNat))) :
    parseWriteNode (nodeBytes n kind zone cls limit count room a b c d more) = none := by
  let ps := nodeBytes n kind zone cls limit count room a b c d more
  have kindRead : u8At ps 2 = kind.toNat := rfl
  have roomRead : u16At ps 3 = room.toNat := by
    simpa only [ps, nodeBytes, List.append_assoc] using u16At_u16 _ room.isLt (uNode n ++ [kind]) 3 rfl
  have zoneRead : u8At ps 5 = zone.toNat := rfl
  have clsRead : u8At ps 6 = cls.toNat := rfl
  have limitRead : u8At ps 7 = limit.toNat := rfl
  have countRead : u8At ps 8 = count.toNat := rfl
  have aRead : u16At ps 9 = a.toNat := by
    simpa only [ps, nodeBytes, List.append_assoc] using
      u16At_u16 _ a.isLt (uNode n ++ [kind] ++ u16 room.toNat ++ [zone, cls, limit, count]) 9 rfl
  have bRead : u16At ps 11 = b.toNat := by
    simpa only [ps, nodeBytes, List.append_assoc] using
      u16At_u16 _ b.isLt (uNode n ++ [kind] ++ u16 room.toNat ++ [zone, cls, limit, count] ++ u16 a.toNat) 11 rfl
  have cRead : u16At ps 13 = c.toNat := by
    simpa only [ps, nodeBytes, List.append_assoc] using
      u16At_u16 _ c.isLt (uNode n ++ [kind] ++ u16 room.toNat ++ [zone, cls, limit, count] ++ u16 a.toNat ++ u16 b.toNat) 13 rfl
  have dRead : u16At ps 15 = d.toNat := by
    simpa only [ps, nodeBytes, List.append_assoc] using u16At_u16 _ d.isLt
      (uNode n ++ [kind] ++ u16 room.toNat ++ [zone, cls, limit, count] ++ u16 a.toNat ++ u16 b.toNat ++ u16 c.toNat) 15 rfl
  have value {x : Byte} {k : Nat} (small : k < 256) : x = BitVec.ofNat 8 k → x.toNat = k :=
    fun e => by rw [e, BitVec.toNat_ofNat, Nat.mod_eq_of_lt small]
  have absent : room ≠ 0xFFFF → room.toNat ≠ 0xFFFF := fun ne e => ne (BitVec.eq_of_toNat_eq e)
  have classless : cls ≠ 0xFF → cls.toNat ≠ 0xFF := fun ne e => ne (BitVec.eq_of_toNat_eq e)
  change parseWriteNode ps = none
  cases read : parseWriteNode ps with
  | none => rfl
  | some x =>
    obtain ⟨ws, zoneOk, limitLow, limitHigh, few, windowsRead, made⟩ := parseWriteNode_some read
    rw [countRead] at few
    rw [countRead] at windowsRead
    obtain ⟨counted, first, second⟩ := windowsAt_some few windowsRead
    rw [kindRead, roomRead, clsRead] at made
    simp only [List.mem_cons, List.not_mem_nil, or_false] at bad
    rcases bad with bad | bad | bad | bad | bad | ⟨k, bad⟩ | ⟨k, bad⟩ | ⟨k, bad⟩ | ⟨k, bad⟩ | ⟨k, bad⟩ | ⟨k, bad⟩ | ⟨k, bad⟩ | ⟨k, bad⟩
    · omega
    · omega
    · omega
    · exact absurd (configOf_none (.inl bad)) made
    · omega
    · exact absurd (configOf_none (.inr (.inl ⟨k.imp (value (by decide)) (.imp (value (by decide)) (value (by decide))), bad⟩))) made
    · exact absurd (configOf_none (.inr (.inr (.inl
        ⟨k.imp (value (by decide)) (.imp (value (by decide)) (value (by decide))), absent bad⟩)))) made
    · exact absurd (configOf_none (.inr (.inr (.inr (.inl ⟨value (by decide) k, bad⟩))))) made
    · exact absurd (configOf_none (.inr (.inr (.inr (.inr (.inl ⟨value (by decide) k, bad⟩)))))) made
    · exact absurd (configOf_none (.inr (.inr (.inr (.inr (.inr (.inl ⟨k.imp (value (by decide)) (.imp (value (by decide))
        (.imp (value (by decide)) (value (by decide)))), classless bad⟩))))))) made
    · refine absurd (configOf_none (.inr (.inr (.inr (.inr (.inr (.inr ⟨fun e => k (BitVec.eq_of_toNat_eq e), fun none => ?_⟩))))))) made
      rw [none] at counted
      exact bad (BitVec.eq_of_toNat_eq counted.symm)
    · exact absurd (windowAt_none (ps := ps) (k := 9) (by rw [aRead, bRead]; exact bad)) (first k)
    · exact absurd (windowAt_none (ps := ps) (k := 13) (by rw [cRead, dRead]; exact bad)) (second (value (by decide) k))

theorem length_nodeParams (n : NodeAddr) (c : NodeConfig) (zone : Fin 16) (limit : Nat) (more : List Byte) :
    17 ≤ (nodeParams n c zone limit more).length := by
  unfold nodeParams
  simp only [List.length_append, length_windowBytes]
  exact Nat.le_add_right 17 more.length

/-! ### WRITE NODE (R94) -/

theorem writeNode_conflict {a : NodeWrite} {s : State}
    (h : (s.node a.node).grant ≠ none ∨ s.charge.sessionAt a.node ≠ none) : writeNode a s = refuse .conflict s := by
  unfold writeNode
  rw [if_pos (h.imp Option.isSome_iff_ne_none.mpr Option.isSome_iff_ne_none.mpr)]

theorem writeNode_free {a : NodeWrite} {s : State} (grant : (s.node a.node).grant = none)
    (session : s.charge.sessionAt a.node = none) : writeNode a s =
      accept [] (applyKindChange a.node (s.node a.node).config a.config (configureNode a s)) := by
  unfold writeNode
  rw [grant, session]
  exact if_neg (by simp)

theorem code_eq_zero_iff (c : NodeConfig) : c.code = 0 ↔ c = .none := by
  cases c <;> simp [NodeConfig.code]

theorem applyKindChange_same {old new : NodeConfig} (h : new.code = old.code) (n : NodeAddr) (s : State) :
    applyKindChange n old new s = s := by
  unfold applyKindChange
  rw [if_pos h.symm]

theorem applyKindChange_first {new : NodeConfig} (h : new ≠ .none) (n : NodeAddr) (s : State) :
    applyKindChange n .none new s = (resetNodeFields n s).modNode n Node.unpolled := by
  unfold applyKindChange
  rw [if_neg (fun e => h ((code_eq_zero_iff new).mp e.symm))]
  rfl

theorem applyKindChange_other {old new : NodeConfig} (ho : old ≠ .none) (other : new.code ≠ old.code) (hn : new ≠ .none)
    (n : NodeAddr) (s : State) : applyKindChange n old new s = setModeMark n (resetNodeFields n s) := by
  unfold applyKindChange
  rw [if_neg other.symm, (configured_iff old).mpr ho, (configured_iff new).mpr hn]
  rfl

theorem applyKindChange_last {old new : NodeConfig} (ho : old ≠ .none) (gone : new = .none) (n : NodeAddr) (s : State) :
    applyKindChange n old new s = dropMarks n ((resetNodeFields n s).modNode n Node.unpolled) := by
  subst gone
  unfold applyKindChange
  rw [if_neg (show ¬ old.code = NodeConfig.none.code from fun e => ho ((code_eq_zero_iff old).mp e)), (configured_iff old).mpr ho]
  rfl

end Sys2Proof.Machine

namespace Sys2Proof.Settled

open Sys2Proof.Machine

/-- Settles O36. -/
theorem writeNode : Obligations.WriteNode := by
  refine ⟨fun n c zone limit more s h low high few valid => ?_, fun n kind zone cls limit count room a b c d more s h bad => ?_⟩
  · intro ps
    have parse : parseWriteNode ps = some ⟨n, c, zone, limit⟩ := parseWriteNode_nodeParams n zone low high few valid more
    have long : ¬ ps.length < 17 := Nat.not_lt.mpr (length_nodeParams n c zone limit more)
    let w : NodeWrite := ⟨n, c, zone, limit⟩
    have fields : (configureNode w s).node n = { s.node n with config := c, zone := zone, heldOpenLimit := limit } :=
      node_modNode_same s n _
    have others (k : NodeAddr) (ne : k ≠ n) : (configureNode w s).node k = s.node k := node_modNode_ne s _ ne.symm
    refine ⟨fun grant session => ?_, fun busy => ?_⟩
    · have free := writeNode_free (a := w) (s := s.begun .service .writeNode) grant session
      have accepted {t : State} (eq : applyKindChange n (s.node n).config c (configureNode w (s.begun .service .writeNode)) =
          t.begun .service .writeNode) : exec (.writeNode .service ps) s = .next (t.done .service .writeNode []) :=
        congrArg Host.Outcome.next (takeCommand_accepted h long rfl parse (free.trans (congrArg (accept []) eq)))
      have reset := resetNodeFields_begun n (configureNode w s) .service .writeNode
      refine ⟨fun same => ?_, fun unset given => ⟨(resetNodeFields n (configureNode w s)).modNode n Node.unpolled, ?_, ?_, ?_,
          fun k ne => ?_, room_resetNodeFields n (configureNode w s)⟩,
        fun set other given => ⟨setModeMark n (resetNodeFields n (configureNode w s)), ?_, ?_, ?_, fun k ne => ?_⟩,
        fun set gone => ⟨dropMarks n ((resetNodeFields n (configureNode w s)).modNode n Node.unpolled), ?_, ?_, ?_, fun k ne => ?_,
          not_mem_outstanding_dropMarks n _, fun r => ?_⟩⟩
      · exact accepted (t := configureNode w s) (applyKindChange_same same.symm n _)
      · refine accepted ?_
        rw [unset, applyKindChange_first given]
        exact congrArg (State.modNode · n Node.unpolled) reset
      · rw [State.modNode, resetNodeFields_touches]
        rfl
      · rw [node_modNode_same, node_resetNodeFields_same, fields]
        rfl
      · rw [node_modNode_ne _ _ ne.symm, node_resetNodeFields_ne ne, others k ne]
      · refine accepted ?_
        rw [applyKindChange_other set other given]
        exact congrArg (setModeMark n) reset
      · rw [setModeMark, State.modNode, State.modLine, resetNodeFields_touches]
        rfl
      · rw [node_setModeMark_same, node_resetNodeFields_same, fields]
      · rw [node_setModeMark_ne ne, node_resetNodeFields_ne ne, others k ne]
      · refine accepted ?_
        rw [applyKindChange_last set gone, ← dropMarks_begun]
        exact congrArg (fun t : State => dropMarks n (t.modNode n Node.unpolled)) reset
      · rw [dropMarks_touches, State.modNode, resetNodeFields_touches]
        rfl
      · rw [node_dropMarks_same, node_modNode_same, node_resetNodeFields_same, fields, gone]
        rfl
      · rw [node_dropMarks_ne ne, node_modNode_ne _ _ ne.symm, node_resetNodeFields_ne ne, others k ne]
      · unfold State.room
        rw [dropMarks_touches]
        exact room_resetNodeFields n (configureNode w s) r
    · exact congrArg Host.Outcome.next (takeCommand_refused h long rfl parse (writeNode_conflict busy))
  · exact congrArg Host.Outcome.next (takeCommand_badParam h (not_truncated (by rfl)) rfl (parseWriteNode_none n more bad))

end Sys2Proof.Settled
end

section
/-! The statements of the line arbiter and of the answers it waits for (chapter 5). -/

/- The joined text is checked with bounded memory: proofs are elaborated one after another, not each in a thread of its own. -/
set_option Elab.async false

namespace Sys2Proof.Machine

/-! ### Changes of one line or one node, joined -/

theorem modLine_modLine (s : State) (l : LineIx) (f g : Line → Line) :
    (s.modLine l f).modLine l g = s.modLine l fun ln => g (f ln) :=
  congrArg (fun v => { s with lines := v }) (tmod_tmod s.lines l f g)

theorem modNode_modNode (s : State) (n : NodeAddr) (f g : Node → Node) :
    (s.modNode n f).modNode n g = s.modNode n fun nd => g (f nd) := by
  have table : tmod (tmod s.nodes n.line fun v => tmod v n.addr f) n.line (fun v => tmod v n.addr g) =
      tmod s.nodes n.line fun v => tmod v n.addr fun nd => g (f nd) := by
    rw [tmod_tmod]
    exact congrArg (tmod s.nodes n.line) (funext fun v => tmod_tmod v n.addr f g)
  exact congrArg (fun v => { s with nodes := v }) table

/-- Two changes that agree on the node as it stands. -/
theorem modNode_congr {s : State} {n : NodeAddr} {f g : Node → Node} (same : f (s.node n) = g (s.node n)) :
    s.modNode n f = s.modNode n g := by
  have inner : tmod (tget s.nodes n.line) n.addr f = tmod (tget s.nodes n.line) n.addr g :=
    congrArg (tset (tget s.nodes n.line) n.addr) same
  exact congrArg (fun v => { s with nodes := tset s.nodes n.line v }) inner

/-! ### The arbiter's choice (R98) -/

section
variable {l : LineIx} {s : State} (run : s.inRun = true) (runs : (s.line l).state ≠ .stopped)
  (free : (s.line l).exchange = none)
include run runs free

theorem lineChoice_free : s.lineChoice l =
    match (s.line l).busy, (s.line l).verdicts.head?, s.modeOwed l with
    | some a, _, _ => some (.busyReply a)
    | none, some v, _ => some (.verdict v)
    | none, none, some a => some (.mode a)
    | none, none, none => (s.rotationNode l).map .rotation := by
  unfold State.lineChoice
  dsimp only
  have begins : ¬ (s.inRun = false ∨ (s.line l).state = .stopped ∨ (s.line l).exchange ≠ none) := by
    rw [run, free]
    exact fun h => h.elim nofun fun h => h.elim runs fun h => h rfl
  exact if_neg begins

theorem lineChoice_busy {a : Fin 64} (busy : (s.line l).busy = some a) : s.lineChoice l = some (.busyReply a) := by
  rw [lineChoice_free run runs free, busy]

theorem lineChoice_verdict {v : QueuedVerdict} {rest : List QueuedVerdict} (quiet : (s.line l).busy = none)
    (queued : (s.line l).verdicts = v :: rest) : s.lineChoice l = some (.verdict v) := by
  rw [lineChoice_free run runs free, quiet, queued]
  rfl

theorem lineChoice_mode {a : Fin 64} (quiet : (s.line l).busy = none) (empty : (s.line l).verdicts = [])
    (owed : s.modeOwed l = some a) : s.lineChoice l = some (.mode a) := by
  rw [lineChoice_free run runs free, quiet, empty, owed]
  rfl

theorem lineChoice_rotation {a : Fin 64} (quiet : (s.line l).busy = none) (empty : (s.line l).verdicts = [])
    (none_ : s.modeOwed l = none) (turn : s.rotationNode l = some a) : s.lineChoice l = some (.rotation a) := by
  rw [lineChoice_free run runs free, quiet, empty, none_, turn]
  rfl

end

theorem modeOwed_test (s : State) (l : LineIx) (a : Fin 64) :
    ((tget (tget s.nodes l) a).modePending && decide ((tget (tget s.nodes l) a).link ≠ .offline)) = true ↔
      (s.node ⟨l, a⟩).modePending = true ∧ (s.node ⟨l, a⟩).link ≠ .offline := by
  rw [Bool.and_eq_true, decide_eq_true_iff]
  rfl

theorem modeOwed_some {s : State} {l : LineIx} {a : Fin 64}
    (owed : (s.node ⟨l, a⟩).modePending = true ∧ (s.node ⟨l, a⟩).link ≠ .offline)
    (first : ∀ b < a, ¬ ((s.node ⟨l, b⟩).modePending = true ∧ (s.node ⟨l, b⟩).link ≠ .offline)) : s.modeOwed l = some a :=
  tfind_eq_some (by decide) ((modeOwed_test s l a).mpr owed) fun b below =>
    Bool.eq_false_iff.mpr fun e => first b below ((modeOwed_test s l b).mp e)

theorem modeOwed_none {s : State} {l : LineIx}
    (none_ : ∀ b, ¬ ((s.node ⟨l, b⟩).modePending = true ∧ (s.node ⟨l, b⟩).link ≠ .offline)) : s.modeOwed l = none := by
  cases found : s.modeOwed l with
  | none => rfl
  | some a => exact absurd ((modeOwed_test s l a).mp (tfind_some found)) (none_ a)

/-- The rotation turn falls to the first configured node at or after the rotation position. -/
theorem rotationNode_eq {s : State} {l : LineIx} {d : Nat} (small : d < 64)
    (configured : (s.node ⟨l, (s.line l).rotation + Fin.ofNat 64 d⟩).config.configured = true)
    (first : ∀ e < d, (s.node ⟨l, (s.line l).rotation + Fin.ofNat 64 e⟩).config.configured = false) :
    s.rotationNode l = some ((s.line l).rotation + Fin.ofNat 64 d) := by
  unfold State.rotationNode
  rw [List.find?_map]
  have found : (List.range 64).find? ((fun a => (s.node ⟨l, a⟩).config.configured) ∘
      fun i => (s.line l).rotation + Fin.ofNat 64 i) = some d := by
    rw [List.find?_range_eq_some]
    exact ⟨configured, List.mem_range.mpr small, fun e below => by
      rw [Bool.not_eq_true', Function.comp_apply]
      exact first e below⟩
  rw [found]
  rfl

/-- What the four frames do by the arbiter's choice. -/
theorem frames_of_busyReply {l : LineIx} {s : State} {a : Fin 64} (chosen : s.lineChoice l = some (.busyReply a)) :
    busyReply l s = beginExchange l a .busyReply s ∧ verdictFrame l s = s ∧ modeFrame l s = s ∧ rotationTurn l s = s := by
  unfold busyReply verdictFrame modeFrame rotationTurn
  rw [chosen]
  exact ⟨rfl, rfl, rfl, rfl⟩

theorem frames_of_verdict {l : LineIx} {s : State} {v : QueuedVerdict} (chosen : s.lineChoice l = some (.verdict v)) :
    verdictFrame l s = beginExchange l v.addr (.verdict v.verdict.outcome) s ∧ busyReply l s = s ∧ modeFrame l s = s ∧
      rotationTurn l s = s := by
  unfold busyReply verdictFrame modeFrame rotationTurn
  rw [chosen]
  exact ⟨rfl, rfl, rfl, rfl⟩

theorem frames_of_mode {l : LineIx} {s : State} {a : Fin 64} (chosen : s.lineChoice l = some (.mode a)) :
    modeFrame l s = beginExchange l a (.mode (s.node ⟨l, a⟩).mode.name) s ∧ rotationTurn l s = s := by
  unfold modeFrame rotationTurn
  rw [chosen]
  exact ⟨rfl, rfl⟩

theorem rotationTurn_of_rotation {l : LineIx} {s : State} {a : Fin 64} (chosen : s.lineChoice l = some (.rotation a)) :
    rotationTurn l s = (beginExchange l a (s.turnFrame ⟨l, a⟩) s).modLine l fun ln => { ln with rotation := a + 1 } := by
  unfold rotationTurn
  rw [chosen]

/-! ### Exchanges that are answered (R96, R103) -/

theorem exchangeAnswered_idle {l : LineIx} {s : State} (free : (s.line l).exchange = none) (a : Answer) :
    exchangeAnswered l a s = s := by
  have none_ : s.exchangeOn l = none := by
    unfold State.exchangeOn
    rw [free, ite_self]
  unfold exchangeAnswered
  rw [none_]

/-- A configured node's answer: its frame acknowledged, its link state brought up, its event handed on. -/
theorem exchangeAnswered_configured {n : NodeAddr} {x : Exchange} {s : State} (run : s.inRun = true)
    (waits : (s.line n.line).exchange = some x) (addr : x.addr = n.addr) (configured : (s.node n).config.configured = true)
    (a : Answer) : exchangeAnswered n.line a s = handEvent n a s.now
      (linkAnswered n ((acknowledge n x (endExchange n.line s)).modLine n.line Line.heard)) := by
  have on : s.exchangeOn n.line = some x := by
    unfold State.exchangeOn
    rw [if_pos run, waits]
  unfold exchangeAnswered
  rw [on]
  dsimp only
  rw [addr]
  exact if_pos configured

theorem linkAnswered_online {n : NodeAddr} {s : State} (online : (s.node n).link = .online) :
    linkAnswered n s = s.modNode n fun nd => { nd with missed := 0 } := by
  unfold linkAnswered
  dsimp only
  rw [online]
  exact modNode_congr (by rw [← online])

/-- The state of a node that comes ONLINE, before its record. -/
def broughtOnline (n : NodeAddr) (s : State) : State :=
  setLampMark n (setModeMark n (s.modNode n fun nd => { nd with missed := 0, link := .online }))

theorem linkAnswered_new {n : NodeAddr} {s : State} (new : (s.node n).link ≠ .online) : linkAnswered n s =
    if (s.node n).link = .offline then
      offer { kind := .nodeOnline, cls := .notice, time := s.now, node := some n } (broughtOnline n s)
    else broughtOnline n s := by
  unfold linkAnswered
  dsimp only
  cases link : (s.node n).link with
  | online => exact absurd link new
  | unpolled => rfl
  | offline => rfl

theorem node_setLampMark_same (n : NodeAddr) (s : State) : (setLampMark n s).node n = { s.node n with lampPending := true } :=
  node_modNode_same s n fun nd => { nd with lampPending := true }

theorem node_broughtOnline (n : NodeAddr) (s : State) : (broughtOnline n s).node n =
    { s.node n with missed := 0, link := .online, modePending := true, lampPending := true } := by
  unfold broughtOnline
  rw [node_setLampMark_same, node_setModeMark_same, node_modNode_same]

theorem broughtOnline_touches (n : NodeAddr) (s : State) : broughtOnline n s = { s with
    lines := (broughtOnline n s).lines, nodes := (broughtOnline n s).nodes } := rfl

/-- A polled node's answer, its event apart. -/
theorem exchangeAnswered_polled {n : NodeAddr} {s : State} (h : s.polls n) (a : Answer) :
    exchangeAnswered n.line a s = handEvent n a s.now (s.heardFrom n) := by
  obtain ⟨run, waits, configured, online⟩ := h
  rw [exchangeAnswered_configured run waits rfl configured]
  have ended : (acknowledge n ⟨n.addr, .poll, false⟩ (endExchange n.line s)).modLine n.line Line.heard =
      s.modLine n.line fun ln =>
        { ln with exchange := none, silent := 0, state := if ln.state = .fault then .running else ln.state } :=
    modLine_modLine ..
  rw [ended]
  exact congrArg (handEvent n a s.now) (linkAnswered_online (s := s.modLine n.line fun ln =>
    { ln with exchange := none, silent := 0, state := if ln.state = .fault then .running else ln.state }) online)

/-- The verdict at the head of its queue leaves it, and one of a presentation takes that presentation along. -/
theorem popVerdict_cons {l : LineIx} {s : State} {v : QueuedVerdict} {rest : List QueuedVerdict}
    (queued : (s.line l).verdicts = v :: rest) : popVerdict l s =
      { s.modLine l fun ln => { ln with verdicts := rest } with
        verdict := if v.remote then s.verdict else { s.verdict with
          queue := s.verdict.queue.eraseP fun y => decide (y.node.line = l) && y.verdict.isSome } } := by
  have judged : (fun y : Presentation => decide (y.node.line = l) && !y.waiting) =
      fun y => decide (y.node.line = l) && y.verdict.isSome :=
    funext fun y => congrArg (decide (y.node.line = l) && ·) (Option.not_isNone y.verdict)
  unfold popVerdict
  rw [queued]
  dsimp only
  cases v.remote with
  | false => exact judged ▸ rfl
  | true => rfl

theorem acknowledge_verdict {x : Exchange} {o : VerdictOutcome} (frame : x.frame = .verdict o) (n : NodeAddr) (s : State) :
    acknowledge n x s = popVerdict n.line s := by
  unfold acknowledge
  rw [frame]

theorem acknowledge_busyReply {x : Exchange} (frame : x.frame = .busyReply) (n : NodeAddr) (s : State) :
    acknowledge n x s = dropBusy n.line s := by
  unfold acknowledge
  rw [frame]

theorem acknowledge_mode {x : Exchange} {m : ModeName} (frame : x.frame = .mode m) (n : NodeAddr) (s : State) :
    acknowledge n x s = s.modNode n fun nd => { nd with modePending := x.markAgain } := by
  unfold acknowledge
  rw [frame]

theorem acknowledge_lamps {x : Exchange} {sent : LampSet} (frame : x.frame = .lamps sent) (n : NodeAddr) (s : State) :
    acknowledge n x s = lampsServed n sent x.markAgain s := by
  unfold acknowledge
  rw [frame]

theorem acknowledge_poll {x : Exchange} (frame : x.frame = .poll) (n : NodeAddr) (s : State) : acknowledge n x s = s := by
  unfold acknowledge
  rw [frame]

/-! ### A LAMPS frame served (R99, R170) -/

theorem settleSweep_drained {s : State} (h : s.lamps.drained = true) : settleSweep s = raise .service .sweepDone { s with
    lamps := { s.lamps with
      sweep := match s.lamps.pendingStart with | some k => .marking k 0 | none => .idle
      pendingStart := none } } := by
  unfold settleSweep
  exact if_pos h

theorem settleSweep_kept {s : State} (h : s.lamps.drained ≠ true) : settleSweep s = s := by
  unfold settleSweep
  rw [if_neg h]

theorem drained_iff (u : Indicator) : u.drained = true ↔ (∃ k, u.sweep = .draining k) ∧ u.outstanding = [] := by
  unfold Indicator.drained
  cases u.sweep <;> simp

/-- The state once a node's lamps are served, before a drained sweep ends. -/
def lampsNoted (n : NodeAddr) (sent : LampSet) (again : Bool) (s : State) : State :=
  { s.modNode n fun nd => { nd with lampPending := again } with
    lamps := { s.lamps with
      entries := (match s.doorRoom n with
        | some r => s.modLamp r fun e => { e with lastSent := some sent }
        | none => s).lamps.entries
      outstanding := if again then s.lamps.outstanding else s.lamps.outstanding.filter fun m => decide (m ≠ n) } }

theorem lampsServed_eq (n : NodeAddr) (sent : LampSet) (again : Bool) (s : State) :
    lampsServed n sent again s = settleSweep (lampsNoted n sent again s) := by
  unfold lampsServed lampsNoted
  cases s.doorRoom n <;> cases again <;> rfl

theorem node_lampsServed_same (n : NodeAddr) (sent : LampSet) (again : Bool) (s : State) :
    (lampsServed n sent again s).node n = { s.node n with lampPending := again } := by
  unfold State.node
  rw [lampsServed_eq, settleSweep_nodes]
  exact node_modNode_same s n fun nd => { nd with lampPending := again }

theorem node_lampsServed_ne {n m : NodeAddr} (h : m ≠ n) (sent : LampSet) (again : Bool) (s : State) :
    (lampsServed n sent again s).node m = s.node m := by
  unfold State.node
  rw [lampsServed_eq, settleSweep_nodes]
  exact node_modNode_ne s (fun nd => { nd with lampPending := again }) h.symm

theorem entries_settleSweep (s : State) : (settleSweep s).lamps.entries = s.lamps.entries := by
  unfold settleSweep
  split <;> rfl

theorem lamps_settleSweep (s : State) : (settleSweep s).lamps =
    { s.lamps with sweep := (settleSweep s).lamps.sweep, pendingStart := (settleSweep s).lamps.pendingStart } := by
  unfold settleSweep
  split <;> rfl

theorem lamp_lampsServed (n : NodeAddr) (sent : LampSet) (again : Bool) (s : State) (r : RoomIx) :
    (lampsServed n sent again s).lamp r =
      if s.doorRoom n = some r then { s.lamp r with lastSent := some sent } else s.lamp r := by
  unfold State.lamp
  rw [lampsServed_eq, entries_settleSweep, lampsNoted]
  dsimp only
  cases s.doorRoom n with
  | none => rfl
  | some q =>
    by_cases e : q = r
    · subst e
      rw [if_pos rfl]
      exact lamp_modLamp_same s q _
    · rw [if_neg (fun h => e (Option.some.inj h))]
      exact lamp_modLamp_ne s _ e

theorem outstanding_lampsServed (n : NodeAddr) (sent : LampSet) (again : Bool) (s : State) :
    (lampsServed n sent again s).lamps.outstanding =
      if again then s.lamps.outstanding else s.lamps.outstanding.filter fun m => decide (m ≠ n) := by
  rw [lampsServed_eq, outstanding_settleSweep]
  rfl

theorem link_acknowledge (n : NodeAddr) (x : Exchange) (s : State) : ((acknowledge n x s).node n).link = (s.node n).link := by
  unfold acknowledge
  split
  · rfl
  · rw [node_lampsServed_same]
  · rw [node_modNode_same]
  · unfold popVerdict
    split
    · rfl
    · dsimp only
      split <;> rfl
  · rfl

theorem outstanding_heardFrom (s : State) (n : NodeAddr) : (s.heardFrom n).outstanding n.line = s.outstanding n.line := by
  have same : ((s.heardFrom n).line n.line).verdicts = (s.line n.line).verdicts := by
    unfold State.heardFrom State.line
    rw [modNode_lines]
    have changed := line_modLine_same s n.line fun ln =>
      { ln with exchange := none, silent := 0, state := if ln.state = .fault then .running else ln.state }
    exact (congrArg Line.verdicts changed :)
  unfold State.outstanding
  rw [same]
  rfl

theorem now_congr {s t : State} (supply : t.supply = s.supply) : t.now = s.now := by
  unfold State.now
  rw [supply]

theorem admits_iff (s : State) (l : LineIx) : s.admits l = true ↔ s.verdict.queue.length < 32 ∧ s.outstanding l < 8 := by
  unfold State.admits
  rw [Bool.and_eq_true, decide_eq_true_iff, decide_eq_true_iff]
  rfl

end Sys2Proof.Machine

namespace Sys2Proof.Settled

open Sys2Proof.Machine

/-- Settles O37. -/
theorem lineArbiter : Obligations.LineArbiter := by
  intro l s run runs free sends owed
  refine ⟨fun a busy => ?_, fun v rest quiet queued => ?_, fun a quiet empty is first => ?_,
    fun d small quiet empty none configured first => ?_⟩
  · obtain ⟨reply, verdict, mode, turn⟩ := frames_of_busyReply (lineChoice_busy run runs free busy)
    exact ⟨congrArg Host.Outcome.next reply, congrArg Host.Outcome.next verdict, congrArg Host.Outcome.next mode,
      congrArg Host.Outcome.next turn⟩
  · obtain ⟨verdict, reply, mode, turn⟩ := frames_of_verdict (lineChoice_verdict run runs free quiet queued)
    exact ⟨congrArg Host.Outcome.next verdict, congrArg Host.Outcome.next reply, congrArg Host.Outcome.next mode,
      congrArg Host.Outcome.next turn⟩
  · obtain ⟨mode, turn⟩ := frames_of_mode (lineChoice_mode run runs free quiet empty (modeOwed_some is first))
    exact ⟨congrArg Host.Outcome.next mode, congrArg Host.Outcome.next turn⟩
  · exact congrArg Host.Outcome.next (rotationTurn_of_rotation (lineChoice_rotation run runs free quiet empty
      (modeOwed_none none) (rotationNode_eq small configured first)))

/-- Settles O38. -/
theorem answerServes : Obligations.AnswerServes := by
  intro n s run
  refine ⟨fun polled => ⟨congrArg Host.Outcome.next (exchangeAnswered_polled polled .quiet),
      congrArg Host.Outcome.next (exchangeAnswered_polled polled .ack)⟩,
    fun x waits addr configured online => ?_, fun x sent waits addr lamps clear configured new => ?_,
    fun x waits addr poll configured new => ?_, fun free => ⟨congrArg Host.Outcome.next (exchangeAnswered_idle free .quiet),
      congrArg Host.Outcome.next (exchangeAnswered_idle free .ack)⟩⟩
  · let ended := endExchange n.line s
    let t := ((acknowledge n x ended).modLine n.line Line.heard).modNode n fun nd => { nd with missed := 0 }
    have online' : (((acknowledge n x ended).modLine n.line Line.heard).node n).link = .online :=
      (link_acknowledge n x ended).trans online
    have answered : exec (.ack n.line) s = .next t := congrArg Host.Outcome.next
      ((exchangeAnswered_configured run waits addr configured .ack).trans (linkAnswered_online online'))
    have node : t.node n = { (acknowledge n x ended).node n with missed := 0 } :=
      node_modNode_same ((acknowledge n x ended).modLine n.line Line.heard) n fun nd => { nd with missed := 0 }
    have line : t.line n.line = ((acknowledge n x ended).line n.line).heard :=
      line_modLine_same (acknowledge n x ended) n.line Line.heard
    have endedLine : ended.line n.line = { s.line n.line with exchange := none } :=
      line_modLine_same s n.line fun ln => { ln with exchange := none }
    refine ⟨fun o v rest frame queued => ?_, fun frame => ?_, fun m frame => ?_, fun sent frame => ?_⟩
    · have popped := (acknowledge_verdict frame n ended).trans (popVerdict_cons (rest := rest)
        (show (ended.line n.line).verdicts = v :: rest by rw [endedLine]; exact queued))
      have left := line_modLine_same ended n.line fun ln => { ln with verdicts := rest }
      refine ⟨t, answered, ?_, ?_, ?_, ?_, fun remote => ?_, fun local_ => ?_⟩
      · dsimp only [t]
        rw [popped]
        rfl
      · rw [line, popped]
        exact congrArg (fun ln : Line => ln.heard.verdicts) left
      · rw [line, popped]
        exact (congrArg (fun ln : Line => ln.heard.exchange) left).trans (congrArg Line.exchange endedLine)
      · rw [node]
      · change (acknowledge n x ended).verdict = _
        rw [popped]
        exact if_pos remote
      · change (acknowledge n x ended).verdict = _
        rw [popped]
        exact if_neg (by rw [local_]; decide)
    · refine ⟨t, answered, ?_, ?_⟩
      · dsimp only [t]
        rw [acknowledge_busyReply frame]
        rfl
      · rw [line, acknowledge_busyReply frame]
        exact congrArg (fun ln : Line => ln.heard.busy) (line_modLine_same ended n.line fun ln => { ln with busy := none })
    · refine ⟨t, answered, ?_, ?_⟩
      · dsimp only [t]
        rw [acknowledge_mode frame]
        rfl
      · rw [node, acknowledge_mode frame, node_modNode_same]
        rfl
    · have served := acknowledge_lamps frame n ended
      have lamps : t.lamps = (settleSweep (lampsNoted n sent x.markAgain ended)).lamps :=
        (congrArg State.lamps (served.trans (lampsServed_eq ..)) :)
      have attn : t.attn = (settleSweep (lampsNoted n sent x.markAgain ended)).attn :=
        (congrArg State.attn (served.trans (lampsServed_eq ..)) :)
      have drained := drained_iff (lampsNoted n sent x.markAgain ended).lamps
      refine ⟨t, answered, ?_, ?_, fun m ne => ?_, fun r => ?_, ?_, ?_, fun runs => ?_, fun draining empty => ?_⟩
      · dsimp only [t]
        rw [served, lampsServed_eq, settleSweep_touches]
        rfl
      · rw [node, served, node_lampsServed_same]
        rfl
      · refine (node_modNode_ne _ _ ne.symm).trans ?_
        change (acknowledge n x ended).node m = _
        rw [served]
        exact node_lampsServed_ne ne sent x.markAgain ended
      · change (acknowledge n x ended).lamp r = _
        rw [served]
        exact lamp_lampsServed n sent x.markAgain ended r
      · rw [lamps, lamps_settleSweep]
        rfl
      · rw [lamps, outstanding_settleSweep]
        rfl
      · have kept := settleSweep_kept (mt drained.mp fun ⟨⟨k, is⟩, empty⟩ => runs.elim (fun h => h k is) fun h => h empty)
        rw [lamps, attn, kept]
        exact ⟨rfl, rfl, rfl⟩
      · have ends := settleSweep_drained (drained.mpr ⟨draining, empty⟩)
        rw [lamps, attn, ends]
        exact ⟨rfl, rfl, rfl⟩
  · let ended := endExchange n.line s
    let heard := (acknowledge n x ended).modLine n.line Line.heard
    have served : acknowledge n x ended = lampsServed n sent false ended := clear ▸ acknowledge_lamps lamps n ended
    have link : (heard.node n).link = (s.node n).link := link_acknowledge n x ended
    have supply : heard.supply = s.supply := by
      change (acknowledge n x ended).supply = _
      rw [served, lampsServed_eq, settleSweep_supply]
      rfl
    refine ⟨broughtOnline n heard, ?_, ?_, ?_⟩
    · refine congrArg Host.Outcome.next ((exchangeAnswered_configured run waits addr configured .ack).trans
        ((linkAnswered_new (s := heard) (by rw [link]; exact new)).trans ?_))
      rw [link, now_congr supply]
    · have node : heard.node n = { s.node n with lampPending := false } := by
        change (acknowledge n x ended).node n = _
        rw [served, node_lampsServed_same]
        rfl
      rw [node_broughtOnline, node]
    · change n ∉ (acknowledge n x ended).lamps.outstanding
      rw [served, outstanding_lampsServed, if_neg Bool.false_ne_true, List.mem_filter, decide_eq_true_iff]
      exact fun h => h.2 rfl
  · let heard := (endExchange n.line s).modLine n.line Line.heard
    refine ⟨broughtOnline n heard, ?_, by rw [broughtOnline_touches]; rfl, node_broughtOnline n heard⟩
    have answered := exchangeAnswered_configured run waits addr configured .quiet
    rw [acknowledge_poll poll] at answered
    exact congrArg Host.Outcome.next (answered.trans (linkAnswered_new (s := heard) new))

/-- Settles O39. -/
theorem presentAnswer : Obligations.PresentAnswer := by
  intro n side card s polled
  have answered := exchangeAnswered_polled polled (.present side card)
  have admits := admits_iff (s.heardFrom n) n.line
  rw [outstanding_heardFrom] at admits
  refine ⟨fun room few => congrArg Host.Outcome.next (answered.trans (if_pos (admits.mpr ⟨room, few⟩))), fun full =>
    congrArg Host.Outcome.next (answered.trans (if_neg fun e => ?_))⟩
  obtain ⟨room, few⟩ := admits.mp e
  exact full.elim (Nat.not_le.mpr room) (Nat.not_le.mpr few)

end Sys2Proof.Settled
end

section
/-! The statements of folios, charges and minibars (chapter 6). -/

/- The joined text is checked with bounded memory: proofs are elaborated one after another, not each in a thread of its own. -/
set_option Elab.async false

namespace Sys2Proof.Machine

/-! ### Folios by command (R114, R115, R117, R118) -/

theorem modFolio_modFolio (s : State) (k : FolioIx) (f g : Folio → Folio) :
    (s.modFolio k f).modFolio k g = s.modFolio k fun x => g (f x) :=
  congrArg (fun v => { s with charge := { s.charge with folios := v } }) (tmod_tmod s.charge.folios k f g)

/-- Two changes that agree on the folio as it stands. -/
theorem modFolio_congr {s : State} {k : FolioIx} {f g : Folio → Folio} (same : f (s.folio k) = g (s.folio k)) :
    s.modFolio k f = s.modFolio k g :=
  congrArg (fun v => { s with charge := { s.charge with folios := tset s.charge.folios k v } }) same

theorem inUse_iff (x : FolioState) : x.inUse = true ↔ x = .opened ∨ ∃ c, x = .held c := by
  cases x <;> simp [FolioState.inUse]

theorem openFolio_eq (f : FolioIx) (s : State) : openFolio f s = if (s.folio f).state = .free then
      accept [] (s.modFolio f fun _ => { state := .opened, rooms := [], allowance := 0, spent := 0, pendingLines := 0 })
    else refuse .state s :=
  ite_not ..

theorem holdFolio_taken {f : FolioIx} {s : State} (h : (s.folio f).state.inUse = true) :
    holdFolio f s = accept [] (s.modFolio f fun x => { x with state := .held .manual }) := by
  unfold holdFolio
  rw [h]
  rfl

theorem holdFolio_refused {f : FolioIx} {s : State} (h : (s.folio f).state.inUse = false) : holdFolio f s = refuse .state s := by
  unfold holdFolio
  rw [if_pos h]

theorem releaseFolio_taken {f : FolioIx} {s : State} {c : HoldCause} (h : (s.folio f).state = .held c) :
    releaseFolio f s = accept [] (s.modFolio f fun x => { x with state := .opened }) := by
  unfold releaseFolio
  rw [h]
  rfl

theorem releaseFolio_refused {f : FolioIx} {s : State} (h : (s.folio f).state.cause = none) :
    releaseFolio f s = refuse .state s := by
  unfold releaseFolio
  rw [if_pos h]

theorem settleFolio_eq (f : FolioIx) (s : State) : settleFolio f s =
    if (s.folio f).state = .closing ∧ (s.folio f).rooms = [] ∧ (s.folio f).pendingLines = 0 ∧
        (∀ x ∈ s.charge.sessions, x.folio ≠ some f) then
      raise .front .folioDrained (raise .charge .folioDrained
        (s.modFolio f fun x => { x with state := .free, allowance := 0, spent := 0 }))
    else s := by
  unfold settleFolio
  exact if_congr (and_congr_right fun _ => and_congr_right fun _ => and_congr_right fun _ => sessionsOf_zero_iff s.charge f) rfl rfl

theorem settleFolio_begun (f : FolioIx) (s : State) (p : Port) (c : Command) :
    settleFolio f (s.begun p c) = (settleFolio f s).begun p c := by
  unfold settleFolio
  rw [show (s.begun p c).folio f = s.folio f from rfl, show (s.begun p c).charge = s.charge from rfl]
  split <;> rfl

theorem closeFolio_taken {f : FolioIx} {s : State} (inUse : (s.folio f).state.inUse = true)
    (empty : ∀ r ∈ (s.folio f).rooms, (s.room r).stayInProgress = false) :
    closeFolio f s = accept [] (settleFolio f (s.modFolio f fun x => { x with state := .closing })) := by
  have none_ : (s.folio f).rooms.any (fun r => (s.room r).stayInProgress) = false := List.any_eq_false.mpr fun r hr =>
    Bool.eq_false_iff.mp (empty r hr)
  unfold closeFolio
  rw [inUse, none_]
  rfl

theorem closeFolio_stays {f : FolioIx} {s : State} (stay : ∃ r ∈ (s.folio f).rooms, (s.room r).stayInProgress = true) :
    closeFolio f s = refuse .state s := by
  unfold closeFolio
  rw [if_pos (.inr (List.any_eq_true.mpr stay))]

theorem closeFolio_unused {f : FolioIx} {s : State} (h : (s.folio f).state.inUse = false) :
    closeFolio f s = refuse .state s := by
  unfold closeFolio
  rw [if_pos (.inl h)]

/-- A folio that closes empty drains at once. -/
theorem settleFolio_closing (f : FolioIx) (s : State) : settleFolio f (s.modFolio f fun x => { x with state := .closing }) =
    if (s.folio f).rooms = [] ∧ (s.folio f).pendingLines = 0 ∧ (∀ x ∈ s.charge.sessions, x.folio ≠ some f) then
      raise .front .folioDrained (raise .charge .folioDrained
        (s.modFolio f fun x => { x with state := .free, allowance := 0, spent := 0 }))
    else s.modFolio f fun x => { x with state := .closing } := by
  rw [settleFolio_eq, folio_modFolio_same, modFolio_modFolio]
  exact if_congr (and_iff_right rfl) rfl rfl

theorem parseSetAllowance_fields (f : FolioIx) (amount : BitVec 16) (more : List Byte) :
    parseSetAllowance (u8 f.val ++ u16 amount.toNat ++ more) = some (f, amount.toNat) := by
  have folio : folioAt (u8 f.val ++ u16 amount.toNat ++ more) 0 = f := by
    simpa only [List.append_assoc] using Option.some.inj (parseFolio_u8 (u16 amount.toNat ++ more) f)
  have sum : u16At (u8 f.val ++ u16 amount.toNat ++ more) 1 = amount.toNat := by
    simpa only [List.append_assoc] using u16At_u16 more amount.isLt (u8 f.val) 1 rfl
  unfold parseSetAllowance
  rw [folio, sum]

theorem setAllowance_refused {f : FolioIx} {s : State} (h : (s.folio f).state.inUse = false) (amount : Nat) :
    setAllowance (f, amount) s = refuse .state s := by
  unfold setAllowance
  dsimp only
  rw [if_pos h]

/-- The state once a folio takes an allowance (R117). -/
def allowanceSet (f : FolioIx) (amount : Nat) (s : State) : State :=
  if (s.folio f).state = .opened ∧ amount ≤ (s.folio f).spent then
    raise .charge .folioHeld (s.modFolio f fun x => { x with allowance := amount, state := x.withAllowance amount })
  else s.modFolio f fun x => { x with allowance := amount, state := x.withAllowance amount }

theorem allowanceSet_begun (f : FolioIx) (amount : Nat) (s : State) (p : Port) (c : Command) :
    allowanceSet f amount (s.begun p c) = (allowanceSet f amount s).begun p c := by
  unfold allowanceSet
  rw [show (s.begun p c).folio f = s.folio f from rfl]
  split <;> rfl

theorem allowanceSet_held {f : FolioIx} {s : State} {amount : Nat} (opened : (s.folio f).state = .opened)
    (spent : amount ≤ (s.folio f).spent) : allowanceSet f amount s =
      raise .charge .folioHeld (s.modFolio f fun x => { x with allowance := amount, state := .held .allowance }) := by
  unfold allowanceSet
  rw [if_pos ⟨opened, spent⟩]
  refine congrArg (raise .charge .folioHeld) (modFolio_congr ?_)
  rw [Folio.withAllowance, opened]
  exact congrArg (fun k => { s.folio f with allowance := amount, state := k }) (if_pos spent)

theorem allowanceSet_stands {f : FolioIx} {s : State} {amount : Nat} {k : FolioState}
    (quiet : ¬ ((s.folio f).state = .opened ∧ amount ≤ (s.folio f).spent)) (state : (s.folio f).withAllowance amount = k) :
    allowanceSet f amount s = s.modFolio f fun x => { x with allowance := amount, state := k } := by
  unfold allowanceSet
  rw [if_neg quiet]
  exact modFolio_congr (by rw [state])

theorem setAllowance_taken {f : FolioIx} {s : State} (h : (s.folio f).state.inUse = true) (amount : Nat) :
    setAllowance (f, amount) s = accept [] (allowanceSet f amount s) := by
  unfold setAllowance
  dsimp only
  rw [if_neg (by rw [h]; decide)]
  rfl

/-! ### Prices (R131) -/

/-- Two-byte fields in a row read back. -/
theorem map_u16At_flatten (xs : List (BitVec 16)) (before more : List Byte) (k : Nat) (hk : before.length = k) :
    ((List.range xs.length).map fun i => u16At (before ++ ((xs.map fun x => u16 x.toNat).flatten ++ more)) (k + 2 * i)) =
      xs.map BitVec.toNat := by
  induction xs generalizing before k with
  | nil => rfl
  | cons x xs ih =>
    have rest := ih (before ++ u16 x.toNat) (k + 2) (by rw [List.length_append, hk]; rfl)
    have head := u16At_u16 ((xs.map fun x => u16 x.toNat).flatten ++ more) x.isLt before k hk
    rw [List.length_cons, List.range_succ_eq_map, List.map_cons, List.map_cons, List.map_cons, List.flatten_cons, List.map_map,
      List.append_assoc]
    refine congrArg₂ List.cons head (Eq.trans (List.map_congr_left fun i _ => ?_) rest)
    rw [Function.comp_apply, List.append_assoc, Nat.succ_eq_add_one, show k + 2 * (i + 1) = k + 2 + 2 * i by omega]

theorem priceCount_read (k : Fin 4) (first : Fin 32) {prices : List (BitVec 16)} (most : prices.length ≤ 32) (more : List Byte) :
    u8At (u8 k.val ++ u8 first.val ++ u8 prices.length ++ (prices.map fun x => u16 x.toNat).flatten ++ more) 2 =
      prices.length := by
  simpa only [List.append_assoc] using u8At_u8 _ (by omega : prices.length < 256) (u8 k.val ++ u8 first.val) 2 rfl

theorem length_u16s (xs : List (BitVec 16)) : (xs.map fun x => u16 x.toNat).flatten.length = 2 * xs.length := by
  induction xs with
  | nil => rfl
  | cons x xs ih =>
    rw [List.map_cons, List.flatten_cons, List.length_append, ih, List.length_cons]
    change 2 + 2 * xs.length = 2 * (xs.length + 1)
    omega

theorem writePrices_long (k : Fin 4) (first : Fin 32) {prices : List (BitVec 16)} (most : prices.length ≤ 32) (more : List Byte) :
    ¬ (u8 k.val ++ u8 first.val ++ u8 prices.length ++ (prices.map fun x => u16 x.toNat).flatten ++ more).length <
      Command.writePrices.needed (u8 k.val ++ u8 first.val ++ u8 prices.length ++ (prices.map fun x => u16 x.toNat).flatten ++ more) := by
  change ¬ _ < 3 + 2 * u8At _ 2
  rw [priceCount_read k first most more, List.length_append, List.length_append, length_u16s]
  change ¬ 3 + 2 * prices.length + more.length < 3 + 2 * prices.length
  omega

theorem parseWritePrices_fields (k : Fin 4) (first : Fin 32) {prices : List (BitVec 16)} (one : 1 ≤ prices.length)
    (most : prices.length ≤ 32) (more : List Byte) :
    parseWritePrices (u8 k.val ++ u8 first.val ++ u8 prices.length ++ (prices.map fun x => u16 x.toNat).flatten ++ more) =
      some (k, first, prices.map BitVec.toNat) := by
  have cls : u8At (u8 k.val ++ u8 first.val ++ u8 prices.length ++ (prices.map fun x => u16 x.toNat).flatten ++ more) 0 = k.val := by
    simpa only [List.append_assoc] using u8At_head _ (by omega : k.val < 256)
  have slot : u8At (u8 k.val ++ u8 first.val ++ u8 prices.length ++ (prices.map fun x => u16 x.toNat).flatten ++ more) 1 =
      first.val := by
    simpa only [List.append_assoc] using u8At_u8 _ (by omega : first.val < 256) (u8 k.val) 1 rfl
  have count := priceCount_read k first most more
  have values := map_u16At_flatten prices (u8 k.val ++ u8 first.val ++ u8 prices.length) more 3 rfl
  rw [← List.append_assoc] at values
  unfold parseWritePrices countAt
  rw [cls, slot, count, toFin?_val, toFin?_val, if_pos ⟨one, most⟩]
  exact congrArg (fun xs => some (k, first, xs)) values

theorem tget_writeRow (row : Table Nat 5) (first : Nat) (prices : List Nat) (i : Fin 32) : tget (writeRow row first prices) i =
    if first ≤ i.val then (prices[i.val - first]?).getD (tget row i) else tget row i :=
  tget_tmap (by decide) ..

/-- A run of prices written into one row. -/
theorem tget_writePrices (rows : Table (Table Nat 5) 2) (k c : Fin 4) (first : Nat) (prices : List (BitVec 16)) (i : Fin 32) :
    tget (tget (tmod rows k fun row => writeRow row first (prices.map BitVec.toNat)) c) i =
      if c = k ∧ first ≤ i.val ∧ i.val < first + prices.length then (prices.getD (i.val - first) 0).toNat
      else tget (tget rows c) i := by
  by_cases same : c = k
  · subst same
    rw [tget_tmod_same, tget_writeRow, List.getElem?_map, List.getD_eq_getElem?_getD]
    by_cases low : first ≤ i.val
    · rw [if_pos low]
      by_cases high : i.val < first + prices.length
      · have there : i.val - first < prices.length := by omega
        rw [if_pos ⟨rfl, low, high⟩, List.getElem?_eq_getElem there]
        rfl
      · have past : prices.length ≤ i.val - first := by omega
        rw [if_neg (fun h => high h.2.2), List.getElem?_eq_none past]
        rfl
    · rw [if_neg low, if_neg (fun h => low h.2.1)]
  · rw [tget_tmod_ne (by decide) _ _ _ _ (Ne.symm same), if_neg (fun h => same h.1)]

theorem writePrices_eq (k : Fin 4) (first : Fin 32) (prices : List (BitVec 16)) (s : State) :
    writePrices (k, first, prices.map BitVec.toNat) s =
      if 32 < first.val + prices.length then refuse .badParam s
      else accept [] { s with charge := { s.charge with
        prices := tmod s.charge.prices k fun row => writeRow row first.val (prices.map BitVec.toNat) } } := by
  unfold writePrices
  dsimp only
  rw [List.length_map]

/-! ### Taking charge lines (R113, R134) -/

/-- The state once FOLIO_DRAINED is raised on both ports (R113). -/
def drainTold (s : State) : State := raise .front .folioDrained (raise .charge .folioDrained s)

theorem raise_raise (p : Port) (c : Cause) (s : State) : raise p c (raise p c s) = raise p c s := by
  cases number : c.number p with
  | none =>
    unfold raise
    rw [number]
    cases p <;> rfl
  | some k =>
    rw [raise_numbered number, raise_numbered number]
    unfold State.modAttn
    cases p <;> simp [PerPort.mod]

theorem drainTold_drainTold (s : State) : drainTold (drainTold s) = drainTold s := by
  have apart : raise .charge .folioDrained (raise .front .folioDrained (raise .charge .folioDrained s)) =
      raise .front .folioDrained (raise .charge .folioDrained (raise .charge .folioDrained s)) := rfl
  unfold drainTold
  rw [apart, raise_raise, raise_raise]

/-- Telling a drain depends on the attention registers alone. -/
theorem attn_drainTold {s t : State} (attn : t.attn = s.attn) : (drainTold t).attn = (drainTold s).attn := by
  unfold drainTold raise State.modAttn
  dsimp only
  rw [attn]

/-- The lines of a folio among some. -/
def linesOf (f : FolioIx) (ls : List ChargeLine) : Nat := ls.countP fun x => decide (x.folio = f)

/-- A folio drains as some lines are taken. -/
def State.drains (s : State) (ls : List ChargeLine) (f : FolioIx) : Prop :=
  0 < linesOf f ls ∧ (s.folio f).state = .closing ∧ (s.folio f).pendingLines ≤ linesOf f ls ∧ (s.folio f).rooms = [] ∧
    ∀ x ∈ s.charge.sessions, x.folio ≠ some f

theorem lineTaken_begun (s : State) (c : ChargeLine) (p : Port) (k : Command) :
    lineTaken (s.begun p k) c = (lineTaken s c).begun p k :=
  settleFolio_begun c.folio (s.modFolio c.folio fun x => { x with pendingLines := x.pendingLines - 1 }) p k

/-- The state once a line is taken (R134): a CLOSING folio with nothing left drains. -/
theorem lineTaken_eq (s : State) (c : ChargeLine) : lineTaken s c =
    if (s.folio c.folio).state = .closing ∧ (s.folio c.folio).rooms = [] ∧ (s.folio c.folio).pendingLines - 1 = 0 ∧
        (∀ x ∈ s.charge.sessions, x.folio ≠ some c.folio) then
      drainTold (s.modFolio c.folio fun x => { x with
        state := .free, allowance := 0, spent := 0, pendingLines := x.pendingLines - 1 })
    else s.modFolio c.folio fun x => { x with pendingLines := x.pendingLines - 1 } := by
  unfold lineTaken
  rw [settleFolio_eq, folio_modFolio_same, modFolio_modFolio]
  rfl

theorem linesOf_cons (f : FolioIx) (c : ChargeLine) (ls : List ChargeLine) :
    linesOf f (c :: ls) = linesOf f ls + if c.folio = f then 1 else 0 := by
  unfold linesOf
  rw [List.countP_cons]
  simp only [decide_eq_true_eq]

/-- A line's folio drains as it is taken. -/
def State.settles (s : State) (c : ChargeLine) : Prop :=
  (s.folio c.folio).state = .closing ∧ (s.folio c.folio).rooms = [] ∧ (s.folio c.folio).pendingLines - 1 = 0 ∧
    ∀ x ∈ s.charge.sessions, x.folio ≠ some c.folio

section
variable {s : State} {c : ChargeLine}

theorem lineTaken_settles (h : s.settles c) : lineTaken s c = drainTold (s.modFolio c.folio fun x => { x with
    state := .free, allowance := 0, spent := 0, pendingLines := x.pendingLines - 1 }) :=
  (lineTaken_eq s c).trans (if_pos h)

theorem lineTaken_stands (h : ¬ s.settles c) :
    lineTaken s c = s.modFolio c.folio fun x => { x with pendingLines := x.pendingLines - 1 } :=
  (lineTaken_eq s c).trans (if_neg h)

theorem charge_lineTaken (s : State) (c : ChargeLine) :
    (lineTaken s c).charge = { s.charge with folios := (lineTaken s c).charge.folios } := by
  by_cases h : s.settles c
  · rw [lineTaken_settles h]
    rfl
  · rw [lineTaken_stands h]
    rfl

theorem lineTaken_touches (s : State) (c : ChargeLine) :
    lineTaken s c = { s with charge := (lineTaken s c).charge, attn := (lineTaken s c).attn } := by
  by_cases h : s.settles c
  · rw [lineTaken_settles h]
    rfl
  · rw [lineTaken_stands h]
    rfl

theorem folio_lineTaken_ne {f : FolioIx} (ne : f ≠ c.folio) : (lineTaken s c).folio f = s.folio f := by
  by_cases h : s.settles c
  · rw [lineTaken_settles h]
    exact folio_modFolio_ne s _ ne.symm
  · rw [lineTaken_stands h]
    exact folio_modFolio_ne s _ ne.symm

theorem folio_lineTaken_settles (h : s.settles c) : (lineTaken s c).folio c.folio =
    { state := .free, rooms := [], allowance := 0, spent := 0, pendingLines := 0 } := by
  rw [lineTaken_settles h]
  obtain ⟨-, rooms, pending, -⟩ := h
  refine (folio_modFolio_same s c.folio _).trans ?_
  rw [rooms, pending]

theorem folio_lineTaken_stands (h : ¬ s.settles c) :
    (lineTaken s c).folio c.folio = { s.folio c.folio with pendingLines := (s.folio c.folio).pendingLines - 1 } := by
  rw [lineTaken_stands h]
  exact folio_modFolio_same s c.folio _

theorem attn_lineTaken_settles (h : s.settles c) : (lineTaken s c).attn = (drainTold s).attn := by
  rw [lineTaken_settles h]
  rfl

theorem attn_lineTaken_stands (h : ¬ s.settles c) : (lineTaken s c).attn = s.attn := by
  rw [lineTaken_stands h]
  rfl

variable (ls : List ChargeLine)

theorem linesOf_cons_ne {f : FolioIx} (ne : f ≠ c.folio) : linesOf f (c :: ls) = linesOf f ls := by
  rw [linesOf_cons, if_neg ne.symm, Nat.add_zero]

theorem linesOf_cons_same : linesOf c.folio (c :: ls) = linesOf c.folio ls + 1 := by
  rw [linesOf_cons, if_pos rfl]

theorem drains_lineTaken_ne {f : FolioIx} (ne : f ≠ c.folio) : (lineTaken s c).drains ls f ↔ s.drains (c :: ls) f := by
  unfold State.drains
  rw [folio_lineTaken_ne ne, charge_lineTaken, linesOf_cons_ne ls ne]

theorem drains_cons_of_settles (h : s.settles c) : s.drains (c :: ls) c.folio := by
  obtain ⟨closing, rooms, pending, sessions⟩ := h
  refine ⟨?_, closing, ?_, rooms, sessions⟩
  · rw [linesOf_cons_same]
    exact Nat.succ_pos _
  · rw [linesOf_cons_same]
    omega

theorem not_drains_lineTaken (h : s.settles c) : ¬ (lineTaken s c).drains ls c.folio := by
  rintro ⟨-, closing, -⟩
  rw [folio_lineTaken_settles h] at closing
  cases closing

theorem drains_lineTaken_stands (h : ¬ s.settles c) : (lineTaken s c).drains ls c.folio ↔ s.drains (c :: ls) c.folio := by
  unfold State.drains
  rw [folio_lineTaken_stands h, charge_lineTaken, linesOf_cons_same]
  constructor
  · rintro ⟨some_, closing, pending, rooms, sessions⟩
    exact ⟨Nat.succ_pos _, closing, Nat.le_add_of_sub_le pending, rooms, sessions⟩
  · rintro ⟨-, closing, pending, rooms, sessions⟩
    have left : (s.folio c.folio).pendingLines - 1 ≠ 0 := fun zero => h ⟨closing, rooms, zero, sessions⟩
    exact ⟨by omega, closing, Nat.sub_le_of_le_add pending, rooms, sessions⟩

end

/-- What taking some lines in turn does to the folios and the attention registers. -/
theorem foldl_lineTaken (ls : List ChargeLine) (s : State) :
    let t := ls.foldl lineTaken s
    t = { s with charge := t.charge, attn := t.attn } ∧ t.charge = { s.charge with folios := t.charge.folios } ∧
    (∀ f, s.drains ls f → t.folio f = { state := .free, rooms := [], allowance := 0, spent := 0, pendingLines := 0 }) ∧
    (∀ f, ¬ s.drains ls f → t.folio f = { s.folio f with pendingLines := (s.folio f).pendingLines - linesOf f ls }) ∧
    ((∃ f, s.drains ls f) → t.attn = (drainTold s).attn) ∧ ((∀ f, ¬ s.drains ls f) → t.attn = s.attn) := by
  induction ls generalizing s with
  | nil =>
    have none_ (f : FolioIx) : ¬ s.drains [] f := fun h => absurd h.1 (Nat.lt_irrefl 0)
    exact ⟨rfl, rfl, fun f h => absurd h (none_ f), fun f _ => rfl, fun ⟨f, h⟩ => absurd h (none_ f), fun _ => rfl⟩
  | cons c ls ih =>
    obtain ⟨rest, charge, drained, kept, told, quiet⟩ := ih (lineTaken s c)
    intro t
    change t = _ at rest
    refine ⟨?_, ?_, fun f drains => ?_, fun f stays => ?_, fun ⟨f, drains⟩ => ?_, fun none_ => ?_⟩
    · rw [rest, lineTaken_touches]
    · refine charge.trans ?_
      rw [charge_lineTaken]
      rfl
    · by_cases ne : f = c.folio
      · subst ne
        by_cases h : s.settles c
        · refine (kept _ (not_drains_lineTaken ls h)).trans ?_
          rw [folio_lineTaken_settles h, Nat.zero_sub]
        · exact drained _ ((drains_lineTaken_stands ls h).mpr drains)
      · exact drained _ ((drains_lineTaken_ne ls ne).mpr drains)
    · by_cases ne : f = c.folio
      · subst ne
        by_cases h : s.settles c
        · exact absurd (drains_cons_of_settles ls h) stays
        · refine (kept _ (mt (drains_lineTaken_stands ls h).mp stays)).trans ?_
          rw [folio_lineTaken_stands h, linesOf_cons_same, Nat.sub_sub, Nat.add_comm 1]
      · refine (kept _ (mt (drains_lineTaken_ne ls ne).mp stays)).trans ?_
        rw [folio_lineTaken_ne ne, linesOf_cons_ne ls ne]
    · by_cases h : s.settles c
      · have first := attn_lineTaken_settles h
        by_cases more : ∃ g, (lineTaken s c).drains ls g
        · exact (told more).trans ((attn_drainTold first).trans (congrArg State.attn (drainTold_drainTold s)))
        · exact (quiet (not_exists.mp more)).trans first
      · refine (told ⟨f, ?_⟩).trans (attn_drainTold (attn_lineTaken_stands h))
        by_cases ne : f = c.folio
        · subst ne
          exact (drains_lineTaken_stands ls h).mpr drains
        · exact (drains_lineTaken_ne ls ne).mpr drains
    · have h : ¬ s.settles c := fun h => none_ _ (drains_cons_of_settles ls h)
      refine (quiet fun f drains => none_ f ?_).trans (attn_lineTaken_stands h)
      by_cases ne : f = c.folio
      · subst ne
        exact (drains_lineTaken_stands ls h).mp drains
      · exact (drains_lineTaken_ne ls ne).mp drains

/-- The state once the lines at the head of the queue are taken, before CHARGE_WAITING is withdrawn (R134). -/
def chargesTaken (n : Nat) (s : State) : State :=
  (s.charge.queue.take n).foldl lineTaken { s with charge := { s.charge with queue := s.charge.queue.drop n } }

theorem chargesTaken_begun (n : Nat) (s : State) (p : Port) (c : Command) :
    chargesTaken n (s.begun p c) = (chargesTaken n s).begun p c :=
  foldl_begun (fun t x => lineTaken_begun t x p c) (s.charge.queue.take n)
    { s with charge := { s.charge with queue := s.charge.queue.drop n } }

theorem takeCharges_empty {s : State} (empty : s.charge.queue = []) (n : Nat) : takeCharges n s = accept [0, 0] s := by
  have same : ({ s.charge with queue := [] } : ChargeUnit) = s.charge := by rw [← empty]
  unfold takeCharges
  dsimp only
  rw [empty, List.take_nil, List.drop_nil, if_neg (fun h => h.2 rfl), same]
  rfl

theorem takeCharges_some {s : State} {n : Nat} {a z : ChargeLine} (first : (s.charge.queue.take n).head? = some a)
    (last : (s.charge.queue.take n).getLast? = some z) : takeCharges n s =
      accept (u16 (s.charge.queue.take n).length ++ u16 a.number.toNat ++ u16 z.number.toNat)
        (if s.charge.queue.length ≤ n then withdraw .charge .chargeWaiting (chargesTaken n s) else chargesTaken n s) := by
  have some_ : s.charge.queue.take n ≠ [] := fun e => by rw [e] at first; cases first
  have rest : s.charge.queue.drop n = [] ∧ s.charge.queue.take n ≠ [] ↔ s.charge.queue.length ≤ n := by
    rw [List.drop_eq_nil_iff, and_iff_left some_]
  have numbers : takenNumbers (s.charge.queue.take n) = u16 a.number.toNat ++ u16 z.number.toNat := by
    unfold takenNumbers
    rw [first, last]
  unfold takeCharges
  dsimp only
  rw [numbers, ← List.append_assoc]
  exact congrArg (accept _) (if_congr rest rfl rfl)

end Sys2Proof.Machine

namespace Sys2Proof.Settled

open Sys2Proof.Machine

/-- Settles O43. -/
theorem openAndHoldFolio : Obligations.OpenAndHoldFolio := by
  intro f more s
  have folio := parseFolio_u8 more f
  refine ⟨fun h => ?_, fun h => ⟨?_, ?_⟩⟩
  · have taken := openFolio_eq f (s.begun .front .openFolio)
    split
    · next free => exact congrArg Host.Outcome.next (takeCommand_accepted h (not_truncated (by rfl)) rfl folio
        (taken.trans (if_pos free)))
    · next used => exact congrArg Host.Outcome.next (takeCommand_refused h (not_truncated (by rfl)) rfl folio
        (taken.trans (if_neg used)))
  · have taken (inUse : (s.folio f).state.inUse = true) : exec (.holdFolio .charge (u8 f.val ++ more)) s = .next
        ((s.modFolio f fun x => { x with state := .held .manual }).done .charge .holdFolio []) :=
      congrArg Host.Outcome.next (takeCommand_accepted h (not_truncated (by rfl)) rfl folio
        (holdFolio_taken (s := s.begun .charge .holdFolio) inUse))
    have refused (unused : (s.folio f).state.inUse = false) : exec (.holdFolio .charge (u8 f.val ++ more)) s = .next
        (s.refused .charge .holdFolio .state) :=
      congrArg Host.Outcome.next (takeCommand_refused h (not_truncated (by rfl)) rfl folio
        (holdFolio_refused (s := s.begun .charge .holdFolio) unused))
    cases state : (s.folio f).state with
    | opened => exact taken (by rw [state]; rfl)
    | held c => exact taken (by rw [state]; rfl)
    | free => exact refused (by rw [state]; rfl)
    | closing => exact refused (by rw [state]; rfl)
  · have refused (none : (s.folio f).state.cause = none) : exec (.releaseFolio .charge (u8 f.val ++ more)) s = .next
        (s.refused .charge .releaseFolio .state) :=
      congrArg Host.Outcome.next (takeCommand_refused h (not_truncated (by rfl)) rfl folio
        (releaseFolio_refused (s := s.begun .charge .releaseFolio) none))
    cases state : (s.folio f).state with
    | held c => exact congrArg Host.Outcome.next (takeCommand_accepted h (not_truncated (by rfl)) rfl folio
        (releaseFolio_taken (s := s.begun .charge .releaseFolio) state))
    | opened => exact refused (by rw [state]; rfl)
    | free => exact refused (by rw [state]; rfl)
    | closing => exact refused (by rw [state]; rfl)

/-- Settles O44. -/
theorem closeAndAllowance : Obligations.CloseAndAllowance := by
  intro f amount more s
  have folio := parseFolio_u8 more f
  refine ⟨fun h inUse => ⟨fun empty => ?_, fun stays => ?_⟩, fun h unused => ?_, fun h => ?_⟩
  · have taken := closeFolio_taken (s := s.begun .front .closeFolio) ((inUse_iff _).mpr inUse) empty
    have settled := (settleFolio_begun f (s.modFolio f fun x => { x with state := .closing }) .front .closeFolio).trans
      (congrArg (State.begun · .front .closeFolio) (settleFolio_closing f s))
    exact congrArg Host.Outcome.next (takeCommand_accepted h (not_truncated (by rfl)) rfl folio
      (taken.trans (congrArg (accept []) settled)))
  · exact congrArg Host.Outcome.next (takeCommand_refused h (not_truncated (by rfl)) rfl folio
      (closeFolio_stays (s := s.begun .front .closeFolio) stays))
  · have notInUse : (s.folio f).state.inUse = false := by
      rcases unused with free | closing
      · rw [free]; rfl
      · rw [closing]; rfl
    exact congrArg Host.Outcome.next (takeCommand_refused h (not_truncated (by rfl)) rfl folio
      (closeFolio_unused (s := s.begun .front .closeFolio) notInUse))
  · have parse := parseSetAllowance_fields f amount more
    have long := not_truncated (more := more) (head := u8 f.val ++ u16 amount.toNat) (n := 3) (by rfl)
    have refused (unused : (s.folio f).state.inUse = false) :
        exec (.setAllowance .charge (u8 f.val ++ u16 amount.toNat ++ more)) s = .next (s.refused .charge .setAllowance .state) :=
      congrArg Host.Outcome.next (takeCommand_refused h long rfl parse
        (setAllowance_refused (s := s.begun .charge .setAllowance) unused amount.toNat))
    have accepted {t : State} (inUse : (s.folio f).state.inUse = true) (set : allowanceSet f amount.toNat s = t) :
        exec (.setAllowance .charge (u8 f.val ++ u16 amount.toNat ++ more)) s = .next (t.done .charge .setAllowance []) := by
      have taken := setAllowance_taken (s := s.begun .charge .setAllowance) inUse amount.toNat
      rw [allowanceSet_begun, set] at taken
      exact congrArg Host.Outcome.next (takeCommand_accepted h long rfl parse taken)
    cases state : (s.folio f).state with
    | opened =>
      have inUse : (s.folio f).state.inUse = true := by rw [state]; rfl
      dsimp only
      split
      · next spent => exact accepted inUse (allowanceSet_held state spent)
      · next under =>
        have stands : (s.folio f).withAllowance amount.toNat = (s.folio f).state := by
          rw [Folio.withAllowance, state]
          exact if_neg under
        refine accepted inUse ((allowanceSet_stands (fun both => under both.2) stands).trans (modFolio_congr rfl))
    | held c =>
      have inUse : (s.folio f).state.inUse = true := by rw [state]; rfl
      have quiet : ¬ ((s.folio f).state = .opened ∧ amount.toNat ≤ (s.folio f).spent) := by
        rw [state]
        exact fun both => nomatch both.1
      cases cause : c with
      | allowance =>
        have set : (s.folio f).withAllowance amount.toNat =
            if (s.folio f).spent < amount.toNat then .opened else .held .allowance := by
          rw [Folio.withAllowance, state, cause]
        exact accepted inUse ((allowanceSet_stands quiet set).trans (modFolio_congr rfl))
      | manual | unbilled =>
        have set : (s.folio f).withAllowance amount.toNat = (s.folio f).state := by
          rw [Folio.withAllowance, state, cause]
        exact accepted inUse ((allowanceSet_stands quiet set).trans (modFolio_congr rfl))
    | free => exact refused (by rw [state]; rfl)
    | closing => exact refused (by rw [state]; rfl)

/-- Settles O45. -/
theorem charges : Obligations.Charges := by
  intro more s h
  refine ⟨fun k first prices one most => ⟨fun fits => ?_, fun past => ?_⟩, fun n low high => ⟨fun empty => ?_, fun a z first last => ?_⟩⟩
  · have parse := parseWritePrices_fields k first one most more
    have taken := (writePrices_eq k first prices (s.begun .charge .writePrices)).trans (if_neg (Nat.not_lt.mpr fits))
    refine ⟨{ s with charge := { s.charge with
        prices := tmod s.charge.prices k fun row => writeRow row first.val (prices.map BitVec.toNat) } }, ?_, rfl,
      fun c i => tget_writePrices s.charge.prices k c first.val prices i⟩
    exact congrArg Host.Outcome.next (takeCommand_accepted h (writePrices_long k first most more) rfl parse taken)
  · have parse := parseWritePrices_fields k first one most more
    have taken := (writePrices_eq k first prices (s.begun .charge .writePrices)).trans (if_pos past)
    exact congrArg Host.Outcome.next (takeCommand_refused h (writePrices_long k first most more) rfl parse taken)
  · have count := countAt_u8 more low high (by decide)
    have taken := takeCharges_empty (s := s.begun .charge .takeCharges) empty n
    exact congrArg Host.Outcome.next (takeCommand_accepted h (not_truncated (by rfl)) rfl count taken)
  · have count := countAt_u8 more low high (by decide)
    have taken := takeCharges_some (s := s.begun .charge .takeCharges) first last
    have told : (if s.charge.queue.length ≤ n then withdraw .charge .chargeWaiting (chargesTaken n (s.begun .charge .takeCharges))
        else chargesTaken n (s.begun .charge .takeCharges)) =
        (if s.charge.queue.length ≤ n then withdraw .charge .chargeWaiting (chargesTaken n s) else chargesTaken n s).begun
          .charge .takeCharges := by
      rw [chargesTaken_begun]
      split <;> rfl
    obtain ⟨rest, charge, drained, kept, attn, quiet⟩ := foldl_lineTaken (s.charge.queue.take n)
      { s with charge := { s.charge with queue := s.charge.queue.drop n } }
    exact ⟨chargesTaken n s, congrArg Host.Outcome.next (takeCommand_accepted h (not_truncated (by rfl)) rfl count
      (taken.trans (congrArg (accept _) told))), rest, charge, drained, kept, attn, quiet⟩

end Sys2Proof.Settled
end

section
/-! The statement of tray events (6.4), and what an offered record leaves unchanged. -/

/- The joined text is checked with bounded memory: proofs are elaborated one after another, not each in a thread of its own. -/
set_option Elab.async false

namespace Sys2Proof.Machine

/-! ### What an offer reads (R136, R152) -/

/-- A state with the parts that an offer reads and changes taken from another: the ports, the attention registers and the journal,
by the supply. -/
def State.graft (t s : State) : State := { t with ports := s.ports, attn := s.attn, journal := s.journal, supply := s.supply }

theorem answerLong_graft (c : Command) (r : Reply) (t s : State) :
    answerLong c r (t.graft s) = t.graft (answerLong c r s) := by
  unfold answerLong
  rw [show (t.graft s).inRun = s.inRun from rfl, show (t.graft s).port .service = s.port .service from rfl]
  split <;> rfl

theorem settleFlush_graft (t s : State) : settleFlush (t.graft s) = t.graft (settleFlush s) := by
  unfold settleFlush
  rw [show (t.graft s).journal = s.journal from rfl]
  split
  · split
    · rfl
    · exact answerLong_graft .flushJournal ⟨.ok, []⟩ t { s with journal := { s.journal with flush := none } }
  · rfl

/-- An offer made in the grafted state is the offer made in the other. -/
theorem offer_graft (o : Offer) (t s : State) : offer o (t.graft s) = t.graft (offer o s) := by
  unfold offer
  dsimp only
  rw [show (t.graft s).journal = s.journal from rfl, show (t.graft s).inRun = s.inRun from rfl,
    show (t.graft s).supply = s.supply from rfl]
  split
  · rfl
  · split
    · exact settleFlush_graft t (raise .service .stagingDrop { s with journal := s.journal.taken o s.inRun s.supply.elapsed })
    · exact settleFlush_graft t { s with journal := s.journal.taken o s.inRun s.supply.elapsed }

theorem offer_eq_graft (o : Offer) (s : State) : offer o s = s.graft (offer o s) := by
  have supply := offer_supply o s
  conv_lhs => rw [offer_touches]
  unfold State.graft
  rw [supply]

/-- A change of other parts of the state and an offer may be made in either order. -/
theorem offer_comm {f : State → State} (o : Offer) (s : State) (keeps : f s = (f s).graft s)
    (apart : f (s.graft (offer o s)) = (f s).graft (offer o s)) : f (offer o s) = offer o (f s) := by
  rw [keeps, offer_graft, ← apart, ← offer_eq_graft]

theorem offer_heardFrom (o : Offer) (s : State) (n : NodeAddr) : (offer o s).heardFrom n = offer o (s.heardFrom n) :=
  offer_comm (f := fun t => t.heardFrom n) o s rfl rfl

/-! ### Sessions (R122, R124) -/

theorem node_of_sessionAt {c : ChargeUnit} {n : NodeAddr} {x : Session} (h : c.sessionAt n = some x) : x.node = n := by
  simpa only [decide_eq_true_eq] using List.find?_some h

/-- A search of a list in which the entry found, and others like it, are put in another form that meets the test. -/
theorem find?_map_put {xs : List Session} {n : NodeAddr} {x y : Session} (h : xs.find? (fun z => decide (z.node = n)) = some x)
    (room : y.room = x.room) (node : y.node = n) :
    (xs.map fun z => if z.room = y.room then y else z).find? (fun z => decide (z.node = n)) = some y := by
  induction xs with
  | nil => cases h
  | cons z zs ih =>
    rw [List.map_cons]
    by_cases same : z.room = y.room
    · rw [if_pos same]
      exact List.find?_cons_of_pos (decide_eq_true node)
    · rw [if_neg same]
      by_cases here : z.node = n
      · have found := (List.find?_cons_of_pos (l := zs) (p := fun z : Session => decide (z.node = n)) (decide_eq_true here)).symm.trans h
        exact absurd (by rw [Option.some.inj found, room]) same
      · have past : ¬ decide (z.node = n) = true := by rwa [decide_eq_true_iff]
        have rest := (List.find?_cons_of_neg (l := zs) (p := fun z : Session => decide (z.node = n)) past).symm.trans h
        exact (List.find?_cons_of_neg (p := fun z : Session => decide (z.node = n)) past).trans (ih rest)

/-- A session put in another form at its node is found there. -/
theorem sessionAt_putSession {n : NodeAddr} {x y : Session} {s : State} (h : s.charge.sessionAt n = some x)
    (room : y.room = x.room) (node : y.node = n) : (putSession y s).charge.sessionAt n = some y :=
  find?_map_put h room node

theorem node_heardFrom_same (s : State) (n : NodeAddr) : (s.heardFrom n).node n = { s.node n with missed := 0 } := by
  unfold State.heardFrom
  rw [node_modNode_same]
  rfl

theorem polls_offer {o : Offer} {s : State} {n : NodeAddr} : (offer o s).polls n ↔ s.polls n := by
  unfold State.polls State.inRun State.line State.node
  rw [offer_supply, offer_lines, offer_nodes]

/-! ### Tray events (R128 to R130) -/

theorem trayDetail_eq (slot : TraySlot) (kind : TrayKind) :
    trayDetail slot kind = BitVec.ofNat 16 (slot.val + if kind = .returned then 256 else 0) := by
  cases kind <;> rfl

theorem exchangeAnswered_tray {n : NodeAddr} {s : State} (polled : s.polls n) (bar : (s.node n).config.isMinibar = true)
    (slot : TraySlot) (kind : TrayKind) :
    exchangeAnswered n.line (.tray slot kind) s = minibarTray n slot kind s.now (s.heardFrom n) := by
  refine (exchangeAnswered_polled polled _).trans (if_pos ?_)
  rw [node_heardFrom_same]
  exact bar

theorem minibarTray_none {n : NodeAddr} {s : State} (none_ : s.charge.sessionAt n = none) (slot : TraySlot) (kind : TrayKind)
    (arrival : Stamp) : minibarTray n slot kind arrival s = offer
      { kind := .trayUnexpected, cls := .alarm, time := arrival, node := some n, room := (s.node n).config.room,
        detail := trayDetail slot kind } s := by
  unfold minibarTray
  rw [none_]

theorem minibarTray_opened {n : NodeAddr} {s : State} {x : Session} (there : s.charge.sessionAt n = some x)
    (opened : x.state = .opened) (slot : TraySlot) (kind : TrayKind) (arrival : Stamp) :
    minibarTray n slot kind arrival s = sessionTray x slot kind arrival s := by
  unfold minibarTray openSession
  rw [there]
  dsimp only
  rw [if_pos opened, if_pos opened]

theorem minibarTray_opening {n : NodeAddr} {s : State} {x : Session} (there : s.charge.sessionAt n = some x)
    (opening : x.state = .opening) (slot : TraySlot) (kind : TrayKind) (arrival : Stamp) :
    minibarTray n slot kind arrival s =
      sessionTray (x.openedAt arrival s.supply.elapsed) slot kind arrival (openSession x arrival s) := by
  unfold minibarTray
  rw [there]
  dsimp only
  rw [if_neg (by rw [opening]; decide)]

theorem openSession_opening {x : Session} (opening : x.state = .opening) (arrival : Stamp) (s : State) :
    openSession x arrival s = offer
      { kind := .minibarOpen, cls := .routine, time := arrival, node := some x.node, room := some x.room, key := some x.key,
        detail := folioDetail x.folio } (putSession (x.openedAt arrival s.supply.elapsed) s) := by
  unfold openSession
  rw [if_neg (by rw [opening]; decide)]

theorem sessionTray_restock {x : Session} (free : x.folio = none) (slot : TraySlot) (kind : TrayKind) (arrival : Stamp)
    (s : State) : sessionTray x slot kind arrival s = offer
      { kind := .restock, cls := .routine, time := arrival, node := some x.node, room := some x.room, key := some x.key,
        detail := trayDetail slot kind } (putSession x.counted s) := by
  unfold sessionTray
  rw [free]

theorem sessionTray_line {x : Session} {f : FolioIx} {s : State} (charged : x.folio = some f)
    (space : 0 < x.reserved ∨ 0 < s.charge.freeSpace) (slot : TraySlot) (kind : TrayKind) (arrival : Stamp) :
    sessionTray x slot kind arrival s = makeLine f x slot kind arrival s := by
  unfold sessionTray
  rw [charged]
  exact if_pos space

theorem sessionTray_unbilled {x : Session} {f : FolioIx} {s : State} (charged : x.folio = some f)
    (full : ¬ (0 < x.reserved ∨ 0 < s.charge.freeSpace)) (slot : TraySlot) (kind : TrayKind) (arrival : Stamp) :
    sessionTray x slot kind arrival s = unbilled f x slot kind arrival s := by
  unfold sessionTray
  rw [charged]
  exact if_neg full

theorem freeSpace_pos_iff (c : ChargeUnit) : 0 < c.freeSpace ↔ c.queue.length + c.reservedTotal < 128 := by
  unfold ChargeUnit.freeSpace
  rw [show Config.chargeMax = 128 from rfl]
  omega

theorem held_unbilled (k : FolioState) : (if k.inUse then FolioState.held .unbilled else k) =
    match k with | .opened => .held .unbilled | .held _ => .held .unbilled | k => k := by
  cases k <;> rfl

/-- The state once a charge line is made, before its causes are raised. -/
def lineMade (f : FolioIx) (x : Session) (slot : TraySlot) (kind : TrayKind) (arrival : Stamp) (s : State) : State :=
  (putSession x.counted (appendLine f x slot kind (s.priceAt x.node slot) arrival s)).modFolio f
    fun y => y.charged (s.priceAt x.node slot) kind

/-- The state once a charge line is made and CHARGE_WAITING raised. -/
def lineWaits (f : FolioIx) (x : Session) (slot : TraySlot) (kind : TrayKind) (arrival : Stamp) (s : State) : State :=
  if s.charge.queue = [] then raise .charge .chargeWaiting (lineMade f x slot kind arrival s)
  else lineMade f x slot kind arrival s

section
variable (f : FolioIx) (x : Session) (slot : TraySlot) (kind : TrayKind) (arrival : Stamp) (s : State)

theorem folio_lineMade_same : (lineMade f x slot kind arrival s).folio f = (s.folio f).charged (s.priceAt x.node slot) kind :=
  folio_modFolio_same (putSession x.counted (appendLine f x slot kind (s.priceAt x.node slot) arrival s)) f _

theorem folio_lineMade_ne {f g : FolioIx} (ne : g ≠ f) : (lineMade f x slot kind arrival s).folio g = s.folio g :=
  folio_modFolio_ne (putSession x.counted (appendLine f x slot kind (s.priceAt x.node slot) arrival s)) _ ne.symm

theorem makeLine_eq : makeLine f x slot kind arrival s =
    if ((lineMade f x slot kind arrival s).folio f).state = (s.folio f).state then lineWaits f x slot kind arrival s
    else raise .charge .folioHeld (lineWaits f x slot kind arrival s) := rfl

theorem lineWaits_touches : lineWaits f x slot kind arrival s =
    { lineMade f x slot kind arrival s with attn := (lineWaits f x slot kind arrival s).attn } := by
  unfold lineWaits
  split <;> rfl

theorem makeLine_touches : makeLine f x slot kind arrival s =
    { lineMade f x slot kind arrival s with attn := (makeLine f x slot kind arrival s).attn } := by
  rw [makeLine_eq]
  split
  · exact lineWaits_touches ..
  · rw [lineWaits_touches]
    rfl

end

/-- A cause raised leaves every pending cause pending. -/
theorem isPending_raise_of {p q : Port} {c d : Cause} {s : State} (h : s.isPending p c = true) :
    (raise q d s).isPending p c = true := by
  unfold State.isPending at h ⊢
  cases number : c.number p with
  | none =>
    rw [number] at h
    cases h
  | some k =>
    rw [number] at h
    dsimp only at h ⊢
    by_cases same : q = p
    · subst same
      cases raised : d.number q with
      | none =>
        unfold raise
        rw [raised, att_modAttn_same]
        exact h
      | some j =>
        rw [raise_numbered raised, att_modAttn_same, Vector.getElem_set, h, ite_self]
    · unfold raise
      rw [att_modAttn_ne _ _ same]
      exact h

end Sys2Proof.Machine

namespace Sys2Proof.Settled

open Sys2Proof.Machine

/-- Settles O46. -/
theorem trayAnswers : Obligations.TrayAnswers := by
  intro n room cls slot kind s polled config
  have answered := exchangeAnswered_tray polled (by rw [config]; rfl) slot kind
  have config' : ((s.heardFrom n).node n).config = .minibar room cls := by
    rw [node_heardFrom_same]
    exact config
  refine ⟨fun none => ?_, fun x there opening => ?_, fun x there opened => ?_⟩
  · refine congrArg Host.Outcome.next (answered.trans ((minibarTray_none (s := s.heardFrom n) none slot kind s.now).trans ?_))
    rw [config', trayDetail_eq]
    rfl
  · let opened : Session := x.openedAt s.now s.supply.elapsed
    let told : State := offer
      { kind := .minibarOpen, cls := .routine, time := s.now, node := some x.node, room := some x.room, key := some x.key,
        detail := folioDetail x.folio } (putSession opened s)
    have node := node_of_sessionAt there
    have polled' : told.polls n := polls_offer.mpr polled
    have now' : told.now = s.now := now_congr (offer_supply ..)
    have heard' : told.heardFrom n = openSession x s.now (s.heardFrom n) :=
      (offer_heardFrom _ (putSession opened s) n).trans (openSession_opening opening s.now (s.heardFrom n)).symm
    have there' : (told.heardFrom n).charge.sessionAt n = some opened := by
      change told.charge.sessionAt n = _
      rw [offer_charge]
      exact sessionAt_putSession there rfl node
    have bar' : (told.node n).config.isMinibar = true := by
      unfold State.node
      rw [offer_nodes]
      exact (congrArg NodeConfig.isMinibar config).trans rfl
    have again := (exchangeAnswered_tray polled' bar' slot kind).trans
      (minibarTray_opened there' rfl slot kind told.now)
    refine congrArg Host.Outcome.next ((answered.trans (minibarTray_opening (s := s.heardFrom n) there opening slot kind s.now)).trans ?_)
    rw [now', heard'] at again
    exact again.symm
  · intro counted
    have node := node_of_sessionAt there
    have taken := answered.trans (minibarTray_opened (s := s.heardFrom n) there opened slot kind s.now)
    refine ⟨fun free => ?_, fun f charged unreserved full => ?_, fun f charged space => ?_⟩
    · refine congrArg Host.Outcome.next (taken.trans ((sessionTray_restock free slot kind s.now _).trans ?_))
      rw [node, trayDetail_eq]
      rfl
    · have none : ¬ (0 < x.reserved ∨ 0 < s.charge.freeSpace) := by
        rw [freeSpace_pos_iff, unreserved]
        omega
      refine congrArg Host.Outcome.next (taken.trans ((sessionTray_unbilled (s := s.heardFrom n) charged none slot kind s.now).trans ?_))
      unfold unbilled
      rw [node, trayDetail_eq]
      exact congrArg (fun g => raise .charge .unbilled (State.modFolio _ f g))
        (funext fun y => congrArg (fun k => { y with state := k }) (held_unbilled y.state))
    · intro price spent
      have line := taken.trans (sessionTray_line (s := s.heardFrom n) charged
        (space.imp_right (freeSpace_pos_iff s.charge).mpr) slot kind s.now)
      have priced : (s.heardFrom n).priceAt x.node slot = price := by
        unfold State.priceAt
        rw [node, config']
        rfl
      have touches := makeLine_touches f x slot kind s.now (s.heardFrom n)
      have made : (lineMade f x slot kind s.now (s.heardFrom n)).folio f = (s.folio f).charged price kind := by
        rw [folio_lineMade_same, priced]
        rfl
      refine ⟨makeLine f x slot kind s.now (s.heardFrom n), congrArg Host.Outcome.next line, ?_, ?_, ?_, ?_, ?_, ?_,
        fun g ne => ?_, fun empty => ?_, fun isTaken opened' reached => ?_⟩
      · rw [touches]
        rfl
      · rw [touches]
        exact congrArg (fun p => s.charge.queue ++ [(⟨s.charge.nextLine, f, x.room, slot, kind, p, s.now⟩ : ChargeLine)]) priced
      · rw [touches]
        rfl
      · rw [touches]
        rfl
      · rw [touches]
        rfl
      · unfold State.folio
        rw [touches]
        refine made.trans ?_
        cases kind <;> rfl
      · unfold State.folio
        rw [touches]
        exact folio_lineMade_ne x slot kind s.now (s.heardFrom n) ne
      · have waits : (lineWaits f x slot kind s.now (s.heardFrom n)).isPending .charge .chargeWaiting = true := by
          unfold lineWaits
          rw [if_pos (show (s.heardFrom n).charge.queue = [] from empty)]
          exact isPending_raise rfl _
        rw [makeLine_eq]
        split
        · exact waits
        · exact isPending_raise_of waits
      · have held : ¬ ((lineMade f x slot kind s.now (s.heardFrom n)).folio f).state = ((s.heardFrom n).folio f).state := by
          have atTop : (s.folio f).allowance ≤ spentAfter (s.folio f).spent price kind := by
            have top : spent = spentAfter (s.folio f).spent price kind := by
              rw [isTaken]
              exact if_pos isTaken
            exact reached.trans top.le
          have state : ((s.folio f).charged price kind).state = .held .allowance := if_pos ⟨isTaken, opened', atTop⟩
          rw [made, state, show ((s.heardFrom n).folio f).state = .opened from opened']
          nofun
        rw [makeLine_eq, if_neg held]
        exact isPending_raise rfl _

end Sys2Proof.Settled
end

section
/-! The statements of offered records and of the journal's commands (chapter 7). -/

/- The joined text is checked with bounded memory: proofs are elaborated one after another, not each in a thread of its own. -/
set_option Elab.async false

namespace Sys2Proof.Machine

/-! ### Staging a record (R136 to R139) -/

theorem raiseCount_one {count : BitVec 32} (h : count ≠ 0xFFFFFFFF) : raiseCount count 1 = count + 1 := by
  have below : count.toNat ≠ 4294967295 := fun e => h (BitVec.eq_of_toNat_eq e)
  have bound := count.isLt
  unfold raiseCount
  rw [if_pos (by omega)]
  exact BitVec.eq_of_toNat_eq (by rw [BitVec.toNat_ofNat, BitVec.toNat_add]; rfl)

section
variable {j : Journal} {r : Record}

theorem stage_room (space : j.staged.length < 64) : j.stage r = { j with staged := j.staged ++ [r] } := by
  unfold Journal.stage
  exact if_pos space

theorem stage_routine (full : 64 ≤ j.staged.length) (routine : r.cls = .routine) :
    j.stage r = { j with droppedRoutine := raiseCount j.droppedRoutine 1 } := by
  unfold Journal.stage
  rw [if_neg (show ¬ j.staged.length < Config.stagingMax from Nat.not_lt.mpr full), if_pos routine]

theorem stage_priority_none (full : 64 ≤ j.staged.length) (priority : r.cls ≠ .routine) (none_ : j.evictable = none) :
    j.stage r = { j with droppedPriority := raiseCount j.droppedPriority 1 } := by
  unfold Journal.stage
  rw [if_neg (show ¬ j.staged.length < Config.stagingMax from Nat.not_lt.mpr full), if_neg priority, none_]

theorem stage_priority_some {i : Nat} (full : 64 ≤ j.staged.length) (priority : r.cls ≠ .routine)
    (evicts : j.evictable = some i) :
    j.stage r = { j with staged := j.staged.eraseIdx i ++ [r], droppedRoutine := raiseCount j.droppedRoutine 1 } := by
  unfold Journal.stage
  rw [if_neg (show ¬ j.staged.length < Config.stagingMax from Nat.not_lt.mpr full), if_neg priority, evicts]

theorem evictable_none (none_ : ∀ r ∈ j.staged.drop j.inFlight, r.cls ≠ .routine) : j.evictable = none := by
  unfold Journal.evictable
  rw [List.findIdx?_eq_none_iff.mpr fun r mem => decide_eq_false (none_ r mem)]
  rfl

theorem evictable_some {i : Nat} (waits : j.inFlight ≤ i) (there : j.staged[i]? = some r) (routine : r.cls = .routine)
    (first : ∀ k r', j.inFlight ≤ k → k < i → j.staged[k]? = some r' → r'.cls ≠ .routine) : j.evictable = some i := by
  have at_ (k : Nat) : (j.staged.drop j.inFlight)[k]? = j.staged[j.inFlight + k]? := List.getElem?_drop
  have found : (j.staged.drop j.inFlight).findIdx? (fun r => decide (r.cls = .routine)) = some (i - j.inFlight) := by
    have here : (j.staged.drop j.inFlight)[i - j.inFlight]? = some r := by
      rw [at_, Nat.add_sub_cancel' waits, there]
    obtain ⟨inside, value⟩ := List.getElem?_eq_some_iff.mp here
    refine List.findIdx?_eq_some_iff_getElem.mpr ⟨inside, by rw [value, decide_eq_true_iff]; exact routine, fun k below => ?_⟩
    have lies : k < (j.staged.drop j.inFlight).length := lt_trans below inside
    rw [decide_eq_true_iff]
    exact first (j.inFlight + k) _ (Nat.le_add_right ..) (by omega) ((at_ k).symm.trans (List.getElem?_eq_getElem lies))
  unfold Journal.evictable
  rw [found, Option.map_some, Nat.sub_add_cancel waits]

end

theorem flush_stage (j : Journal) (r : Record) : (j.stage r).flush = j.flush := by
  unfold Journal.stage
  split
  · rfl
  · split
    · rfl
    · split <;> rfl

theorem nextSeq_stage (j : Journal) (r : Record) : (j.stage r).nextSeq = j.nextSeq := by
  unfold Journal.stage
  split
  · rfl
  · split
    · rfl
    · split <;> rfl

theorem any_seqAtOrBelow_iff (rs : List Record) (target : Seq) :
    (rs.any fun r => seqAtOrBelow r.seq target) = true ↔ ∃ r ∈ rs, r.seq = target ∨ seqBelow r.seq target = true := by
  simp only [List.any_eq_true, seqAtOrBelow, Bool.or_eq_true, decide_eq_true_eq]

theorem settleFlush_none {s : State} (quiet : s.journal.flush = none) : settleFlush s = s := by
  unfold settleFlush
  rw [quiet]

theorem settleFlush_some {s : State} {target : Seq} (pends : s.journal.flush = some target) : settleFlush s =
    if ∃ r ∈ s.journal.staged, r.seq = target ∨ seqBelow r.seq target = true then s
    else answerLong .flushJournal ⟨.ok, []⟩ { s with journal := { s.journal with flush := none } } := by
  unfold settleFlush
  rw [pends]
  exact if_congr (any_seqAtOrBelow_iff s.journal.staged target) rfl rfl

/-- The state once a record is offered to a full staging queue, before its drop is told. -/
def droppedInto (o : Offer) (s : State) : State := { s with journal := s.journal.taken o s.inRun s.supply.elapsed }

theorem offer_full {s : State} (full : 64 ≤ s.journal.staged.length) (o : Offer) : offer o s = settleFlush
    (if s.journal.noticeArmed then raise .service .stagingDrop (droppedInto o s) else droppedInto o s) := by
  unfold offer
  exact if_neg (Nat.not_lt.mpr full)

theorem journal_told (b : Bool) (t : State) : (if b then raise .service .stagingDrop t else t).journal = t.journal := by
  cases b <;> rfl

/-! ### The order of sequences (R136) -/

theorem eq_of_gap_zero {c a : Seq} (h : (a - c).toNat = 0) : a = c := by
  bv_omega

theorem seqAtOrBelow_iff (c a : Seq) : seqAtOrBelow c a = true ↔ (a - c).toNat ≤ 2147483647 := by
  unfold seqAtOrBelow seqBelow
  rw [Bool.or_eq_true, decide_eq_true_iff, decide_eq_true_iff]
  constructor
  · rintro (rfl | ⟨-, h⟩)
    · rw [BitVec.sub_self]
      exact Nat.zero_le _
    · exact h
  · intro h
    by_cases same : c = a
    · exact .inl same
    · refine .inr ⟨Nat.one_le_iff_ne_zero.mpr fun zero => same ?_, h⟩
      exact (eq_of_gap_zero zero).symm

/-- Among sequences at or above one of them, the order is that of the distances from it. -/
theorem seqBelow_iff_of_above {c a b : Seq} (ha : (a - c).toNat ≤ 2147483647) (hb : (b - c).toNat ≤ 2147483647) :
    seqBelow a b = true ↔ (a - c).toNat < (b - c).toNat := by
  unfold seqBelow
  rw [decide_eq_true_iff]
  bv_omega

theorem oldest_fold_nearest {c : Seq} {rs : List Record} : ∀ {best : Option Record} {o : Record},
    (∀ b, best = some b → (b.seq - c).toNat ≤ 2147483647) → (∀ r ∈ rs, (r.seq - c).toNat ≤ 2147483647) →
    rs.foldl (fun best r => match best with
      | none => some r
      | some b => if seqBelow r.seq b.seq then some r else some b) best = some o →
    (∀ b, best = some b → (o.seq - c).toNat ≤ (b.seq - c).toNat) ∧ ∀ p ∈ rs, (o.seq - c).toNat ≤ (p.seq - c).toNat := by
  induction rs with
  | nil =>
    intro best o _ _ h
    change best = some o at h
    exact ⟨fun b e => (congrArg (fun r : Record => (r.seq - c).toNat) (Option.some.inj (h.symm.trans e))).le, fun _ mem => nomatch mem⟩
  | cons x xs ih =>
    intro best o near above h
    obtain ⟨hx, hxs⟩ := List.forall_mem_cons.mp above
    cases best with
    | none =>
      obtain ⟨first, rest⟩ := ih (best := some x) (fun b e => by obtain rfl := Option.some.inj e; exact hx) hxs h
      exact ⟨fun _ e => (nomatch e), List.forall_mem_cons.mpr ⟨first x rfl, rest⟩⟩
    | some b =>
      have hb := near b rfl
      have order := seqBelow_iff_of_above hx hb
      rw [List.foldl_cons] at h
      dsimp only at h
      split at h
      · next below =>
        obtain ⟨first, rest⟩ := ih (best := some x) (fun b e => by obtain rfl := Option.some.inj e; exact hx) hxs h
        refine ⟨fun b' e => ?_, List.forall_mem_cons.mpr ⟨first x rfl, rest⟩⟩
        obtain rfl := Option.some.inj e
        exact (first x rfl).trans (order.mp below).le
      · next stays =>
        obtain ⟨first, rest⟩ := ih (best := some b) near hxs h
        exact ⟨first, List.forall_mem_cons.mpr ⟨(first b rfl).trans (Nat.not_lt.mp (mt order.mpr stays)), rest⟩⟩

/-- The oldest of some records at or above a sequence is nearest to it. -/
theorem oldest_nearest {c : Seq} {rs : List Record} (above : ∀ r ∈ rs, (r.seq - c).toNat ≤ 2147483647) {o : Record}
    (h : oldest rs = some o) : ∀ p ∈ rs, (o.seq - c).toNat ≤ (p.seq - c).toNat :=
  (oldest_fold_nearest (best := none) (fun _ e => nomatch e) above h).2

theorem oldest_fold_isSome {rs : List Record} : ∀ b : Record, (rs.foldl (fun best r => match best with
      | none => some r
      | some b => if seqBelow r.seq b.seq then some r else some b) (some b)).isSome = true := by
  induction rs with
  | nil => exact fun _ => rfl
  | cons x xs ih =>
    intro b
    rw [List.foldl_cons]
    dsimp only
    split
    · exact ih x
    · exact ih b

theorem oldest_of_mem {rs : List Record} {r : Record} (h : r ∈ rs) : ∃ o, oldest rs = some o := by
  cases rs with
  | nil => cases h
  | cons x xs => exact Option.isSome_iff_exists.mp (oldest_fold_isSome x)

/-! ### SET CURSOR (R153) -/

section
variable {rs : List Record} {next c : Seq}

theorem cursorFor_none (none_ : ∀ r ∈ rs, r.seq ≠ c ∧ seqBelow c r.seq = false) : cursorFor rs next c = next := by
  have empty : rs.filter (fun r => seqAtOrBelow c r.seq) = [] := by
    refine List.filter_eq_nil_iff.mpr fun r mem => ?_
    obtain ⟨ne, below⟩ := none_ r mem
    rw [seqAtOrBelow, below, Bool.or_false, decide_eq_true_iff]
    exact ne.symm
  unfold cursorFor
  rw [empty]
  rfl

/-- Where some record is at or above a sequence, the cursor's place is one of those nearest to it. -/
theorem cursorFor_some {r : Record} (mem : r ∈ rs) (above : seqAtOrBelow c r.seq = true) :
    ∃ o ∈ rs, cursorFor rs next c = o.seq ∧ seqAtOrBelow c o.seq = true ∧
      ∀ p ∈ rs, seqAtOrBelow c p.seq = true → (o.seq - c).toNat ≤ (p.seq - c).toNat := by
  obtain ⟨o, first⟩ := oldest_of_mem (List.mem_filter.mpr ⟨mem, above⟩ : r ∈ rs.filter fun r => seqAtOrBelow c r.seq)
  obtain ⟨there, high⟩ := List.mem_filter.mp (mem_of_oldest first)
  have near := oldest_nearest (fun p hp => (seqAtOrBelow_iff c p.seq).mp (List.mem_filter.mp hp).2) first
  refine ⟨o, there, ?_, high, fun p hp hc => near p (List.mem_filter.mpr ⟨hp, hc⟩)⟩
  unfold cursorFor
  rw [first]

theorem seqAtOrBelow_refl (c : Seq) : seqAtOrBelow c c = true := by
  rw [seqAtOrBelow, decide_eq_true rfl, Bool.true_or]

theorem seqAtOrBelow_of_below {a b : Seq} (h : seqBelow a b = true) : seqAtOrBelow a b = true := by
  rw [seqAtOrBelow, h, Bool.or_true]

theorem cursorFor_there (there : ∃ r ∈ rs, r.seq = c) : cursorFor rs next c = c := by
  obtain ⟨r, mem, rfl⟩ := there
  obtain ⟨o, -, place, -, near⟩ := cursorFor_some (next := next) mem (seqAtOrBelow_refl r.seq)
  have zero := near r mem (seqAtOrBelow_refl r.seq)
  rw [BitVec.sub_self, BitVec.toNat_zero, Nat.le_zero] at zero
  exact place.trans (eq_of_gap_zero zero)

theorem cursorFor_above (some_ : ∃ r ∈ rs, seqBelow c r.seq = true) (none_ : ∀ r ∈ rs, r.seq ≠ c) :
    ∃ r ∈ rs, cursorFor rs next c = r.seq ∧ seqBelow c r.seq = true ∧
      ∀ p ∈ rs, seqBelow c p.seq = true → seqBelow p.seq r.seq = false := by
  obtain ⟨r, mem, below⟩ := some_
  obtain ⟨o, there, place, high, near⟩ := cursorFor_some (next := next) mem (seqAtOrBelow_of_below below)
  refine ⟨o, there, place, ?_, fun p hp hc => ?_⟩
  · rw [seqAtOrBelow, Bool.or_eq_true, decide_eq_true_iff] at high
    exact high.resolve_left (none_ o there).symm
  · have pHigh := seqAtOrBelow_of_below hc
    have order := seqBelow_iff_of_above ((seqAtOrBelow_iff c p.seq).mp pHigh) ((seqAtOrBelow_iff c o.seq).mp high)
    exact Bool.eq_false_iff.mpr fun e => absurd (order.mp e) (Nat.not_lt.mpr (near p hp pHigh))

end

/-! ### MARK COLLECTED, guards, holds and flushes (R149 to R152, R156) -/

theorem markCollected_eq (m : Seq) (s : State) : markCollected m s =
    if (∃ c, s.journal.collected = some c ∧ seqBelow m c = true) ∨ s.journal.nextSeq = m ∨
        seqBelow s.journal.nextSeq m = true then refuse .badParam s
    else accept [] { s with journal := { s.journal with collected := some m } } := by
  unfold markCollected
  refine if_congr ?_ rfl rfl
  rw [Option.any_eq_true, seqAtOrBelow, Bool.or_eq_true, decide_eq_true_iff]

theorem segment_writeGuards (v : Bool) (w : Set16) (s : State) (k : SegIx) :
    (writeGuards v w s).segment k = if inSet w k then { s.segment k with guard := v } else s.segment k :=
  tget_tmap (β := Segment) (n := 16) (by decide) s.journal.segments (fun k g => if inSet w k then { g with guard := v } else g) k

theorem holdSegment_taken {k : SegIx} {s : State} (full : (s.segment k).state = .full) (free : (s.segment k).hold = .none)
    (quiet : (s.segment k).holdPending = false) (space : s.journal.heldCount < 12) : holdSegment k s =
      (queueMark (.hold k) (s.modJournal fun j => j.modSegment k fun g => { g with holdPending := true }), none) := by
  unfold holdSegment
  dsimp only
  rw [full, free, quiet, if_neg (by decide)]
  exact if_neg (show ¬ 12 < s.journal.heldCount + 1 by omega)

theorem holdSegment_limit {k : SegIx} {s : State} (full : (s.segment k).state = .full) (free : (s.segment k).hold = .none)
    (quiet : (s.segment k).holdPending = false) (most : 12 ≤ s.journal.heldCount) : holdSegment k s = refuse .holdLimit s := by
  unfold holdSegment
  dsimp only
  rw [full, free, quiet, if_neg (by decide)]
  exact if_pos (show 12 < s.journal.heldCount + 1 by omega)

theorem holdSegment_state {k : SegIx} {s : State}
    (h : (s.segment k).state ≠ .full ∨ (s.segment k).hold ≠ .none ∨ (s.segment k).holdPending = true) :
    holdSegment k s = refuse .state s := by
  unfold holdSegment
  exact if_pos h

theorem parseNothing_eq (ps : List Byte) : parseNothing ps = some () := rfl

theorem flushJournal_empty {s : State} (empty : s.journal.staged = []) : flushJournal () s = accept [] s := by
  unfold flushJournal
  rw [empty]
  rfl

theorem flushJournal_staged {s : State} {r : Record} (last : s.journal.staged.getLast? = some r) : flushJournal () s =
    if s.journal.jammed then refuse .jammed s else (s.modJournal fun j => { j with flush := some r.seq }, none) := by
  unfold flushJournal
  rw [last]

end Sys2Proof.Machine

namespace Sys2Proof.Settled

open Sys2Proof.Machine

/-- Settles O47. -/
theorem offeredRecord : Obligations.OfferedRecord := by
  intro o s
  refine ⟨fun space => ?_, fun full => ⟨droppedInto o s, ?_⟩⟩
  · have first : ¬ Config.stagingMax ≤ s.journal.staged.length := Nat.not_le.mpr space
    unfold offer Journal.taken
    dsimp only
    rw [if_pos (show s.journal.staged.length < Config.stagingMax from space), decide_eq_false first,
      stage_room (j := { s.journal with nextSeq := s.journal.nextSeq + 1 }) space]
    simp only [Bool.not_false, Bool.and_true, Bool.true_and, Bool.and_eq_true, decide_eq_true_eq]
    rfl
  · intro told
    have offered : offer o s = settleFlush told := offer_full full o
    have journal : told.journal = (droppedInto o s).journal := journal_told ..
    have flush : told.journal.flush = s.journal.flush := by
      rw [journal]
      exact flush_stage ..
    have over_ : decide (Config.stagingMax ≤ s.journal.staged.length) = true := decide_eq_true full
    refine ⟨fun quiet => offered.trans (settleFlush_none (flush.trans quiet)), fun target pends => ?_, rfl, nextSeq_stage .., ?_,
      fun routine => ?_, fun priority none => ?_, fun i r priority waits there routine first => ?_⟩
    · rw [offered, settleFlush_some (flush.trans pends), journal]
    · change (s.journal.noticeArmed && !decide (Config.stagingMax ≤ s.journal.staged.length)) = false
      rw [over_]
      exact Bool.and_false _
    · have staged := stage_routine (j := { s.journal with nextSeq := s.journal.nextSeq + 1 }) (r := o.record s.journal.nextSeq)
        full routine
      exact ⟨(congrArg Journal.staged staged :), fun notTop => (congrArg Journal.droppedRoutine staged :).trans (raiseCount_one notTop)⟩
    · have staged := stage_priority_none (j := { s.journal with nextSeq := s.journal.nextSeq + 1 })
        (r := o.record s.journal.nextSeq) full priority (evictable_none none)
      exact ⟨(congrArg Journal.staged staged :), fun notTop => (congrArg Journal.droppedPriority staged :).trans (raiseCount_one notTop)⟩
    · have staged := stage_priority_some (j := { s.journal with nextSeq := s.journal.nextSeq + 1 })
        (r := o.record s.journal.nextSeq) full priority (evictable_some waits there routine first)
      exact ⟨(congrArg Journal.staged staged :), fun notTop => (congrArg Journal.droppedRoutine staged :).trans (raiseCount_one notTop)⟩

/-- Settles O48. -/
theorem journalCommands : Obligations.JournalCommands := by
  intro more s h
  refine ⟨fun c => ⟨cursorFor s.journal.committed s.journal.nextSeq c, ?_, cursorFor_there, cursorFor_none, cursorFor_above⟩,
    fun m => ?_, fun w some_ => ⟨writeGuards false w s, writeGuards true w s, ?_, ?_, rfl, rfl, fun k => ?_⟩,
    fun k full free quiet => ⟨fun space => ?_, fun most => ?_⟩, fun k bad => ?_, fun k => ?_, fun empty => ?_, fun r last => ?_⟩
  · exact congrArg Host.Outcome.next (takeCommand_accepted h (not_truncated (by rfl)) rfl (parseWord_u32 more c) rfl)
  · have taken := markCollected_eq m (s.begun .service .markCollected)
    split
    · next bad => exact congrArg Host.Outcome.next (takeCommand_refused h (not_truncated (by rfl)) rfl (parseWord_u32 more m)
        (taken.trans (if_pos bad)))
    · next good => exact congrArg Host.Outcome.next (takeCommand_accepted h (not_truncated (by rfl)) rfl (parseWord_u32 more m)
        (taken.trans (if_neg good)))
  · exact congrArg Host.Outcome.next (takeCommand_accepted h (not_truncated (by rfl)) rfl (parseSet_u16 more w some_) rfl)
  · exact congrArg Host.Outcome.next (takeCommand_accepted h (not_truncated (by rfl)) rfl (parseSet_u16 more w some_) rfl)
  · rw [segment_writeGuards, segment_writeGuards]
    rw [inSet]
    cases w.getLsbD k.val <;> constructor <;> simp
  · exact congrArg Host.Outcome.next (takeCommand_begun h (not_truncated (by rfl)) rfl (parseSegment_u8 more k)
      (holdSegment_taken (s := s.begun .service .holdSegment) full free quiet space))
  · exact congrArg Host.Outcome.next (takeCommand_refused h (not_truncated (by rfl)) rfl (parseSegment_u8 more k)
      (holdSegment_limit (s := s.begun .service .holdSegment) full free quiet most))
  · exact congrArg Host.Outcome.next (takeCommand_refused h (not_truncated (by rfl)) rfl (parseSegment_u8 more k)
      (holdSegment_state (s := s.begun .service .holdSegment) bad))
  · split
    · next held => exact congrArg Host.Outcome.next (takeCommand_begun h (not_truncated (by rfl)) rfl (parseSegment_u8 more k)
        (if_neg (not_not.mpr held)))
    · next other => exact congrArg Host.Outcome.next (takeCommand_refused h (not_truncated (by rfl)) rfl (parseSegment_u8 more k)
        (if_pos other))
  · exact congrArg Host.Outcome.next (takeCommand_accepted h (Nat.not_lt_zero _) rfl (parseNothing_eq more)
      (flushJournal_empty (s := s.begun .service .flushJournal) empty))
  · have taken := flushJournal_staged (s := s.begun .service .flushJournal) last
    split
    · next jammed => exact congrArg Host.Outcome.next (takeCommand_refused h (Nat.not_lt_zero _) rfl (parseNothing_eq more)
        (taken.trans (if_pos jammed)))
    · next runs => exact congrArg Host.Outcome.next (takeCommand_begun h (Nat.not_lt_zero _) rfl (parseNothing_eq more) (taken.trans (if_neg runs)))

end Sys2Proof.Settled
end

section
/-! The statements of the corridor indicators (chapter 8). -/

/- The joined text is checked with bounded memory: proofs are elaborated one after another, not each in a thread of its own. -/
set_option Elab.async false

namespace Sys2Proof.Machine

/-! ### The parameters of the indicator commands (R164, R165) -/

/-- A lamp value in its byte: unlit 0, lit 1, unchanged 2. -/
def lampCode (v : Option Bool) : List Byte := match v with | some false => [0] | some true => [1] | none => [2]

theorem length_lampCode (v : Option Bool) : (lampCode v).length = 1 := by
  unfold lampCode
  split <;> rfl

theorem u8At_single (b : Byte) (before more : List Byte) (k : Nat) (hk : before.length = k) :
    u8At (before ++ ([b] ++ more)) k = b.toNat := by
  subst hk
  simp [u8At, byteAt]

theorem lampAt_lampCode (v : Option Bool) (before more : List Byte) (k : Nat) (hk : before.length = k) :
    lampAt (before ++ (lampCode v ++ more)) k = some v := by
  unfold lampAt lampCode
  match v with
  | some false => rw [u8At_single 0 before more k hk]; rfl
  | some true => rw [u8At_single 1 before more k hk]; rfl
  | none => rw [u8At_single 2 before more k hk]; rfl

/-- The chosen set of WRITE LAMPS in its byte. -/
def LampChoice.byte : LampChoice → Byte
  | .primary => 0
  | .alternate => 1
  | .blinkSelect => 2

theorem parseWriteLamps_fields (r : RoomIx) (choice : LampChoice) (privacy makeup call alarm : Option Bool) (more : List Byte) :
    parseWriteLamps (u16 r.val ++ [choice.byte] ++
      (lampCode privacy ++ lampCode makeup ++ lampCode call ++ lampCode alarm ++ more)) =
        some ⟨r, choice, privacy, makeup, call, alarm⟩ := by
  let ps := u16 r.val ++ [choice.byte] ++ (lampCode privacy ++ lampCode makeup ++ lampCode call ++ lampCode alarm ++ more)
  have room : roomAt ps 0 = some r := by
    simpa only [ps, List.append_assoc] using roomAt_head _ r
  have set : u8At ps 2 = choice.byte.toNat := by
    simpa only [ps, List.append_assoc] using u8At_single choice.byte (u16 r.val) _ 2 rfl
  have privacyRead : lampAt ps 3 = some privacy := by
    simpa only [ps, List.append_assoc] using lampAt_lampCode privacy (u16 r.val ++ [choice.byte]) _ 3 rfl
  have makeupRead : lampAt ps 4 = some makeup := by
    simpa only [ps, List.append_assoc] using lampAt_lampCode makeup (u16 r.val ++ [choice.byte] ++ lampCode privacy) _ 4
      (by rw [List.length_append, length_lampCode]; rfl)
  have callRead : lampAt ps 5 = some call := by
    simpa only [ps, List.append_assoc] using
      lampAt_lampCode call (u16 r.val ++ [choice.byte] ++ lampCode privacy ++ lampCode makeup) _ 5
        (by rw [List.length_append, List.length_append, length_lampCode, length_lampCode]; rfl)
  have alarmRead : lampAt ps 6 = some alarm := by
    simpa only [ps, List.append_assoc] using
      lampAt_lampCode alarm (u16 r.val ++ [choice.byte] ++ lampCode privacy ++ lampCode makeup ++ lampCode call) more 6
        (by rw [List.length_append, List.length_append, List.length_append, length_lampCode, length_lampCode, length_lampCode]; rfl)
  change parseWriteLamps ps = _
  unfold parseWriteLamps
  rw [room, set, privacyRead, makeupRead, callRead, alarmRead]
  cases choice <;> rfl

theorem parseBlinkMode_u8 (m : BlinkMode) (more : List Byte) : parseBlinkMode (u8 m.code ++ more) = some m := by
  have code : u8At (u8 m.code ++ more) 0 = m.code := u8At_head more (by cases m <;> decide)
  unfold parseBlinkMode
  rw [code]
  cases m <;> rfl

theorem parseDark_uFlag (v : Bool) (more : List Byte) : parseDark (uFlag v ++ more) = some v :=
  flagAt_uFlag more v [] 0 rfl

/-! ### The indicator commands (R164 to R167) -/

theorem indicatorTaken_begun (s : State) (p : Port) (c : Command) :
    indicatorTaken (s.begun p c) = (indicatorTaken s).begun p c := rfl

theorem requestSweep_eq (k : SweepKind) (s : State) : requestSweep k s = { s with lamps :=
    if s.lamps.sweep = .idle then { s.lamps with sweep := .marking k 0 }
    else { s.lamps with pendingStart := if s.lamps.pendingStart = some .full then some .full else some k } } := by
  unfold requestSweep
  cases s.lamps.sweep with
  | idle => rfl
  | marking j r =>
    cases s.lamps.pendingStart with
    | none => rfl
    | some j => cases j <;> rfl
  | draining j =>
    cases s.lamps.pendingStart with
    | none => rfl
    | some j => cases j <;> rfl

theorem withMode_steady (u : Indicator) (elapsed : Nat) :
    u.withMode .steady elapsed = { u with mode := .steady, phaseOn := true, toggleAt := none } :=
  if_pos rfl

theorem withMode_blinking {m : BlinkMode} (h : m ≠ .steady) (u : Indicator) (elapsed : Nat) : u.withMode m elapsed =
    if u.mode = .steady then { u with mode := m, phaseOn := true, toggleAt := some (elapsed + u.halfPeriod) }
    else { u with mode := m } :=
  if_neg h

theorem setBlinkMode_blinking {m : BlinkMode} (h : m ≠ .steady) (s : State) :
    setBlinkMode m s = accept [] ((indicatorTaken s).modLamps fun u => u.withMode m s.supply.elapsed) := by
  unfold setBlinkMode
  dsimp only
  rw [if_neg (fun both => h both.1)]

/-- The state once the blink generator stops (R165). -/
def blinkStopped (s : State) : State :=
  if s.lamps.mode ≠ .steady ∧ s.lamps.phaseOn = false then
    requestSweep .toggle ((indicatorTaken s).modLamps fun u => { u with mode := .steady, phaseOn := true, toggleAt := none })
  else (indicatorTaken s).modLamps fun u => { u with mode := .steady, phaseOn := true, toggleAt := none }

theorem setBlinkMode_steady (s : State) : setBlinkMode .steady s = accept [] (blinkStopped s) := by
  unfold setBlinkMode blinkStopped
  exact congrArg (accept []) (if_congr (and_iff_right rfl) rfl rfl)

theorem blinkStopped_begun (s : State) (p : Port) (c : Command) : blinkStopped (s.begun p c) = (blinkStopped s).begun p c := by
  unfold blinkStopped
  rw [show (s.begun p c).lamps = s.lamps from rfl, requestSweep_eq, requestSweep_eq]
  split <;> rfl

/-! ### Sweeps (R168 to R170) -/

theorem markNode_served {n : NodeAddr} {s : State} (serves : s.servesLamps n = true) : markNode n s =
    { setLampMark n s with lamps := { s.lamps with
      outstanding := if n ∈ s.lamps.outstanding then s.lamps.outstanding else s.lamps.outstanding ++ [n] } } := by
  have outstanding : (if s.lamps.outstanding.contains n = true then s.lamps.outstanding else s.lamps.outstanding ++ [n]) =
      if n ∈ s.lamps.outstanding then s.lamps.outstanding else s.lamps.outstanding ++ [n] :=
    if_congr List.contains_iff_mem rfl rfl
  unfold markNode
  rw [if_pos serves, ← outstanding]
  rfl

theorem markNode_unserved {n : NodeAddr} {s : State} (clears : s.servesLamps n = false) : markNode n s = s := by
  unfold markNode
  rw [clears]
  rfl

theorem servesLamps_iff (s : State) (n : NodeAddr) : s.servesLamps n = true ↔
    (s.line n.line).state ≠ .stopped ∧ (s.node n).config.configured = true ∧ (s.node n).link ≠ .offline := by
  simp only [State.servesLamps, Bool.and_eq_true, decide_eq_true_eq, and_assoc]

theorem sweepMarks_iff (s : State) (k : SweepKind) (r : RoomIx) :
    s.sweepMarks k r = true ↔ k = .full ∨ (s.lamp r).lastSent ≠ some (s.displayed r) := by
  cases k with
  | full => simp [State.sweepMarks]
  | toggle => simp [State.sweepMarks]

theorem visitRoom_none {k : SweepKind} {r : RoomIx} {s : State} (none_ : (s.room r).doorNode = none) : visitRoom k r s = s := by
  unfold visitRoom
  rw [none_]

theorem visitRoom_unmarked {k : SweepKind} {r : RoomIx} {s : State} {n : NodeAddr} (named : (s.room r).doorNode = some n)
    (same : s.sweepMarks k r = false) : visitRoom k r s = s := by
  unfold visitRoom
  rw [named]
  exact if_neg (by rw [same]; decide)

theorem visitRoom_marked {k : SweepKind} {r : RoomIx} {s : State} {n : NodeAddr} (named : (s.room r).doorNode = some n)
    (marks : s.sweepMarks k r = true) : visitRoom k r s = markNode n s := by
  unfold visitRoom
  rw [named]
  exact if_pos marks

theorem sweepVisit_eq {s : State} {k : SweepKind} {r : RoomIx} (run : s.inRun = true) (sweep : s.lamps.sweep = .marking k r) :
    sweepVisit s =
      if h : r.val + 1 < 512 then (visitRoom k r s).modLamps fun u => { u with sweep := .marking k ⟨r.val + 1, h⟩ }
      else settleSweep ((visitRoom k r s).modLamps fun u => { u with sweep := .draining k }) := by
  unfold sweepVisit
  rw [run, sweep]

theorem sweepVisit_next {s : State} {k : SweepKind} {r : RoomIx} (run : s.inRun = true) (sweep : s.lamps.sweep = .marking k r)
    (h : r.val + 1 < 512) :
    sweepVisit s = (visitRoom k r s).modLamps fun u => { u with sweep := .marking k ⟨r.val + 1, h⟩ } :=
  (sweepVisit_eq run sweep).trans (dif_pos h)

theorem sweepVisit_last {s : State} {k : SweepKind} {r : RoomIx} (run : s.inRun = true) (sweep : s.lamps.sweep = .marking k r)
    (last : r.val = 511) :
    sweepVisit s = settleSweep ((visitRoom k r s).modLamps fun u => { u with sweep := .draining k }) :=
  (sweepVisit_eq run sweep).trans (dif_neg (by omega))

/-- The end of a sweep that drains as soon as it has visited every room. -/
theorem settleSweep_draining (k : SweepKind) (s : State) : settleSweep (s.modLamps fun u => { u with sweep := .draining k }) =
    if s.lamps.outstanding = [] then raise .service .sweepDone { s with lamps := { s.lamps with
        sweep := match s.lamps.pendingStart with | some j => .marking j 0 | none => .idle
        pendingStart := none } }
    else s.modLamps fun u => { u with sweep := .draining k } := by
  have drained := drained_iff (s.modLamps fun u => { u with sweep := .draining k }).lamps
  split
  · next empty => exact settleSweep_drained (drained.mpr ⟨⟨k, rfl⟩, empty⟩)
  · next left => exact settleSweep_kept (mt drained.mp fun both => left both.2)

/-! ### Clearing walks (R167) -/

/-- The state once a walk has cleared an entry, before its command is answered. -/
def entryCleared (k : ClearKind) (r : RoomIx) (s : State) : State :=
  (s.modLamp r fun e => e.cleared k).modLamps fun u =>
    { u with clearing := if h : r.val + 1 < 512 then some (k, ⟨r.val + 1, h⟩) else none }

theorem clearWalkStep_next {s : State} {k : ClearKind} {r : RoomIx} (run : s.inRun = true)
    (walk : s.lamps.clearing = some (k, r)) (h : r.val + 1 < 512) : clearWalkStep s = entryCleared k r s := by
  unfold clearWalkStep entryCleared
  rw [run, walk, dif_pos h]
  exact dif_pos h

theorem clearWalkStep_last {s : State} {k : ClearKind} {r : RoomIx} (run : s.inRun = true)
    (walk : s.lamps.clearing = some (k, r)) (last : r.val = 511) :
    clearWalkStep s = answerLong k.command ⟨.ok, []⟩ (entryCleared k r s) := by
  have past : ¬ r.val + 1 < 512 := by omega
  unfold clearWalkStep entryCleared
  rw [run, walk, dif_neg past]
  exact dif_neg past

end Sys2Proof.Machine

namespace Sys2Proof.Settled

open Sys2Proof.Machine

/-- Settles O50. -/
theorem lampCommands : Obligations.LampCommands := by
  intro more s h u
  refine ⟨fun r privacy makeup call alarm => ?_, fun v => ?_, fun k low high => ?_, fun m blinking => ?_, ?_, ?_, ?_⟩
  · intro code write lamps
    have long (choice : LampChoice) : ¬ (u16 r.val ++ [choice.byte] ++
        (lampCode privacy ++ lampCode makeup ++ lampCode call ++ lampCode alarm ++ more)).length < 7 := by
      simp only [List.length_append, length_lampCode]
      change ¬ 2 + 1 + (1 + 1 + 1 + 1 + more.length) < 7
      omega
    have taken (choice : LampChoice) := takeCommand_accepted (c := .writeLamps) (owner := writeLamps) (data := [])
      (t := u.modLamp r (LampWrite.write ⟨r, choice, privacy, makeup, call, alarm⟩)) h (long choice) rfl
      (parseWriteLamps_fields r choice privacy makeup call alarm more) rfl
    exact ⟨congrArg Host.Outcome.next (taken .primary), congrArg Host.Outcome.next (taken .alternate),
      congrArg Host.Outcome.next (taken .blinkSelect)⟩
  · exact congrArg Host.Outcome.next (takeCommand_accepted h (not_truncated (by rfl)) rfl (parseDark_uFlag v more) rfl)
  · exact congrArg Host.Outcome.next (takeCommand_accepted h (not_truncated (by rfl)) rfl
      (countAt_u8 more low high (by decide)) rfl)
  · have taken := setBlinkMode_blinking blinking (s.begun .service .setBlinkMode)
    refine congrArg Host.Outcome.next (takeCommand_accepted h (not_truncated (by rfl)) rfl (parseBlinkMode_u8 m more)
      (taken.trans (congrArg (accept []) ?_)))
    exact congrArg (fun lamps => ({ u with lamps := lamps } : State).begun .service .setBlinkMode)
      (withMode_blinking blinking s.lamps s.supply.elapsed)
  · have taken := setBlinkMode_steady (s.begun .service .setBlinkMode)
    rw [blinkStopped_begun] at taken
    exact congrArg Host.Outcome.next (takeCommand_accepted h (not_truncated (by rfl)) rfl (parseBlinkMode_u8 .steady more) taken)
  · exact congrArg Host.Outcome.next (takeCommand_begun h (Nat.not_lt_zero _) rfl (parseNothing_eq more) rfl)
  · exact congrArg Host.Outcome.next (takeCommand_begun h (Nat.not_lt_zero _) rfl (parseNothing_eq more) rfl)

/-- Settles O51. -/
theorem sweepsAndWalks : Obligations.SweepsAndWalks := by
  intro s run
  refine ⟨fun k => requestSweep_eq k s, fun k r sweep => ?_, fun k r walk => ?_⟩
  · intro visited
    have next := sweepVisit_next run sweep
    have last := sweepVisit_last run sweep
    refine ⟨fun passes => ?_, fun n named marks runs configured online => ?_⟩
    · have stands : visitRoom k r s = s := by
        rcases passes with none | ⟨n, named, shown⟩
        · exact visitRoom_none none
        · by_cases marks : s.sweepMarks k r = true
          · refine (visitRoom_marked named marks).trans (markNode_unserved (Bool.eq_false_iff.mpr fun serves => ?_))
            obtain ⟨runs, configured, online⟩ := (servesLamps_iff s n).mp serves
            rcases shown with ⟨toggle, same⟩ | stopped | unset | offline
            · rcases (sweepMarks_iff s k r).mp marks with full | differs
              · rw [toggle] at full
                cases full
              · exact differs same
            · exact runs stopped
            · rw [configured] at unset
              cases unset
            · exact online offline
          · exact visitRoom_unmarked named (Bool.eq_false_iff.mpr marks)
      rw [stands] at next last
      exact ⟨fun h => congrArg Host.Outcome.next (next h),
        fun top => congrArg Host.Outcome.next ((last top).trans (settleSweep_draining k s))⟩
    · have marked : visitRoom k r s = _ := (visitRoom_marked named ((sweepMarks_iff s k r).mpr marks)).trans
        (markNode_served ((servesLamps_iff s n).mpr ⟨runs, configured, online⟩))
      rw [marked] at next last
      refine ⟨_, fun h => congrArg Host.Outcome.next (next h), fun top => congrArg Host.Outcome.next
        ((last top).trans ((settleSweep_draining k _).trans (if_neg ?_))), rfl, node_setLampMark_same n s, fun m ne =>
          node_modNode_ne s (fun nd => { nd with lampPending := true }) ne.symm, rfl⟩
      dsimp only
      split
      · next there => exact List.ne_nil_of_mem there
      · exact List.append_ne_nil_of_right_ne_nil _ (List.cons_ne_nil n [])
  · refine ⟨entryCleared k r s, rfl, fun q ne => lamp_modLamp_ne s (fun e => e.cleared k) ne.symm, ?_, rfl, fun h => ⟨?_, ?_⟩, fun top => ⟨?_, ?_⟩⟩
    · refine (lamp_modLamp_same s r fun e => e.cleared k).trans ?_
      cases k <;> rfl
    · exact dif_pos h
    · exact congrArg Host.Outcome.next (clearWalkStep_next run walk h)
    · exact dif_neg (by omega)
    · refine congrArg Host.Outcome.next ((clearWalkStep_last run walk top).trans
        ((answerLong_settled k.command .ok (entryCleared k r s) run).trans ?_))
      cases k <;> rfl

end Sys2Proof.Settled
end

section
/-! The statements of the emergency keys, the timers and the clock (11.1, 11.3). -/

/- The joined text is checked with bounded memory: proofs are elaborated one after another, not each in a thread of its own. -/
set_option Elab.async false

namespace Sys2Proof.Machine

/-! ### Timers that expire before the next minute tick (R191) -/

theorem elapsed_passPeriods (k : Nat) (s : State) : (passPeriods k s).supply.elapsed = s.supply.elapsed + k := rfl

theorem passUntil_before_tick {due : Nat} {s : State} (after : s.supply.elapsed < due)
    (before : due < s.supply.elapsed + s.supply.toTick) : passUntil due s = passPeriods (due - s.supply.elapsed) s := by
  unfold passUntil passSteps
  rw [if_neg (Nat.not_le.mpr after), if_neg (Nat.not_le.mpr before)]

/-- A timer that time alone does not move takes its effect at its expiry. -/
theorem expireTimer_due {timer : Timer} {due : Nat} {s : State} (run : s.inRun = true) (starts : timer s = some due)
    (stays : timer (passPeriods (due - s.supply.elapsed) s) = some due) (after : s.supply.elapsed < due)
    (before : due < s.supply.elapsed + s.supply.toTick) (effect : State → State) :
    expireTimer timer effect s = effect (passPeriods (due - s.supply.elapsed) s) := by
  have reached : due ≤ (passPeriods (due - s.supply.elapsed) s).supply.elapsed := by
    rw [elapsed_passPeriods]
    omega
  unfold expireTimer
  rw [run, starts]
  dsimp only
  rw [passUntil_before_tick after before, stays]
  exact if_pos (decide_eq_true reached)

/-! ### The effects of the timers (R80, R82, R124, R126) -/

theorem expireGrant_door {n : NodeAddr} {s : State} (door : (s.node n).config.isMinibar = false) :
    expireGrant n s = s.modNode n fun nd => { nd with grant := none } := by
  unfold expireGrant handToCharge
  rw [node_modNode_same]
  exact if_neg (by rw [door]; decide)

theorem expireGrant_minibar {n : NodeAddr} {s : State} (bar : (s.node n).config.isMinibar = true) :
    expireGrant n s = minibarUnused n (s.modNode n fun nd => { nd with grant := none }) := by
  unfold expireGrant handToCharge
  rw [node_modNode_same]
  exact if_pos bar

theorem expireHeldOpen_stopped {n : NodeAddr} {s : State} {x : HeldOpenTimer} (runs : (s.node n).heldOpen = some x)
    (mode : (s.node n).mode ≠ .normal) : expireHeldOpen n s = s.modNode n fun nd => { nd with heldOpen := none } := by
  unfold expireHeldOpen
  dsimp only
  rw [runs]
  exact if_neg (fun both => mode both.1)

/-- The state once a door is HELD_OPEN, before its record is offered (R82). -/
def heldOpened (n : NodeAddr) (s : State) : State :=
  handDoor n (setDoor n .heldOpen (s.node n).latch (s.modNode n fun nd => { nd with heldOpen := none }))

theorem expireHeldOpen_held {n : NodeAddr} {s : State} {x : HeldOpenTimer} (runs : (s.node n).heldOpen = some x)
    (mode : (s.node n).mode = .normal) (opened : (s.node n).door = .opened) : expireHeldOpen n s =
      raise .service .doorAlarm (offer
        { kind := .heldOpen, cls := .alarm, time := s.now, node := some n, room := (s.node n).config.room,
          detail := BitVec.ofNat 16 x.limit } (heldOpened n s)) := by
  unfold expireHeldOpen
  dsimp only
  rw [runs]
  exact if_pos ⟨mode, opened⟩

section
variable (n : NodeAddr) (s : State)

theorem heldOpened_touches : heldOpened n s = { s with
    nodes := (heldOpened n s).nodes, rooms := (heldOpened n s).rooms, lamps := (heldOpened n s).lamps } := by
  unfold heldOpened
  rw [handDoor_touches, setDoor_touches]
  rfl

theorem node_heldOpened_same : (heldOpened n s).node n = { s.node n with door := .heldOpen, heldOpen := none } := by
  unfold heldOpened State.node
  rw [handDoor_nodes]
  refine (node_setDoor_same ..).trans ?_
  rw [node_modNode_same]
  rfl

theorem node_heldOpened_ne {k : NodeAddr} (ne : k ≠ n) : (heldOpened n s).node k = s.node k := by
  unfold heldOpened State.node
  rw [handDoor_nodes]
  exact (node_setDoor_ne ne ..).trans (node_modNode_ne s _ ne.symm)

theorem room_heldOpened (r : RoomIx) : (heldOpened n s).room r =
    if s.doorRoom n = some r then { s.room r with door := .heldOpen } else s.room r := by
  let stopped := s.modNode n fun nd => { nd with heldOpen := none }
  have named : (setDoor n .heldOpen (s.node n).latch stopped).doorRoom n = s.doorRoom n :=
    doorRoom_congr (s := s) (doorNode_setDoor n .heldOpen (s.node n).latch stopped) n
  unfold heldOpened
  rw [room_handDoor, named, node_setDoor_same, room_setDoor]
  change (if s.doorRoom n = some r then _ else if s.doorRoom n = some r ∧ _ then _ else s.room r) = _
  split
  · next hit =>
    split <;> rfl
  · next miss => exact if_neg (fun h => miss h.1)

theorem lamps_heldOpened : (heldOpened n s).alarmHanded s n .heldOpen (s.node n).latch := by
  have handed := setDoor_alarmHanded n .heldOpen (s.node n).latch (s.modNode n fun nd => { nd with heldOpen := none })
  unfold State.alarmHanded State.lamp at handed ⊢
  unfold heldOpened
  rw [handDoor_lamps]
  rw [node_modNode_same] at handed
  exact handed

end

theorem expireOpenLimit_noticed {n : NodeAddr} {s : State} {x : Session} (there : s.charge.sessionAt n = some x)
    (opened : x.state = .opened) (fresh : x.limitNoticed = false) : expireOpenLimit n s = offer
      { kind := .minibarHeld, cls := .notice, time := s.now, node := some n, room := some x.room }
      (putSession { x with limitAt := none, limitNoticed := true } s) := by
  unfold expireOpenLimit
  rw [there]
  exact if_pos ⟨opened, fresh⟩

theorem toggleDue_at {s : State} {due : Nat} (at_ : s.lamps.toggleAt = some due) : toggleDue s = toggleBlink due s := by
  unfold toggleDue
  rw [at_]

/-! ### The Emergency Key Store (R196, R197) -/

theorem parseWriteEmergency_fields (k : Fin 4) (card : CardId) {zones : Set16} (some_ : zones ≠ 0) (more : List Byte) :
    parseWriteEmergency (u8 k.val ++ u64 card ++ u16 zones.toNat ++ more) = some (k, card, zones) := by
  have slot : u8At (u8 k.val ++ u64 card ++ u16 zones.toNat ++ more) 0 = k.val := by
    simpa only [List.append_assoc] using u8At_head _ (by omega : k.val < 256)
  have cardRead : cardAt (u8 k.val ++ u64 card ++ u16 zones.toNat ++ more) 1 = card := by
    simpa only [List.append_assoc] using cardAt_u64 _ card (u8 k.val) 1 rfl
  have zonesRead : word16At (u8 k.val ++ u64 card ++ u16 zones.toNat ++ more) 9 = zones := by
    simpa only [List.append_assoc] using word16At_u16 more zones (u8 k.val ++ u64 card) 9 rfl
  unfold parseWriteEmergency
  rw [slot, cardRead, zonesRead, if_neg some_, toFin?_val]
  rfl

theorem freezeEmergency_written {k : Fin 4} {s : State} {card : CardId} {zones : Set16}
    (h : tget s.emergency.slots k = .written card zones) : freezeEmergency k s =
      accept [] { s with emergency := { s.emergency with slots := tset s.emergency.slots k (.frozen card zones) } } := by
  unfold freezeEmergency
  rw [h]

theorem freezeEmergency_refused {k : Fin 4} {s : State} (h : ∀ card zones, tget s.emergency.slots k ≠ .written card zones) :
    freezeEmergency k s = refuse .state s := by
  unfold freezeEmergency
  split
  · next card zones is => exact absurd is (h card zones)
  · rfl

theorem writeEmergency_eq (k : Fin 4) (card : CardId) (zones : Set16) (s : State) : writeEmergency (k, card, zones) s =
    if tget s.emergency.slots k = .blank then
      ({ s with emergency := { s.emergency with programming := some { slot := k, card := card, zones := zones } } }, none)
    else refuse .slotUsed s :=
  ite_not ..

theorem emergencyProgrammingDone_eq {s : State} {k : Fin 4} {card : CardId} {zones : Set16} (run : s.inRun = true)
    (programming : s.emergency.programming = some { slot := k, card := card, zones := zones }) :
    emergencyProgrammingDone s = answerLong .writeEmergencyKey ⟨.ok, []⟩
      { s with emergency := { slots := tset s.emergency.slots k (.written card zones), programming := none } } := by
  have programmed : s.emergency.programmed = { slots := tset s.emergency.slots k (.written card zones), programming := none } := by
    unfold EmergencyStore.programmed
    rw [programming]
  unfold emergencyProgrammingDone
  rw [run, programming, programmed]

theorem answerLong_working {c : Command} {r : Reply} {s : State} (run : s.inRun = true)
    (working : (s.port .service).phase = .working c) : answerLong c r s = answer .service (some c.code) r s :=
  if_pos ⟨run, working⟩

/-! ### SET CLOCK (R191) -/

/-- The part once the clock is set, before its record is offered. -/
def clockSet (time : HotelTime) (s : State) : State :=
  { s with supply := { s.supply with counter := time, fraction := 0, clockRunning := true } }

/-- The part once the clock is set with a record (R191). -/
def clockRecorded (time : HotelTime) (d : BitVec 16) (s : State) : State :=
  offer { kind := .clockSet, cls := .notice, time := some time, detail := d } (clockSet time s)

/-- The part once SET CLOCK is taken (R191). -/
def clockTaken (time : HotelTime) (s : State) : State :=
  if s.supply.clockRunning = false then clockRecorded time 0xFFFF s
  else if 300 < clockStep s.supply.counter time then
    clockRecorded time (BitVec.ofNat 16 (min (clockStep s.supply.counter time / 60) 65534)) s
  else clockSet time s

theorem setClock_eq (time : HotelTime) (s : State) : setClock time s = accept [] (clockTaken time s) := by
  unfold setClock Supply.setDetail clockTaken
  cases s.supply.clockRunning with
  | false => rfl
  | true =>
    rw [if_neg (by decide : ¬ true = false), if_pos rfl]
    by_cases far : 300 < clockStep s.supply.counter time
    · rw [if_pos far, if_pos far]
      rfl
    · rw [if_neg far, if_neg far]
      rfl

theorem clockTaken_begun (time : HotelTime) {s : State} (idle : (s.port .service).phase.isWorking = false) :
    clockTaken time (s.begun .service .setClock) = (clockTaken time s).begun .service .setClock := by
  have told (d : BitVec 16) : clockRecorded time d (s.begun .service .setClock) = (clockRecorded time d s).begun .service .setClock :=
    offer_begun _ .service .setClock (clockSet time s) idle (by decide)
  unfold clockTaken
  rw [told, told, show (s.begun .service .setClock).supply = s.supply from rfl]
  split
  · rfl
  · split <;> rfl

/-! ### The minute tick (R88, R192) -/

theorem nextMinute (c : Nat) (h : c < 4294967296) :
    (c + min (60 - c % 60) (4294967296 - c)) % 4294967296 = if 60 * (c / 60 + 1) < 4294967296 then 60 * (c / 60 + 1) else 0 := by
  split <;> omega

/-- A minute tick takes the counter to the next multiple of 60. -/
theorem pass_toTick {c : Supply} (part : c.fraction < 32768) : c.pass c.toTick = { c with
    counter := if 60 * (c.counter.toNat / 60 + 1) < 4294967296 then BitVec.ofNat 32 (60 * (c.counter.toNat / 60 + 1)) else 0
    fraction := 0, elapsed := c.elapsed + c.toTick } := by
  have bound := c.counter.isLt
  have whole : c.fraction + c.toTick = secondsToTick c.counter * 32768 := by
    have one : 1 ≤ secondsToTick c.counter := by
      unfold secondsToTick
      omega
    change c.fraction + (secondsToTick c.counter * 32768 - c.fraction) = _
    omega
  have counter : c.counter + BitVec.ofNat 32 (secondsToTick c.counter) =
      if 60 * (c.counter.toNat / 60 + 1) < 4294967296 then BitVec.ofNat 32 (60 * (c.counter.toNat / 60 + 1)) else 0 := by
    have next := nextMinute c.counter.toNat bound
    apply BitVec.eq_of_toNat_eq
    rw [BitVec.toNat_add, BitVec.toNat_ofNat, Nat.add_mod_mod]
    refine next.trans ?_
    split
    · next small => rw [BitVec.toNat_ofNat, Nat.mod_eq_of_lt small]
    · rfl
  unfold Supply.pass
  rw [whole, show Config.crystalHz = 32768 from rfl, Nat.mul_div_cancel _ (by decide), Nat.mul_mod_left, counter]

theorem requestExpiry_eq (s : State) : requestExpiry s = { s with keys := { s.keys with scanQueue :=
    if ScanJob.expiry ∈ s.keys.scanQueue ∨ 8 ≤ s.keys.scanQueue.length then s.keys.scanQueue
    else s.keys.scanQueue ++ [.expiry] } } := by
  have asked : s.keys.scanQueue.contains .expiry = true ∨ s.scanFull = true ↔
      ScanJob.expiry ∈ s.keys.scanQueue ∨ 8 ≤ s.keys.scanQueue.length := or_congr List.contains_iff_mem (scanFull_iff s)
  unfold requestExpiry
  by_cases full : ScanJob.expiry ∈ s.keys.scanQueue ∨ 8 ≤ s.keys.scanQueue.length
  · rw [if_pos full, if_pos (asked.mpr full)]
  · rw [if_neg full, if_neg (mt asked.mp full)]
    rfl

theorem compareWindows_unset {s : State} (unset : s.supply.clockRunning = false) : compareWindows s = s := by
  unfold compareWindows
  rw [unset]
  rfl

theorem compareWindows_touches (s : State) : compareWindows s = { s with
    nodes := (compareWindows s).nodes, lines := (compareWindows s).lines } := by
  unfold compareWindows
  split <;> rfl

theorem line_changeModes_idle {choose : NodeAddr → Node → Option Mode} {s : State} {l : LineIx}
    (idle : (s.line l).exchange = none) : (changeModes choose s).line l = s.line l := by
  have mapped := tget_tmap (n := 16) (by decide) s.lines
    (fun l ln => ln.remarkMode (fun a => (choose ⟨l, a⟩ (s.node ⟨l, a⟩)).isSome) true) l
  exact mapped.trans (remarkMode_idle idle _ _)

theorem line_compareWindows_idle {s : State} {l : LineIx} (idle : (s.line l).exchange = none) :
    (compareWindows s).line l = s.line l := by
  unfold compareWindows
  split
  · exact line_changeModes_idle
      (choose := fun _ nd => (nd.edge (minuteOfDay s.supply.counter)).bind fun inside => edgeMode inside nd.mode) idle
  · rfl

/-- A node once its passage windows are compared at a minute (R88). -/
def Node.compared (nd : Node) (minute elapsed : Nat) : Node :=
  (match (nd.edge minute).bind fun inside => edgeMode inside nd.mode with
    | some m => nd.withMode m elapsed
    | none => nd).windowed minute

theorem node_compareWindows {s : State} (runs : s.supply.clockRunning = true) (n : NodeAddr) :
    (compareWindows s).node n = (s.node n).compared (minuteOfDay s.supply.counter) s.supply.elapsed := by
  unfold compareWindows
  rw [if_pos runs]
  refine (node_mapNodes _ (fun _ nd => nd.windowed (minuteOfDay s.supply.counter)) n).trans ?_
  rw [node_changeModes]
  rfl

theorem compared_none {nd : Node} {minute : Nat} (none_ : nd.edge minute = none) (elapsed : Nat) :
    nd.compared minute elapsed = nd := by
  unfold Node.compared Node.windowed
  rw [none_]
  dsimp only [Option.bind_none]
  rw [none_]

theorem compared_some {nd : Node} {minute : Nat} {inside : Bool} (edge : nd.edge minute = some inside) (elapsed : Nat) :
    nd.compared minute elapsed = (match edgeMode inside nd.mode with
      | some m => { nd.withMode m elapsed with inside := inside, mode := edgeKept inside m }
      | none => { nd with inside := inside, mode := edgeKept inside nd.mode }) := by
  have same (m : Mode) : (nd.withMode m elapsed).edge minute = some inside := edge
  unfold Node.compared Node.windowed
  rw [edge]
  dsimp only [Option.bind_some]
  cases edgeMode inside nd.mode with
  | none =>
    dsimp only
    rw [edge]
  | some m =>
    dsimp only
    rw [same]
    rfl

section
variable {nd : Node} {c : Fin 8} {ws : List Window} {minute : Nat}

theorem edge_other (other : ∀ c ws, nd.config ≠ .commonDoor c ws) : nd.edge minute = none := by
  have none_ : nd.compare minute = none := by
    unfold Node.compare
    split
    · next c ws is => exact absurd is (other c ws)
    · rfl
  unfold Node.edge
  rw [none_]

theorem edge_commonDoor (common : nd.config = .commonDoor c ws) : nd.edge minute =
    if ws = [] ∨ (ws.any fun w => inWindow w.start w.stop minute) = nd.inside then none
    else some (ws.any fun w => inWindow w.start w.stop minute) := by
  unfold Node.edge Node.compare
  rw [common]
  dsimp only
  cases ws with
  | nil => rfl
  | cons w ws =>
    rw [if_neg (by exact Bool.false_ne_true)]
    exact if_congr (or_iff_right (List.cons_ne_nil w ws)).symm rfl rfl

end

/-- A node whose window state changes, by its mode (R88). -/
theorem compared_edge {nd : Node} {minute : Nat} {inside : Bool} (edge : nd.edge minute = some inside)
    (door : nd.config.isMinibar = false) (elapsed : Nat) : nd.compared minute elapsed = match nd.mode with
      | .normal => if inside then { nd with inside := true, mode := .passage, modePending := true }
        else { nd with inside := false }
      | .passage => if inside then { nd with inside := true }
        else { nd with
          inside := false, mode := .normal, modePending := true
          heldOpen := if nd.door = .opened then
            some { expiry := elapsed + nd.heldOpenLimit * 32768, limit := nd.heldOpenLimit } else nd.heldOpen }
      | .released .secured => { nd with inside := inside }
      | .released _ => { nd with inside := inside, mode := .released (if inside then .passage else .normal) }
      | .secured => { nd with inside := inside } := by
  rw [compared_some edge]
  clear edge
  obtain ⟨config, zone, limit, link, missed, modePending, lampPending, mode, was, grant, cond, latch, heldOpen⟩ := nd
  change config.isMinibar = false at door
  cases mode with
  | normal => cases inside <;> rfl
  | passage =>
    cases inside with
    | false =>
      have timer : (Mode.normal = .normal ∧ Mode.passage ≠ .normal ∧ cond = .opened ∧ config.isMinibar = false) ↔ cond = .opened := by
        simp [door]
      exact congrArg (fun h : Option HeldOpenTimer =>
        (⟨config, zone, limit, link, missed, true, lampPending, .normal, false, grant, cond, latch, h⟩ : Node)) (if_congr timer rfl rfl)
    | true => rfl
  | released k => cases k <;> rfl
  | secured => rfl

theorem compareWindows_asked (s : State) : compareWindows (requestExpiry s) =
    { compareWindows s with keys := (requestExpiry s).keys } := by
  rw [requestExpiry_eq]
  unfold compareWindows
  dsimp only
  split <;> rfl

/-- The part after a minute tick, part by part (R192). -/
theorem passToTick_eq (s : State) : passToTick s = { s with
    supply := s.supply.pass s.supply.toTick
    keys := (requestExpiry s).keys
    nodes := (compareWindows (passPeriods s.supply.toTick s)).nodes
    lines := (compareWindows (passPeriods s.supply.toTick s)).lines
    lamps := if s.inRun then (requestSweep .full s).lamps else s.lamps } := by
  have keys : (requestExpiry (passPeriods s.supply.toTick s)).keys = (requestExpiry s).keys := by
    rw [requestExpiry_eq, requestExpiry_eq]
    rfl
  unfold passToTick deliverTick
  dsimp only
  rw [compareWindows_asked, keys, compareWindows_touches, requestSweep_eq, requestSweep_eq]
  change (if s.inRun = true then _ else _) = _
  split <;> rfl

end Sys2Proof.Machine

namespace Sys2Proof.Settled

open Sys2Proof.Machine

/-- Settles O52. -/
theorem timers : Obligations.Timers := by
  refine ⟨fun n due s run after before => ?_, fun which s => rfl⟩
  intro later
  refine ⟨fun g there is door => ?_, fun g there is bar => ?_, fun x there is mode => ?_, fun x there is mode opened =>
      ⟨heldOpened n later, ?_, node_heldOpened_same n later, fun k ne => node_heldOpened_ne n later ne, heldOpened_touches n later,
        lamps_heldOpened n later, room_heldOpened n later⟩,
    fun x there is opened fresh => ?_, fun is => ?_, fun is => ?_⟩
  · have timer : grantTimer n s = some due := by
      rw [grantTimer, there, is]
      rfl
    exact congrArg Host.Outcome.next ((expireTimer_due run timer timer after before _).trans (expireGrant_door door))
  · have timer : grantTimer n s = some due := by
      rw [grantTimer, there, is]
      rfl
    exact congrArg Host.Outcome.next ((expireTimer_due run timer timer after before _).trans (expireGrant_minibar bar))
  · have timer : heldOpenTimer n s = some due := by
      rw [heldOpenTimer, there, is]
      rfl
    exact congrArg Host.Outcome.next ((expireTimer_due run timer timer after before _).trans
      (expireHeldOpen_stopped (s := later) there mode))
  · have timer : heldOpenTimer n s = some due := by
      rw [heldOpenTimer, there, is]
      rfl
    exact congrArg Host.Outcome.next ((expireTimer_due run timer timer after before _).trans
      (expireHeldOpen_held (s := later) there mode opened))
  · have timer : openLimitTimer n s = some due := by
      rw [openLimitTimer, there]
      exact is
    exact congrArg Host.Outcome.next ((expireTimer_due run timer timer after before _).trans
      (expireOpenLimit_noticed (s := later) there opened fresh))
  · exact congrArg Host.Outcome.next (expireTimer_due (timer := flushTimer) run is is after before _)
  · exact congrArg Host.Outcome.next ((expireTimer_due (timer := blinkTimer) run is is after before _).trans
      (toggleDue_at (s := later) is))

/-- Settles O53. -/
theorem clock : Obligations.Clock := by
  intro time more s
  refine ⟨fun h => ?_, fun lost => congrArg Host.Outcome.next (if_pos lost), fun kept part => ?_⟩
  · have ⟨_, _, idle⟩ := h
    have taken := setClock_eq time (s.begun .service .setClock)
    rw [clockTaken_begun time idle] at taken
    exact congrArg Host.Outcome.next (takeCommand_accepted h (not_truncated (by rfl)) rfl (parseWord_u32 more time) taken)
  · have supply := pass_toTick part
    have eq := passToTick_eq s
    refine ⟨passToTick s, congrArg Host.Outcome.next (if_neg kept), ?_⟩
    rw [eq]
    refine ⟨supply, ?_, ?_, ?_, fun l idle => ?_, fun unset => ?_, fun runs n => ?_⟩
    · rfl
    · exact congrArg State.keys (requestExpiry_eq s)
    · dsimp only
      rw [requestSweep_eq]
      cases s.inRun with
      | false => rfl
      | true =>
        dsimp only
        rw [if_pos rfl, ite_self]
        rfl
    · exact line_compareWindows_idle (s := passPeriods s.supply.toTick s) idle
    · rw [compareWindows_unset (s := passPeriods s.supply.toTick s) unset]
      exact ⟨rfl, rfl⟩
    · have node := node_compareWindows (s := passPeriods s.supply.toTick s) runs n
      refine node.trans ?_
      dsimp only
      split
      · next c ws common =>
        have edge := edge_commonDoor (minute := minuteOfDay (passPeriods s.supply.toTick s).supply.counter) common
        split
        · next stays => exact compared_none (edge.trans (if_pos stays)) _
        · next moves => exact compared_edge (edge.trans (if_neg moves)) (by rw [common]; rfl) _
      · next other => exact compared_none (edge_other (nd := s.node n) other) _

/-- Settles O56. -/
theorem emergencyKeys : Obligations.EmergencyKeys := by
  intro k card zones more s some_
  refine ⟨fun h => ⟨?_, ?_⟩, fun run programming working => ?_⟩
  · have parse := parseWriteEmergency_fields k card some_ more
    have taken := writeEmergency_eq k card zones (s.begun .service .writeEmergencyKey)
    split
    · next blank => exact congrArg Host.Outcome.next (takeCommand_begun h (not_truncated (by rfl)) rfl parse (taken.trans (if_pos blank)))
    · next used => exact congrArg Host.Outcome.next (takeCommand_refused h (not_truncated (by rfl)) rfl parse (taken.trans (if_neg used)))
  · have refused (h' : ∀ card zones, tget s.emergency.slots k ≠ .written card zones) :
        exec (.freezeEmergencyKey .service (u8 k.val ++ more)) s = .next (s.refused .service .freezeEmergencyKey .state) :=
      congrArg Host.Outcome.next (takeCommand_refused h (not_truncated (by rfl)) rfl (parseSlot_u8 more k)
        (freezeEmergency_refused (s := s.begun .service .freezeEmergencyKey) h'))
    cases slot : tget s.emergency.slots k with
    | written c z => exact congrArg Host.Outcome.next (takeCommand_accepted h (not_truncated (by rfl)) rfl (parseSlot_u8 more k)
        (freezeEmergency_written (s := s.begun .service .freezeEmergencyKey) slot))
    | blank => exact refused fun card zones => by rw [slot]; nofun
    | frozen c z => exact refused fun card zones => by rw [slot]; nofun
  · have done := (emergencyProgrammingDone_eq run programming).trans (answerLong_working (s := { s with emergency :=
      { slots := tset s.emergency.slots k (.written card zones), programming := none } }) run working)
    exact ⟨_, congrArg Host.Outcome.next done, rfl, rfl, rfl, rfl, isPending_raise rfl _⟩

end Sys2Proof.Settled
end

section
/-! The statement of the door, bolt and button answers (5.3, 6.3). -/

/- The joined text is checked with bounded memory: proofs are elaborated one after another, not each in a thread of its own. -/
set_option Elab.async false

namespace Sys2Proof.Machine

/-! ### A door event in the node, the rooms and the lamps (R81, R83, R84) -/

/-- The state once a node's door takes a condition and a latch, further fields of the node following, and its room is told. -/
def doorTaken (n : NodeAddr) (d : DoorCond) (latch : Bool) (f : Node → Node) (s : State) : State :=
  handDoor n ((setDoor n d latch s).modNode n f)

section
variable (n : NodeAddr) (d : DoorCond) (latch : Bool) (f : Node → Node) (s : State)

theorem doorTaken_touches : doorTaken n d latch f s = { s with
    nodes := (doorTaken n d latch f s).nodes, rooms := (doorTaken n d latch f s).rooms
    lamps := (doorTaken n d latch f s).lamps } := by
  unfold doorTaken
  rw [handDoor_touches, State.modNode, setDoor_touches]

theorem node_doorTaken_same : (doorTaken n d latch f s).node n = f { s.node n with door := d, latch := latch } := by
  unfold doorTaken State.node
  rw [handDoor_nodes]
  exact (node_modNode_same (setDoor n d latch s) n f).trans (congrArg f (node_setDoor_same ..))

theorem node_doorTaken_ne {k : NodeAddr} (ne : k ≠ n) : (doorTaken n d latch f s).node k = s.node k := by
  unfold doorTaken State.node
  rw [handDoor_nodes]
  exact (node_modNode_ne (setDoor n d latch s) _ ne.symm).trans (node_setDoor_ne ne ..)

theorem room_doorTaken (keeps : ∀ nd, (f nd).door = nd.door) (r : RoomIx) : (doorTaken n d latch f s).room r =
    if s.doorRoom n = some r then { s.room r with door := d } else s.room r := by
  have named : ((setDoor n d latch s).modNode n f).doorRoom n = s.doorRoom n := doorRoom_congr (doorNode_setDoor n d latch s) n
  unfold doorTaken
  rw [room_handDoor, named, node_modNode_same, node_setDoor_same, keeps]
  change (if _ then { (setDoor n d latch s).room r with door := d } else (setDoor n d latch s).room r) = _
  rw [room_setDoor]
  by_cases hit : s.doorRoom n = some r
  · rw [if_pos hit, if_pos hit]
    split <;> rfl
  · rw [if_neg hit, if_neg hit, if_neg (fun h => hit h.1)]

theorem lamps_doorTaken : (doorTaken n d latch f s).alarmHanded s n d latch := by
  have handed := setDoor_alarmHanded n d latch s
  unfold State.alarmHanded State.lamp at handed ⊢
  unfold doorTaken
  rw [handDoor_lamps]
  exact handed

end

/-- What a door event of a polled node leaves, in terms of the state before the answer. -/
theorem doorTaken_heardFrom (n : NodeAddr) (d : DoorCond) (latch : Bool) {f : Node → Node} (keeps : ∀ nd, (f nd).door = nd.door)
    (s : State) :
    let t := doorTaken n d latch f (s.heardFrom n)
    (t = { s with nodes := t.nodes, lines := t.lines, rooms := t.rooms, lamps := t.lamps } ∧ t.alarmHanded s n d latch) ∧
    (∀ k : NodeAddr, k ≠ n → t.node k = s.node k) ∧ t.lines = (s.heardFrom n).lines ∧
    (∀ r : RoomIx, t.room r = if s.doorRoom n = some r then { s.room r with door := d } else s.room r) ∧
    t.node n = f { s.node n with missed := 0, door := d, latch := latch } := by
  intro t
  have touches := doorTaken_touches n d latch f (s.heardFrom n)
  have lines : t.lines = (s.heardFrom n).lines := (congrArg State.lines touches :)
  refine ⟨⟨?_, ?_⟩, fun k ne => ?_, lines, room_doorTaken n d latch f (s.heardFrom n) keeps, ?_⟩
  · rw [lines]
    exact touches
  · have handed := lamps_doorTaken n d latch f (s.heardFrom n)
    unfold State.alarmHanded at handed ⊢
    rw [node_heardFrom_same] at handed
    exact handed
  · exact (node_doorTaken_ne n d latch f (s.heardFrom n) ne).trans
      (node_modNode_ne (s.modLine n.line _) (fun nd => { nd with missed := 0 }) ne.symm)
  · refine (node_doorTaken_same ..).trans ?_
    rw [node_heardFrom_same]

/-! ### Openings and closings -/

theorem opensFreely_iff (nd : Node) :
    nd.opensFreely = true ↔ nd.grant ≠ none ∨ nd.mode = .passage ∨ nd.mode.isReleased = true := by
  unfold Node.opensFreely Mode.isReleased
  cases nd.grant <;> cases nd.mode <;> simp

theorem opensFreely_false {nd : Node} (grant : nd.grant = none) (mode : nd.mode = .normal ∨ nd.mode = .secured) :
    ¬ nd.opensFreely = true := by
  rw [opensFreely_iff, grant]
  rintro (h | h | h)
  · exact h rfl
  all_goals rcases mode with mode | mode <;> rw [mode] at h <;> cases h

/-- The fields of a node that an opening taken as OPEN sets besides the condition. -/
def Node.openedFreely (elapsed : Nat) (nd : Node) : Node :=
  { nd with grant := none, heldOpen := if nd.config.isMinibar then nd.heldOpen else some (startedTimer elapsed nd) }

/-- A held-open timer stopped. -/
def Node.timerStopped (nd : Node) : Node := { nd with heldOpen := none }

theorem handDoor_offer (n : NodeAddr) (o : Offer) (s : State) : handDoor n (offer o s) = offer o (handDoor n s) := by
  refine offer_comm (f := handDoor n) o s ?_ ?_
  · unfold handDoor
    cases s.doorRoom n <;> rfl
  · unfold handDoor
    rw [show (s.graft (offer o s)).doorRoom n = s.doorRoom n from rfl]
    cases s.doorRoom n <;> rfl

theorem handDoor_raise (n : NodeAddr) (p : Port) (c : Cause) (s : State) : handDoor n (raise p c s) = raise p c (handDoor n s) := by
  unfold handDoor
  rw [show (raise p c s).doorRoom n = s.doorRoom n from rfl]
  cases s.doorRoom n <;> rfl

theorem config_handedOn {n : NodeAddr} {s t : State} (same : (t.node n).config = (s.node n).config) (f : State → State) :
    handToCharge n f t = if (s.node n).config.isMinibar = true then f t else t := by
  unfold handToCharge
  rw [same]

theorem takeOpened_free {n : NodeAddr} {s : State} (free : (s.node n).opensFreely = true) (arrival : Stamp) :
    takeOpened n arrival s = handToCharge n (minibarOpened n arrival)
      (doorTaken n .opened (s.node n).latch (Node.openedFreely s.supply.elapsed) s) := by
  unfold takeOpened
  dsimp only
  rw [if_pos free]
  rfl

/-- The state once a forced opening is recorded and raised. -/
def forcedTold (n : NodeAddr) (nd : Node) (arrival : Stamp) (t : State) : State :=
  raise .service .doorAlarm (offer
    { kind := .forced, cls := .alarm, time := arrival, node := some n, room := nd.config.room,
      detail := BitVec.ofNat 16 nd.mode.name.code } t)

theorem takeOpened_forced {n : NodeAddr} {s : State} (forced : ¬ (s.node n).opensFreely = true) (arrival : Stamp) :
    takeOpened n arrival s = handToCharge n (minibarOpened n arrival)
      (forcedTold n (s.node n) arrival (doorTaken n .forced true Node.timerStopped s)) := by
  unfold takeOpened
  dsimp only
  rw [if_neg forced]
  refine congrArg (handToCharge n (minibarOpened n arrival)) ?_
  unfold forceDoor forcedTold doorTaken
  dsimp only
  rw [handDoor_raise, handDoor_offer]
  rfl

theorem node_forcedTold (n : NodeAddr) (nd : Node) (arrival : Stamp) (t : State) (k : NodeAddr) :
    (forcedTold n nd arrival t).node k = t.node k := by
  unfold forcedTold State.node
  rw [raise_nodes, offer_nodes]

theorem takeClosed_eq (n : NodeAddr) (arrival : Stamp) (s : State) :
    takeClosed n arrival s = handToCharge n (minibarClosed n arrival) (doorTaken n .closed (s.node n).latch Node.timerStopped s) := rfl

/-! ### Sessions at a minibar's door (R124, R125, R123) -/

theorem minibarClosed_some {n : NodeAddr} {t : State} {x : Session} (there : t.charge.sessionAt n = some x) (arrival : Stamp) :
    minibarClosed n arrival t = endSession x (offer
      { kind := .minibarClose, cls := .routine, time := arrival, node := some n, room := some x.room, key := some x.key,
        detail := BitVec.ofNat 16 x.linesMade } t) := by
  unfold minibarClosed
  rw [there]

theorem minibarClosed_none {n : NodeAddr} {t : State} (absent : t.charge.sessionAt n = none) (arrival : Stamp) :
    minibarClosed n arrival t = t := by
  unfold minibarClosed
  rw [absent]

/-- The opening as the Charge Unit takes it, by the sessions. -/
theorem minibarOpened_eq {n : NodeAddr} {t : State} {found : Option Session} {elapsed : Nat}
    (there : t.charge.sessionAt n = found) (clock : t.supply.elapsed = elapsed) (arrival : Stamp) : minibarOpened n arrival t =
    match (generalizing := false) found with
    | some x =>
      if x.state = .opening then
        offer { kind := .minibarOpen, cls := .routine, time := arrival, node := some x.node, room := some x.room, key := some x.key,
                detail := match x.folio with | some f => BitVec.ofNat 16 f.val | none => 0xFFFF }
          (putSession { x with state := .opened, time := arrival.getD 0, limitAt := some (elapsed + 600 * 32768) } t)
      else t
    | none => t := by
  unfold minibarOpened
  rw [there]
  subst clock
  cases found with
  | none => rfl
  | some x =>
    dsimp only
    unfold openSession
    obtain ⟨state, room, node, key, folio⟩ := x
    cases state with
    | opening => cases folio <;> rfl
    | opened => rfl

theorem sessionOfRoom_ended (c : ChargeUnit) (r : RoomIx) :
    { c with sessions := c.sessions.filter fun y => decide (y.room ≠ r) }.sessionOfRoom r = none := by
  refine List.find?_eq_none.mpr fun y mem same => ?_
  have other := (List.mem_filter.mp mem).2
  exact of_decide_eq_true other (of_decide_eq_true same)

/-- The end of a session, by its room and its folio. -/
theorem endSession_eq (x : Session) (s : State) : endSession x s =
    let gone : State := { s with charge := { s.charge with
      sessions := s.charge.sessions.filter fun y => decide (y.room ≠ x.room) } }
    let roomed := if (s.room x.room).closing = some .scanDone then vacate x.room gone else gone
    match x.folio with
    | none => roomed
    | some f => settleFolio f roomed := by
  unfold endSession settleRoom
  dsimp only
  rw [sessionOfRoom_ended]
  have settled : ((s.room x.room).closing = some .scanDone ∧ (none : Option Session) = none) ↔
      (s.room x.room).closing = some .scanDone := and_iff_left rfl
  cases x.folio with
  | none => exact if_congr settled rfl rfl
  | some f => exact congrArg (settleFolio f) (if_congr settled rfl rfl)

/-! ### Bolt and button events (R85) -/

theorem ownRoom_heardFrom (s : State) (n : NodeAddr) : (s.heardFrom n).ownRoom n = s.ownRoom n := by
  unfold State.ownRoom
  rw [node_heardFrom_same]
  rfl

theorem ownRoom_eq_none {s : State} {n : NodeAddr}
    (other : ∀ r, (s.node n).config = .roomDoor r → (s.room r).doorNode ≠ some n) : s.ownRoom n = none := by
  cases own : s.ownRoom n with
  | none => rfl
  | some r =>
    obtain ⟨config, named⟩ := (ownRoom_eq_some_iff s n r).mp own
    exact absurd named (other r config)

theorem takeBolt_own {n : NodeAddr} {s : State} {r : RoomIx} (own : s.ownRoom n = some r) (on : Bool) (arrival : Stamp) :
    takeBolt n on arrival s =
      offer { kind := .bolt, cls := .notice, time := arrival, node := some n, room := some r } (setPrivacy r on s) := by
  unfold takeBolt
  rw [own]

theorem takeButton_own {n : NodeAddr} {s : State} {r : RoomIx} (own : s.ownRoom n = some r) :
    takeButton n .makeup s = setMakeup r true s ∧ takeButton n .cancel s = setMakeup r false s ∧
      takeButton n .call s = writePrimary r .call true s := by
  unfold takeButton
  rw [own]
  exact ⟨rfl, rfl, rfl⟩

theorem takeBolt_other {n : NodeAddr} {s : State} (other : s.ownRoom n = none) (on : Bool) (arrival : Stamp) :
    takeBolt n on arrival s = s := by
  unfold takeBolt
  rw [other]

theorem takeButton_other {n : NodeAddr} {s : State} (other : s.ownRoom n = none) (b : Button) : takeButton n b s = s := by
  unfold takeButton
  rw [other]

end Sys2Proof.Machine

namespace Sys2Proof.Settled

open Sys2Proof.Machine

/-- Settles O40. -/
theorem doorAnswers : Obligations.DoorAnswers := by
  refine ⟨fun n s polled door => ?_, fun n s polled => ?_, fun n room cls s polled config => ?_, fun x s => ?_⟩
  · intro nd told
    have heard := node_heardFrom_same s n
    have kept (d : DoorCond) (latch : Bool) (f : Node → Node) (config : ∀ nd, (f nd).config = nd.config) :
        ((doorTaken n d latch f (s.heardFrom n)).node n).config = (s.node n).config := by
      rw [node_doorTaken_same, config, heard]
    have bar : ¬ (s.node n).config.isMinibar = true := by
      rw [door]
      exact Bool.false_ne_true
    refine ⟨fun free => ?_, fun grant mode => ?_, ?_⟩
    · have opens : ((s.heardFrom n).node n).opensFreely = true := by
        rw [heard]
        exact (opensFreely_iff nd).mpr free
      have taken := (exchangeAnswered_polled polled (.door true)).trans (takeOpened_free opens s.now)
      rw [config_handedOn (kept _ _ (Node.openedFreely _) fun _ => rfl), if_neg bar, heard] at taken
      obtain ⟨⟨touches, lamps⟩, others, lines, rooms, node⟩ := doorTaken_heardFrom n .opened nd.latch
        (f := Node.openedFreely s.supply.elapsed) (fun _ => rfl) s
      refine ⟨_, congrArg Host.Outcome.next taken, touches, ⟨others, lines, lamps, rooms⟩, node.trans ?_⟩
      unfold Node.openedFreely
      dsimp only
      rw [if_neg bar]
      rfl
    · have forced : ¬ ((s.heardFrom n).node n).opensFreely = true := by
        rw [heard]
        exact opensFreely_false (nd := { nd with missed := 0 }) grant mode
      have taken := (exchangeAnswered_polled polled (.door true)).trans (takeOpened_forced forced s.now)
      rw [config_handedOn ((congrArg Node.config (node_forcedTold ..)).trans (kept _ _ Node.timerStopped fun _ => rfl)),
        if_neg bar, heard] at taken
      obtain ⟨⟨touches, lamps⟩, others, lines, rooms, node⟩ := doorTaken_heardFrom n .forced true
        (f := Node.timerStopped) (fun _ => rfl) s
      exact ⟨_, congrArg Host.Outcome.next taken, touches, ⟨others, lines, lamps, rooms⟩, node⟩
    · have taken := (exchangeAnswered_polled polled (.door false)).trans (takeClosed_eq n s.now (s.heardFrom n))
      rw [config_handedOn (kept _ _ Node.timerStopped fun _ => rfl), if_neg bar, heard] at taken
      obtain ⟨⟨touches, lamps⟩, others, lines, rooms, node⟩ := doorTaken_heardFrom n .closed nd.latch
        (f := Node.timerStopped) (fun _ => rfl) s
      exact ⟨_, congrArg Host.Outcome.next taken, touches, ⟨others, lines, lamps, rooms⟩, node⟩
  · intro heard flagged
    refine ⟨fun r config named => ?_, fun other => ?_⟩
    · have own : heard.ownRoom n = some r := (ownRoom_heardFrom s n).trans ((ownRoom_eq_some_iff s n r).mpr ⟨config, named⟩)
      obtain ⟨makeup, cancel, call⟩ := takeButton_own own
      exact ⟨fun on => congrArg Host.Outcome.next ((exchangeAnswered_polled polled _).trans (takeBolt_own own on s.now)),
        congrArg Host.Outcome.next ((exchangeAnswered_polled polled _).trans makeup),
        congrArg Host.Outcome.next ((exchangeAnswered_polled polled _).trans cancel),
        congrArg Host.Outcome.next ((exchangeAnswered_polled polled _).trans call)⟩
    · have none_ : heard.ownRoom n = none := (ownRoom_heardFrom s n).trans (ownRoom_eq_none other)
      exact ⟨fun on => congrArg Host.Outcome.next ((exchangeAnswered_polled polled _).trans (takeBolt_other none_ on s.now)),
        fun b => congrArg Host.Outcome.next ((exchangeAnswered_polled polled _).trans (takeButton_other none_ b))⟩
  · intro nd stands session
    have heard := node_heardFrom_same s n
    have kept (d : DoorCond) (latch : Bool) (f : Node → Node) (config : ∀ nd, (f nd).config = nd.config) :
        ((doorTaken n d latch f (s.heardFrom n)).node n).config = (s.node n).config := by
      rw [node_doorTaken_same, config, heard]
    have bar : (s.node n).config.isMinibar = true := by
      rw [config]
      rfl
    have sessioned {t : State} (charge : t.charge = s.charge) (supply : t.supply = s.supply) :
        minibarOpened n s.now t = session t :=
      minibarOpened_eq (by rw [charge]) (congrArg Supply.elapsed supply) s.now
    refine ⟨fun free => ?_, fun grant mode => ?_, ?_⟩
    · have opens : ((s.heardFrom n).node n).opensFreely = true := by
        rw [heard]
        exact (opensFreely_iff nd).mpr free
      obtain ⟨⟨touches, lamps⟩, others, lines, rooms, node⟩ := doorTaken_heardFrom n .opened nd.latch
        (f := Node.openedFreely s.supply.elapsed) (fun _ => rfl) s
      have taken := (exchangeAnswered_polled polled (.door true)).trans (takeOpened_free opens s.now)
      rw [config_handedOn (kept _ _ (Node.openedFreely _) fun _ => rfl), if_pos bar, heard] at taken
      refine ⟨_, congrArg Host.Outcome.next (taken.trans (sessioned ?_ ?_)), ⟨touches, lamps, others, lines, rooms⟩, node.trans ?_⟩
      · exact (congrArg State.charge touches :)
      · exact (congrArg State.supply touches :)
      · unfold Node.openedFreely
        dsimp only
        rw [if_pos bar]
    · have forced : ¬ ((s.heardFrom n).node n).opensFreely = true := by
        rw [heard]
        exact opensFreely_false (nd := { nd with missed := 0 }) grant mode
      obtain ⟨⟨touches, lamps⟩, others, lines, rooms, node⟩ := doorTaken_heardFrom n .forced true
        (f := Node.timerStopped) (fun _ => rfl) s
      have taken := (exchangeAnswered_polled polled (.door true)).trans (takeOpened_forced forced s.now)
      rw [config_handedOn ((congrArg Node.config (node_forcedTold ..)).trans (kept _ _ Node.timerStopped fun _ => rfl)),
        if_pos bar, heard] at taken
      have told : (forcedTold n { s.node n with missed := 0 } s.now (doorTaken n .forced true Node.timerStopped (s.heardFrom n))) =
          raise .service .doorAlarm (offer
            { kind := .forced, cls := .alarm, time := s.now, node := some n, room := some room,
              detail := BitVec.ofNat 16 nd.mode.name.code } (doorTaken n .forced true Node.timerStopped (s.heardFrom n))) := by
        unfold forcedTold
        dsimp only
        rw [config]
        rfl
      rw [told] at taken
      refine ⟨_, congrArg Host.Outcome.next (taken.trans (sessioned ?_ ?_)), ⟨touches, lamps, others, lines, rooms⟩, node⟩
      · rw [raise_charge, offer_charge]
        exact (congrArg State.charge touches :)
      · rw [raise_supply, offer_supply]
        exact (congrArg State.supply touches :)
    · obtain ⟨⟨touches, lamps⟩, others, lines, rooms, node⟩ := doorTaken_heardFrom n .closed nd.latch
        (f := Node.timerStopped) (fun _ => rfl) s
      have taken := (exchangeAnswered_polled polled (.door false)).trans (takeClosed_eq n s.now (s.heardFrom n))
      rw [config_handedOn (kept _ _ Node.timerStopped fun _ => rfl), if_pos bar, heard] at taken
      have charge : (doorTaken n .closed nd.latch Node.timerStopped (s.heardFrom n)).charge = s.charge :=
        (congrArg State.charge touches :)
      refine ⟨_, congrArg Host.Outcome.next (taken.trans ?_), ⟨touches, lamps, others, lines, rooms⟩, node⟩
      cases there : s.charge.sessionAt n with
      | none => exact minibarClosed_none ((congrArg (fun c : ChargeUnit => c.sessionAt n) charge).trans there) s.now
      | some x => exact minibarClosed_some ((congrArg (fun c : ChargeUnit => c.sessionAt n) charge).trans there) s.now
  · refine (endSession_eq x s).trans ?_
    dsimp only
    cases x.folio with
    | none => rfl
    | some f => exact settleFolio_eq f _

end Sys2Proof.Settled
end

section
/-! The statement of missed exchanges (R96, R101 to R105). -/

/- The joined text is checked with bounded memory: proofs are elaborated one after another, not each in a thread of its own. -/
set_option Elab.async false

namespace Sys2Proof.Machine

/-! ### Tables by their records -/

theorem Table.eq_of_get {α : Type} : ∀ {d : Nat} {v w : Table α d}, (∀ i < 2 ^ d, v.get i = w.get i) → v = w
  | 0, .leaf _, .leaf _, h => congrArg Table.leaf (h 0 Nat.one_pos)
  | d + 1, .node lo hi, .node lo' hi', h => by
    have low : lo = lo' := Table.eq_of_get fun i small => by
      simpa only [Table.get, small, if_true] using h i (by rw [Nat.pow_succ]; omega)
    have high : hi = hi' := Table.eq_of_get fun i small => by
      have large : ¬ i + 2 ^ d < 2 ^ d := by omega
      simpa only [Table.get, large, if_false, Nat.add_sub_cancel] using h (i + 2 ^ d) (by rw [Nat.pow_succ]; omega)
    rw [low, high]

theorem Table.count_congr {α : Type} {p : α → Bool} : ∀ {d : Nat} {v w : Table α d},
    (∀ i < 2 ^ d, p (v.get i) = p (w.get i)) → v.count p = w.count p
  | 0, .leaf _, .leaf _, h => if_congr (Bool.eq_iff_iff.mp (h 0 Nat.one_pos)) rfl rfl
  | d + 1, .node lo hi, .node lo' hi', h => by
    have low : lo.count p = lo'.count p := Table.count_congr fun i small => by
      simpa only [Table.get, small, if_true] using h i (by rw [Nat.pow_succ]; omega)
    have high : hi.count p = hi'.count p := Table.count_congr fun i small => by
      have large : ¬ i + 2 ^ d < 2 ^ d := by omega
      simpa only [Table.get, large, if_false, Nat.add_sub_cancel] using h (i + 2 ^ d) (by rw [Nat.pow_succ]; omega)
    unfold Table.count
    rw [low, high]

theorem Table.count_pos {α : Type} {p : α → Bool} : ∀ {d : Nat} {v : Table α d} {i : Nat}, i < 2 ^ d → p (v.get i) = true →
    0 < v.count p
  | 0, .leaf _, _, _, h => Nat.lt_of_lt_of_eq Nat.one_pos (if_pos h).symm
  | d + 1, .node lo hi, i, small, h => by
    unfold Table.count
    by_cases low : i < 2 ^ d
    · have here : p (lo.get i) = true := by simpa only [Table.get, low, if_true] using h
      exact Nat.add_pos_left (Table.count_pos low here) _
    · have there : p (hi.get (i - 2 ^ d)) = true := by simpa only [Table.get, low, if_false] using h
      exact Nat.add_pos_right _ (Table.count_pos (by rw [Nat.pow_succ] at small; omega) there)

theorem tmap_same {α : Type} {d n : Nat} [NeZero n] (hn : n = 2 ^ d) {v : Table α d} {f : Fin n → α → α}
    (same : ∀ i, f i (tget v i) = tget v i) : tmap n v f = v :=
  Table.eq_of_get fun i small => (tget_tmap hn.le v f ⟨i, hn ▸ small⟩).trans (same ⟨i, hn ▸ small⟩)

theorem modNode_same {s : State} {n : NodeAddr} {f : Node → Node} (same : f (s.node n) = s.node n) : s.modNode n f = s := by
  have line : tmod (tget s.nodes n.line) n.addr f = tget s.nodes n.line := tmod_id _ n.addr f same
  exact congrArg (fun v => { s with nodes := v }) (tmod_id s.nodes n.line (fun v => tmod v n.addr f) line)

theorem configuredCount_congr {s t : State} {l : LineIx} (same : ∀ a, (t.node ⟨l, a⟩).config = (s.node ⟨l, a⟩).config) :
    t.configuredCount l = s.configuredCount l :=
  Table.count_congr fun i small => congrArg NodeConfig.configured (same ⟨i, small⟩)

theorem configuredCount_pos {s : State} {n : NodeAddr} (configured : (s.node n).config.configured = true) :
    1 ≤ s.configuredCount n.line :=
  Table.count_pos (v := tget s.nodes n.line) n.addr.isLt configured

/-! ### Causes that stay pending -/

/-- Every cause pending in the first state is pending in the second, and nothing else of the attention registers changes. -/
structure PendingKept (s t : State) : Prop where
  pending : ∀ p c, s.isPending p c = true → t.isPending p c = true
  rest : ∀ p, t.att p = { s.att p with pending := (t.att p).pending }

theorem PendingKept.trans {s t u : State} (h : PendingKept s t) (h' : PendingKept t u) : PendingKept s u where
  pending := fun p c e => h'.pending p c (h.pending p c e)
  rest := fun p => (h'.rest p).trans (by rw [h.rest p])

theorem pendingKept_of_attn {s t : State} (same : t.attn = s.attn) : PendingKept s t where
  pending := fun p c h => by
    unfold State.isPending State.att at h ⊢
    rw [same]
    exact h
  rest := fun p => by
    unfold State.att
    rw [same]

/-- The causes that a change of other parts has left. -/
theorem PendingKept.congr {s t u : State} (h : PendingKept t u) (same : t.attn = s.attn) : PendingKept s u :=
  (pendingKept_of_attn same).trans h

theorem rest_raise (q : Port) (d : Cause) (s : State) (p : Port) :
    (raise q d s).att p = { s.att p with pending := ((raise q d s).att p).pending } := by
  unfold raise
  by_cases same : q = p
  · subst same
    rw [att_modAttn_same]
    split <;> rfl
  · rw [att_modAttn_ne _ _ same]

theorem pendingKept_raise (q : Port) (d : Cause) (s : State) : PendingKept s (raise q d s) where
  pending := fun _ _ => isPending_raise_of
  rest := rest_raise q d s

theorem pendingKept_settleFlush (s : State) : PendingKept s (settleFlush s) := by
  unfold settleFlush
  split
  · split
    · exact pendingKept_of_attn rfl
    · unfold answerLong
      split
      · exact (pendingKept_raise ..).congr rfl
      · exact pendingKept_of_attn rfl
  · exact pendingKept_of_attn rfl

theorem pendingKept_offer (o : Offer) (s : State) : PendingKept s (offer o s) := by
  unfold offer
  dsimp only
  split
  · exact pendingKept_of_attn rfl
  · split
    · exact (PendingKept.trans (pendingKept_raise ..) (pendingKept_settleFlush _)).congr rfl
    · exact (pendingKept_settleFlush _).congr rfl

theorem pendingKept_settleFolio (f : FolioIx) (s : State) : PendingKept s (settleFolio f s) := by
  unfold settleFolio
  split
  · exact ((pendingKept_raise ..).trans (pendingKept_raise ..)).congr rfl
  · exact pendingKept_of_attn rfl

theorem pendingKept_vacate (r : RoomIx) (s : State) : PendingKept s (vacate r s) := by
  have removed : PendingKept s (removeFromFolio (s.room r).folio r (s.modRoom r Room.vacated)) := by
    unfold removeFromFolio
    split
    · exact (pendingKept_settleFolio ..).congr rfl
    · exact pendingKept_of_attn rfl
  rw [vacate_eq]
  exact removed.trans ((pendingKept_raise ..).congr rfl)

theorem pendingKept_endSession (x : Session) (s : State) : PendingKept s (endSession x s) := by
  rw [endSession_eq]
  dsimp only
  have gone : PendingKept s { s with charge := { s.charge with
      sessions := s.charge.sessions.filter fun y => decide (y.room ≠ x.room) } } := pendingKept_of_attn rfl
  have roomed : PendingKept s (if (s.room x.room).closing = some .scanDone then vacate x.room { s with charge := { s.charge with
      sessions := s.charge.sessions.filter fun y => decide (y.room ≠ x.room) } } else { s with charge := { s.charge with
      sessions := s.charge.sessions.filter fun y => decide (y.room ≠ x.room) } }) := by
    split
    · exact (pendingKept_vacate ..).congr rfl
    · exact gone
  split
  · exact roomed
  · exact roomed.trans (pendingKept_settleFolio ..)

theorem pendingKept_abandonSessions (which : NodeAddr → Bool) (s : State) : PendingKept s (abandonSessions which s) := by
  unfold abandonSessions
  generalize (s.charge.sessions.filter fun x => which x.node) = xs
  induction xs generalizing s with
  | nil => exact pendingKept_of_attn rfl
  | cons x xs ih => exact ((pendingKept_offer ..).trans (pendingKept_endSession ..)).trans (ih _)

theorem pendingKept_settleSweep (s : State) : PendingKept s (settleSweep s) := by
  unfold settleSweep
  split
  · exact (pendingKept_raise ..).congr rfl
  · exact pendingKept_of_attn rfl

theorem pendingKept_clearLampMarks (which : NodeAddr → Bool) (s : State) : PendingKept s (clearLampMarks which s) :=
  (pendingKept_settleSweep _).congr rfl

/-! ### Sessions abandoned: what stays -/

theorem abandonSessions_touches (which : NodeAddr → Bool) (s : State) : abandonSessions which s = { s with
    ports := (abandonSessions which s).ports, attn := (abandonSessions which s).attn, rooms := (abandonSessions which s).rooms
    charge := (abandonSessions which s).charge, journal := (abandonSessions which s).journal
    lamps := (abandonSessions which s).lamps } := by
  unfold abandonSessions
  generalize (s.charge.sessions.filter fun x => which x.node) = xs
  induction xs generalizing s with
  | nil => rfl
  | cons x xs ih =>
    rw [List.foldl_cons]
    exact (ih (abandonSession s x)).trans (by rw [abandonSession_keys, abandonSession_verdict, abandonSession_nodes,
      abandonSession_lines, abandonSession_supply, abandonSession_emergency, abandonSession_pending])

/-! ### Lamp marks cleared -/

/-- Lines stand where no exchange with a node concerned is in flight. -/
theorem lines_clearLampMarks_idle {which : NodeAddr → Bool} {s : State}
    (idle : ∀ l a, which ⟨l, a⟩ = true → (s.line l).exchange = none) : (clearLampMarks which s).lines = s.lines := by
  unfold clearLampMarks
  rw [settleSweep_lines]
  change tmap 16 s.lines (fun l ln => ln.remarkLamps (fun a => which ⟨l, a⟩) false) = s.lines
  refine tmap_same (d := 4) (n := 16) (by decide) fun l => ?_
  change (s.line l).remarkLamps (fun a => which ⟨l, a⟩) false = s.line l
  unfold Line.remarkLamps
  split
  · next x flying =>
    split
    · exact if_neg fun concerned => by rw [idle l x.addr concerned] at flying; cases flying
    · rfl
  · rfl

theorem lamp_clearLampMarks (which : NodeAddr → Bool) (s : State) (r : RoomIx) : (clearLampMarks which s).lamp r = s.lamp r := by
  unfold State.lamp clearLampMarks
  rw [entries_settleSweep]

/-! ### Nodes that leave service (R86) -/

theorem node_leaveService (which : NodeAddr → Bool) (s : State) (m : NodeAddr) : (leaveService which s).node m =
    if which m then { s.node m with grant := none, heldOpen := none, door := .unknown } else s.node m :=
  node_mapNodes s (fun n nd => if which n then { nd with grant := none, heldOpen := none, door := .unknown } else nd) m

section
variable {which : NodeAddr → Bool} {s : State} {r : RoomIx}

theorem room_leaveService_named {n : NodeAddr} (named : (s.room r).doorNode = some n) : (leaveService which s).room r =
    if which n then { s.room r with door := .unknown } else s.room r := by
  unfold State.room at named ⊢
  unfold leaveService
  rw [tget_tmap (by decide)]
  simp only [named]

theorem room_leaveService_unnamed (unnamed : (s.room r).doorNode = none) : (leaveService which s).room r = s.room r := by
  unfold State.room at unnamed ⊢
  unfold leaveService
  rw [tget_tmap (by decide)]
  simp only [unnamed]

theorem lamp_leaveService_named {n : NodeAddr} (named : (s.room r).doorNode = some n) : (leaveService which s).lamp r =
    if which n = true ∧ (s.node n).door ≠ .unknown then
      { s.lamp r with primary := { (s.lamp r).primary with alarm := (s.node n).latch } } else s.lamp r := by
  unfold State.lamp leaveService
  rw [tget_tmap (by decide)]
  simp only [named]
  exact if_congr (by rw [Bool.and_eq_true, decide_eq_true_iff]) rfl rfl

theorem lamp_leaveService_unnamed (unnamed : (s.room r).doorNode = none) : (leaveService which s).lamp r = s.lamp r := by
  unfold State.lamp leaveService
  rw [tget_tmap (by decide)]
  simp only [unnamed]

end

/-! ### A node goes OFFLINE (R104) -/

theorem offer_modNode (o : Offer) (n : NodeAddr) (f : Node → Node) (s : State) :
    offer o (s.modNode n f) = (offer o s).modNode n f :=
  (offer_comm (f := fun t => t.modNode n f) o s rfl rfl).symm

/-- The state once a node's going OFFLINE is recorded and raised. -/
def offlineTold (n : NodeAddr) (s : State) : State :=
  raise .service .nodeOffline (offer
    { kind := .nodeOffline, cls := .notice, time := s.now, node := some n, room := (s.node n).config.room }
    (s.modNode n fun nd => { nd with link := .offline }))

theorem goOffline_eq (n : NodeAddr) (s : State) : goOffline n s =
    clearLampMarks (fun m => decide (m = n)) (abandonSessions (fun m => decide (m = n))
      (leaveService (fun m => decide (m = n)) (offlineTold n s))) := rfl

theorem offlineTold_touches (n : NodeAddr) (s : State) : offlineTold n s = { s with
    nodes := (s.modNode n fun nd => { nd with link := .offline }).nodes
    ports := (offlineTold n s).ports, attn := (offlineTold n s).attn, journal := (offlineTold n s).journal } := by
  have offered := offer_touches { kind := .nodeOffline, cls := .notice, time := s.now, node := some n, room := (s.node n).config.room }
    (s.modNode n fun nd => { nd with link := .offline })
  exact congrArg (raise .service .nodeOffline) offered

theorem node_goOffline (n : NodeAddr) (s : State) (m : NodeAddr) : (goOffline n s).node m =
    if m = n then { s.node n with
      link := .offline, grant := none, heldOpen := none, door := .unknown, lampPending := false } else s.node m := by
  have left : (goOffline n s).node m = if decide (m = n) = true then
      { (leaveService (fun m => decide (m = n)) (offlineTold n s)).node m with lampPending := false }
      else (leaveService (fun m => decide (m = n)) (offlineTold n s)).node m := by
    rw [goOffline_eq, node_clearLampMarks]
    unfold State.node
    rw [abandonSessions_touches]
  have told (k : NodeAddr) : (offlineTold n s).node k = (s.modNode n fun nd => { nd with link := .offline }).node k := by
    unfold State.node
    rw [offlineTold_touches]
  rw [left, node_leaveService, told]
  by_cases same : m = n
  · subst same
    simp only [decide_true, if_true, node_modNode_same]
  · simp only [same, decide_false, Bool.false_eq_true, if_false]
    exact node_modNode_ne s _ (Ne.symm same)

/-- The third miss takes a node OFFLINE. -/
theorem lapsed_goOffline {n : NodeAddr} {s : State} (idle : (s.line n.line).exchange = none) :
    s.lapsed n (goOffline n (s.modNode n fun nd => { nd with missed := 3 })) := by
  let this (m : NodeAddr) : Bool := decide (m = n)
  let counted := s.modNode n fun nd => { nd with missed := 3 }
  let told := offlineTold n counted
  let u := leaveService this told
  let left := abandonSessions this u
  have eq : goOffline n counted = clearLampMarks this left := goOffline_eq n counted
  have toldTouches := offlineTold_touches n counted
  have leftTouches := abandonSessions_touches this u
  have node := node_goOffline n counted
  have lamps (r : RoomIx) : told.lamp r = s.lamp r := (congrArg (fun t : State => t.lamp r) toldTouches :)
  have rooms (r : RoomIx) : told.room r = s.room r := (congrArg (fun t : State => t.room r) toldTouches :)
  have leftLines : left.lines = s.lines := (congrArg State.lines leftTouches).trans (congrArg State.lines toldTouches :)
  have lines : (clearLampMarks this left).lines = s.lines := by
    refine (lines_clearLampMarks_idle fun l a concerned => ?_).trans leftLines
    have same : (⟨l, a⟩ : NodeAddr) = n := of_decide_eq_true concerned
    subst same
    unfold State.line
    rw [leftLines]
    exact idle
  have toldNode : told.node n = { s.node n with missed := 3, link := .offline } := by
    refine (congrArg (fun t : State => t.node n) toldTouches :).trans ?_
    change (counted.modNode n fun nd => { nd with link := .offline }).node n = _
    rw [node_modNode_same, node_modNode_same]
  refine ⟨?_, fun m ne => ?_, (congrArg State.lines eq).trans lines, ?_, ?_, ?_, ?_, ?_, ?_, ?_, u, ?_, ?_, fun r => ?_, fun r => ?_,
    ?_, ?_, ?_, ?_, fun r => ?_⟩
  · rw [node, if_pos rfl, node_modNode_same]
  · rw [node, if_neg ne]
    exact node_modNode_ne s _ (Ne.symm ne)
  · rw [eq, clearLampMarks_keys]
    exact (congrArg State.keys leftTouches).trans (congrArg State.keys toldTouches :)
  · rw [eq, clearLampMarks_verdict]
    exact (congrArg State.verdict leftTouches).trans (congrArg State.verdict toldTouches :)
  · rw [eq, clearLampMarks_supply]
    exact (congrArg State.supply leftTouches).trans (congrArg State.supply toldTouches :)
  · rw [eq, clearLampMarks_emergency]
    exact (congrArg State.emergency leftTouches).trans (congrArg State.emergency toldTouches :)
  · rw [eq, clearLampMarks_pending]
    exact (congrArg State.pending leftTouches).trans (congrArg State.pending toldTouches :)
  · rw [eq, outstanding_clearLampMarks]
    exact fun there => by simpa [this] using (List.mem_filter.mp there).2
  · rw [eq]
    have pends : told.isPending .service .nodeOffline = true := isPending_raise rfl _
    have abandoned : PendingKept told left := (pendingKept_abandonSessions this u).congr rfl
    exact (abandoned.trans (pendingKept_clearLampMarks this left)).pending _ _ pends
  · exact (congrArg State.charge toldTouches :)
  · exact (congrArg State.supply toldTouches :)
  · cases named : (s.room r).doorNode with
    | none =>
      rw [room_leaveService_unnamed ((congrArg Room.doorNode (rooms r)).trans named), rooms]
      exact (if_neg nofun).symm
    | some m =>
      rw [room_leaveService_named ((congrArg Room.doorNode (rooms r)).trans named), rooms]
      exact if_congr (decide_eq_true_iff.trans Option.some_inj.symm) rfl rfl
  · cases named : (s.room r).doorNode with
    | none =>
      rw [lamp_leaveService_unnamed ((congrArg Room.doorNode (rooms r)).trans named), lamps]
      exact (if_neg nofun).symm
    | some m =>
      rw [lamp_leaveService_named ((congrArg Room.doorNode (rooms r)).trans named), lamps]
      by_cases same : m = n
      · subst same
        rw [toldNode]
        exact if_congr (and_congr_left fun _ => ⟨fun _ => rfl, fun _ => decide_eq_true rfl⟩) rfl rfl
      · rw [if_neg fun h => same (of_decide_eq_true h.1), if_neg fun h => same (Option.some.inj h.1)]
  · change (offer _ (counted.modNode n fun nd => { nd with link := .offline })).journal = _
    rw [offer_modNode, offer_modNode, node_modNode_same]
    rfl
  · rw [eq, clearLampMarks_charge]
  · rw [eq, clearLampMarks_rooms]
  · rw [eq, clearLampMarks_journal]
  · rw [eq]
    exact lamp_clearLampMarks this left r

/-! ### Misses (R96, R99 to R105) -/

section
variable {n : NodeAddr} {s : State}

theorem linkMissed_third (configured : (s.node n).config.configured = true) (reached : (s.node n).link ≠ .offline)
    (missed : 2 ≤ (s.node n).missed) (idle : (s.line n.line).exchange = none) : s.lapsed n (linkMissed n s) := by
  have counted : (s.modNode n fun nd => { nd with missed := satTo 3 nd.missed }) =
      s.modNode n fun nd => { nd with missed := 3 } :=
    modNode_congr (congrArg (fun k => { s.node n with missed := k }) (min_eq_right (Nat.succ_le_succ missed)))
  have open_ : ¬ ((s.node n).config.configured = false ∨ (s.node n).link = .offline) := by
    rw [configured]
    exact fun h => h.elim nofun reached
  unfold linkMissed
  dsimp only
  rw [if_neg open_, if_pos (Nat.succ_le_succ missed), counted]
  exact lapsed_goOffline idle

theorem linkMissed_counted (few : (s.node n).config = .none ∨ (s.node n).missed < 2 ∨ (s.node n).link = .offline) :
    linkMissed n s = s.modNode n fun nd =>
      if nd.config = .none ∨ nd.link = .offline then nd else { nd with missed := min (nd.missed + 1) 3 } := by
  have left : ((s.node n).config.configured = false ∨ (s.node n).link = .offline) ↔
      ((s.node n).config = .none ∨ (s.node n).link = .offline) := by
    rw [← Bool.not_eq_true, configured_iff, not_ne_iff]
  unfold linkMissed
  dsimp only
  by_cases stands : (s.node n).config = .none ∨ (s.node n).link = .offline
  · rw [if_pos (left.mpr stands)]
    refine (modNode_same ?_).symm
    exact if_pos stands
  · have below : ¬ 3 ≤ (s.node n).missed + 1 := by
      rw [or_left_comm] at few
      have := few.resolve_right stands
      omega
    rw [if_neg (mt left.mp stands), if_neg below]
    exact modNode_congr (if_neg stands).symm

/-- The exchange on a line that ends with nothing, or with a frame that is rejected. -/
theorem exec_missed {event : Instr} {bad : Bool} {x : Exchange} (run : s.inRun = true)
    (waits : (s.line n.line).exchange = some x) (addr : x.addr = n.addr)
    (h : (event = .answerWindowExpiry n.line ∧ bad = false) ∨
      (bad = true ∧ ∃ frame, answerOf n.addr frame = none ∧ event = .invalidAnswer n.line frame)) :
    exec event s = .next (exchangeMissed n.line bad s) := by
  rcases h with ⟨rfl, rfl⟩ | ⟨rfl, frame, rejected, rfl⟩
  · rfl
  · have on : s.exchangeOn n.line = some x := by
      unfold State.exchangeOn
      rw [if_pos run, waits]
    refine congrArg Host.Outcome.next ?_
    unfold frameReceived
    rw [on]
    dsimp only
    rw [addr, rejected]

/-- The state once the line has counted a miss. -/
def missCounted (l : LineIx) (bad turn : Bool) (s : State) : State := s.modLine l fun ln =>
  { ln with
    exchange := none, missedTotal := min (ln.missedTotal + 1) 65535
    badTotal := if bad then min (ln.badTotal + 1) 65535 else ln.badTotal
    silent := if turn then min (ln.silent + 1) 64 else ln.silent }

theorem exchangeMissed_eq {x : Exchange} (run : s.inRun = true) (waits : (s.line n.line).exchange = some x)
    (addr : x.addr = n.addr) (bad : Bool) : exchangeMissed n.line bad s =
      let turn := x.frame.isTurn && (s.node n).config.configured
      let linked := linkMissed n (frameMissed n x (missCounted n.line bad turn s))
      if turn then faultTest n.line linked else linked := by
  have on : s.exchangeOn n.line = some x := by
    unfold State.exchangeOn
    rw [if_pos run, waits]
  have counted (turn : Bool) : (endExchange n.line s).modLine n.line (fun ln => ln.missed bad turn) = missCounted n.line bad turn s :=
    modLine_modLine ..
  unfold exchangeMissed
  rw [on]
  dsimp only
  rw [addr, counted]

/-- A frame that is valid is the answer it is. -/
theorem frameReceived_polled (polled : s.polls n) {frame : List Byte} {a : Answer} (is : answerOf n.addr frame = some a) :
    frameReceived n.line frame s = exchangeAnswered n.line a s := by
  obtain ⟨run, waits, -, -⟩ := polled
  have on : s.exchangeOn n.line = some ⟨n.addr, .poll, false⟩ := by
    unfold State.exchangeOn
    rw [if_pos run, waits]
  unfold frameReceived
  rw [on]
  dsimp only
  rw [is]

theorem isTurn_iff (f : OutFrame) : f.isTurn = true ↔ f = .poll ∨ ∃ sent, f = .lamps sent := by
  cases f <;> simp [OutFrame.isTurn]

theorem frameMissed_turn {x : Exchange} (turn : x.frame = .poll ∨ ∃ sent, x.frame = .lamps sent) : frameMissed n x s = s := by
  unfold frameMissed
  rcases turn with frame | ⟨sent, frame⟩
  all_goals rw [frame]

theorem exchangeMissed_turn {x : Exchange} (run : s.inRun = true) (waits : (s.line n.line).exchange = some x)
    (addr : x.addr = n.addr) (turn : x.frame = .poll ∨ ∃ sent, x.frame = .lamps sent)
    (configured : (s.node n).config.configured = true) (bad : Bool) :
    exchangeMissed n.line bad s = faultTest n.line (linkMissed n (missCounted n.line bad true s)) := by
  have eq := exchangeMissed_eq run waits addr bad
  rw [(isTurn_iff _).mpr turn, configured] at eq
  exact eq.trans (congrArg (fun t => faultTest n.line (linkMissed n t)) (frameMissed_turn turn))

theorem exchangeMissed_other {x : Exchange} (run : s.inRun = true) (waits : (s.line n.line).exchange = some x)
    (addr : x.addr = n.addr) (other : (x.frame.isTurn && (s.node n).config.configured) = false) (bad : Bool) :
    exchangeMissed n.line bad s = linkMissed n (frameMissed n x (missCounted n.line bad false s)) := by
  have eq := exchangeMissed_eq run waits addr bad
  rw [other] at eq
  exact eq

theorem frameMissed_mode {x : Exchange} {m : ModeName} (frame : x.frame = .mode m) : frameMissed n x s = s := by
  unfold frameMissed
  rw [frame]

theorem frameMissed_busyReply {x : Exchange} (frame : x.frame = .busyReply) :
    frameMissed n x s = s.modLine n.line fun ln => { ln with busy := none } := by
  unfold frameMissed
  rw [frame]
  rfl

/-- The state once a verdict whose answer was missed has left its queue. -/
def unconfirmed (l : LineIx) (v : QueuedVerdict) (time : Stamp) (t : State) : State :=
  if v.verdict.outcome = .grant then offer
    { kind := .verdictUnconfirmed, cls := .notice, time := time, node := some ⟨l, v.addr⟩, card := v.card, key := v.key,
      reason := some (.verdict v.verdict.reason) } t
  else t

theorem node_unconfirmed (l : LineIx) (v : QueuedVerdict) (time : Stamp) (t : State) (k : NodeAddr) :
    (unconfirmed l v time t).node k = t.node k := by
  unfold unconfirmed State.node
  split
  · rw [offer_nodes]
  · rfl

theorem line_unconfirmed (l : LineIx) (v : QueuedVerdict) (time : Stamp) (t : State) (k : LineIx) :
    (unconfirmed l v time t).line k = t.line k := by
  unfold unconfirmed State.line
  split
  · rw [offer_lines]
  · rfl

theorem unconfirmed_modNode (l : LineIx) (v : QueuedVerdict) (time : Stamp) (t : State) (k : NodeAddr) (f : Node → Node) :
    unconfirmed l v time (t.modNode k f) = (unconfirmed l v time t).modNode k f := by
  unfold unconfirmed
  split
  · exact offer_modNode ..
  · rfl

theorem frameMissed_verdict {x : Exchange} {o : VerdictOutcome} {v : QueuedVerdict} {rest : List QueuedVerdict}
    (frame : x.frame = .verdict o) (queued : (s.line n.line).verdicts = v :: rest) :
    frameMissed n x s = unconfirmed n.line v s.now (popVerdict n.line s) := by
  unfold frameMissed verdictMissed
  rw [frame, queued]
  dsimp only [List.head?]
  cases outcome : v.verdict.outcome with
  | grant => exact (if_pos (c := v.verdict.outcome = .grant) outcome).symm
  | deny => exact (if_neg (c := v.verdict.outcome = .grant) (by rw [outcome]; decide)).symm

theorem faultTest_of {l : LineIx} {ln : Line} {k : Nat} (line : s.line l = ln) (count : s.configuredCount l = k) : faultTest l s =
    if ln.state = .running ∧ 1 ≤ k ∧ k ≤ ln.silent then
      raise .service .lineFault (offer
        { kind := .lineFault, cls := .alarm, time := s.now, detail := Config.lineFaultDetail l k }
        (s.modLine l fun ln => { ln with state := .fault }))
    else s := by
  subst line count
  rfl

theorem line_missCounted (l : LineIx) (bad turn : Bool) (s : State) : (missCounted l bad turn s).line l =
    { s.line l with
      exchange := none, missedTotal := min ((s.line l).missedTotal + 1) 65535
      badTotal := if bad then min ((s.line l).badTotal + 1) 65535 else (s.line l).badTotal
      silent := if turn then min ((s.line l).silent + 1) 64 else (s.line l).silent } :=
  line_modLine_same ..

end

theorem configuredCount_modNode {s : State} {n : NodeAddr} {f : Node → Node} (same : ∀ nd, (f nd).config = nd.config) (l : LineIx) :
    (s.modNode n f).configuredCount l = s.configuredCount l := by
  refine configuredCount_congr fun a => ?_
  by_cases h : n = ⟨l, a⟩
  · subst h
    rw [node_modNode_same]
    exact same _
  · rw [node_modNode_ne s f h]

theorem configuredCount_lapsed {s t : State} {n : NodeAddr} (h : s.lapsed n t) (l : LineIx) :
    t.configuredCount l = s.configuredCount l := by
  obtain ⟨here, others, -⟩ := h
  refine configuredCount_congr fun a => ?_
  by_cases same : (⟨l, a⟩ : NodeAddr) = n
  · subst same
    rw [here]
  · rw [others _ same]

end Sys2Proof.Machine

namespace Sys2Proof.Settled

open Sys2Proof.Machine

/-- Settles O41. -/
theorem missedAnswer : Obligations.MissedAnswer := by
  refine ⟨fun n x s run waits addr turn configured => ?_, fun n x event bad s run waits addr configured missed reached h => ?_,
    fun n x event bad s run waits addr few h => ?_, fun n x s run waits addr none_ turn => ?_,
    fun n frame s polled => ⟨fun card side is => ?_, fun is => ?_⟩⟩
  · intro counted falls fault
    have missed (bad : Bool) (few : (s.node n).missed < 2 ∨ (s.node n).link = .offline) :
        exchangeMissed n.line bad s = faultTest n.line (counted bad) := by
      refine (exchangeMissed_turn run waits addr turn configured bad).trans (congrArg (faultTest n.line) ?_)
      refine (linkMissed_counted (s := missCounted n.line bad true s) (.inr few)).trans (modNode_congr ?_)
      exact if_congr (or_iff_right ((configured_iff _).mp configured)) rfl rfl
    have test (bad : Bool) := faultTest_of (s := counted bad) (line_missCounted n.line bad true s)
      (configuredCount_modNode (s := missCounted n.line bad true s) (fun nd => by split <;> rfl) n.line)
    have invalid (frame : List Byte) (rejected : answerOf n.addr frame = none) :=
      exec_missed run waits addr (.inr ⟨rfl, frame, rejected, rfl⟩)
    refine ⟨fun few => ⟨fun stands => ⟨?_, fun frame rejected => ?_⟩, fun falls => ?_⟩, fun few falls frame rejected => ?_⟩
    · exact congrArg Host.Outcome.next ((missed false few).trans ((test false).trans (if_neg stands)))
    · exact (invalid frame rejected).trans
        (congrArg Host.Outcome.next ((missed true few).trans ((test true).trans (if_neg stands))))
    · exact congrArg Host.Outcome.next ((missed false few).trans ((test false).trans (if_pos falls)))
    · exact (invalid frame rejected).trans
        (congrArg Host.Outcome.next ((missed true few).trans ((test true).trans (if_pos falls))))
  · intro ended
    have exec_ := exec_missed run waits addr h
    have idle (turn : Bool) : ((ended turn).line n.line).exchange = none :=
      congrArg Line.exchange (line_missCounted n.line bad turn s)
    refine ⟨fun turn => ?_, fun m frame => ?_, fun frame => ?_, fun o v rest frame queued => ?_⟩
    · have lapsed := linkMissed_third (s := ended true) configured reached missed (idle true)
      refine ⟨_, lapsed, exec_.trans (congrArg Host.Outcome.next ?_)⟩
      refine (exchangeMissed_turn run waits addr turn configured bad).trans ?_
      have count : (linkMissed n (ended true)).configuredCount n.line = s.configuredCount n.line :=
        configuredCount_lapsed lapsed n.line
      obtain ⟨-, -, lines, -, -, supply, -⟩ := lapsed
      have line : (linkMissed n (ended true)).line n.line = (ended true).line n.line := congrArg (fun v => tget v n.line) lines
      have now := now_congr supply
      refine (faultTest_of (line.trans (line_missCounted n.line bad true s)) count).trans ?_
      rw [now]
      exact if_congr (and_congr_right fun _ => and_iff_right (configuredCount_pos configured)) rfl rfl
    · have eq := exchangeMissed_other run waits addr (by rw [frame]; rfl) bad
      rw [frameMissed_mode frame] at eq
      exact ⟨_, linkMissed_third (s := ended false) configured reached missed (idle false),
        exec_.trans (congrArg Host.Outcome.next eq)⟩
    · have eq := exchangeMissed_other run waits addr (by rw [frame]; rfl) bad
      rw [frameMissed_busyReply frame] at eq
      refine ⟨_, linkMissed_third (s := (ended false).modLine n.line fun ln => { ln with busy := none }) configured reached missed ?_,
        exec_.trans (congrArg Host.Outcome.next eq)⟩
      rw [line_modLine_same]
      exact idle false
    · intro gone
      have head := (congrArg Line.verdicts (line_missCounted n.line bad false s)).trans queued
      have eq := exchangeMissed_other run waits addr (by rw [frame]; rfl) bad
      rw [frameMissed_verdict frame head, popVerdict_cons head] at eq
      have third := linkMissed_third (n := n) (s := unconfirmed n.line v s.now gone)
      rw [node_unconfirmed, line_unconfirmed] at third
      refine ⟨_, third configured reached missed ?_, exec_.trans (congrArg Host.Outcome.next eq)⟩
      refine (congrArg Line.exchange (line_modLine_same (ended false) n.line fun ln => { ln with verdicts := rest })).trans ?_
      exact idle false
  · intro counted
    have exec_ := exec_missed run waits addr h
    refine ⟨fun m frame => ?_, fun frame => ?_, fun o v rest frame queued => ?_⟩
    · have eq := exchangeMissed_other run waits addr (by rw [frame]; rfl) bad
      rw [frameMissed_mode frame] at eq
      exact exec_.trans (congrArg Host.Outcome.next (eq.trans (linkMissed_counted (s := missCounted n.line bad false s) few)))
    · have eq := exchangeMissed_other run waits addr (by rw [frame]; rfl) bad
      rw [frameMissed_busyReply frame] at eq
      exact exec_.trans (congrArg Host.Outcome.next (eq.trans (linkMissed_counted
        (s := (missCounted n.line bad false s).modLine n.line fun ln => { ln with busy := none }) few)))
    · have head := (congrArg Line.verdicts (line_missCounted n.line bad false s)).trans queued
      have eq := exchangeMissed_other run waits addr (by rw [frame]; rfl) bad
      rw [frameMissed_verdict frame head, popVerdict_cons head] at eq
      have few' := linkMissed_counted (n := n) (s := unconfirmed n.line v s.now { (missCounted n.line bad false s).modLine n.line
        fun ln => { ln with verdicts := rest } with
          verdict := if v.remote then s.verdict else { s.verdict with
            queue := s.verdict.queue.eraseP fun y => decide (y.node.line = n.line) && y.verdict.isSome } })
      rw [node_unconfirmed, ← unconfirmed_modNode] at few'
      exact ⟨_, exec_.trans (congrArg Host.Outcome.next (eq.trans (few' few))), rfl⟩
  · intro counted
    have missed (bad : Bool) : exchangeMissed n.line bad s = counted bad := by
      refine (exchangeMissed_other run waits addr (by rw [none_]; exact Bool.and_false _) bad).trans ?_
      rw [frameMissed_turn turn]
      refine (linkMissed_counted (s := missCounted n.line bad false s) (.inl none_)).trans (modNode_same ?_)
      exact if_pos (.inl none_)
    exact ⟨congrArg Host.Outcome.next (missed false), fun frame rejected =>
      (exec_missed run waits addr (.inr ⟨rfl, frame, rejected, rfl⟩)).trans (congrArg Host.Outcome.next (missed true))⟩
  · exact congrArg Host.Outcome.next (frameReceived_polled polled is)
  · exact congrArg Host.Outcome.next (frameReceived_polled polled is)

end Sys2Proof.Settled
end

section
/-! The statement of the line commands (R106 to R108). -/

/- The joined text is checked with bounded memory: proofs are elaborated one after another, not each in a thread of its own. -/
set_option Elab.async false

namespace Sys2Proof.Machine

/-! ### Records offered one after another -/

/-- Some records offered in order. -/
def offers (os : List Offer) (s : State) : State := os.foldl (fun u o => offer o u) s

theorem offers_graft (os : List Offer) (t s : State) : offers os (t.graft s) = t.graft (offers os s) := by
  unfold offers
  induction os generalizing s with
  | nil => rfl
  | cons o os ih =>
    rw [List.foldl_cons, List.foldl_cons, offer_graft]
    exact ih (offer o s)

theorem offers_touches (os : List Offer) (s : State) : offers os s = { s with
    ports := (offers os s).ports, attn := (offers os s).attn, journal := (offers os s).journal } := by
  unfold offers
  induction os generalizing s with
  | nil => rfl
  | cons o os ih =>
    rw [List.foldl_cons]
    exact (ih (offer o s)).trans (by rw [offer_rooms, offer_keys, offer_verdict, offer_nodes, offer_lines, offer_charge,
      offer_lamps, offer_supply, offer_emergency, offer_pending])

section
variable {s : State} (idle : (s.port .service).phase.isWorking = false)
include idle

theorem ports_answerLong_idle (c : Command) (r : Reply) : (answerLong c r s).ports = s.ports := by
  have other : ¬ (s.inRun = true ∧ (s.port .service).phase = .working c) := by
    rintro ⟨-, working⟩
    rw [working] at idle
    cases idle
  exact congrArg State.ports (if_neg other)

theorem ports_offer_idle (o : Offer) : (offer o s).ports = s.ports := by
  have settled (t : State) (same : t.ports = s.ports) : (settleFlush t).ports = s.ports := by
    have idle' : (t.port .service).phase.isWorking = false := by
      unfold State.port
      rw [same]
      exact idle
    unfold settleFlush
    split
    · split
      · exact same
      · exact (ports_answerLong_idle (s := { t with journal := { t.journal with flush := none } }) idle' ..).trans same
    · exact same
  unfold offer
  dsimp only
  split
  · rfl
  · split
    · exact settled _ rfl
    · exact settled _ rfl

theorem ports_offers_idle (os : List Offer) : (offers os s).ports = s.ports := by
  unfold offers
  induction os generalizing s with
  | nil => rfl
  | cons o os ih =>
    have same := ports_offer_idle idle o
    refine (ih (s := offer o s) ?_).trans same
    unfold State.port
    rw [same]
    exact idle

theorem offers_begun (os : List Offer) {c : Command} (d : c ≠ .flushJournal) :
    offers os (s.begun .service c) = (offers os s).begun .service c := by
  unfold offers
  induction os generalizing s with
  | nil => rfl
  | cons o os ih =>
    rw [List.foldl_cons, List.foldl_cons, offer_begun o .service c s idle d]
    refine ih ?_
    unfold State.port
    rw [ports_offer_idle idle]
    exact idle

end

/-! ### Sessions abandoned: ports and the table -/

theorem removeFromFolio_begun (f : Option FolioIx) (r : RoomIx) (s : State) (p : Port) (c : Command) :
    removeFromFolio f r (s.begun p c) = (removeFromFolio f r s).begun p c := by
  cases f with
  | none => rfl
  | some f => exact settleFolio_begun f (s.modFolio f fun x => { x with rooms := x.rooms.erase r }) p c

theorem vacate_begun (r : RoomIx) (s : State) (p : Port) (c : Command) : vacate r (s.begun p c) = (vacate r s).begun p c :=
  congrArg (fun t => raise .front .roomVacated (writePrimary r .privacy false (writePrimary r .makeup false t)))
    (removeFromFolio_begun (s.room r).folio r (s.modRoom r Room.vacated) p c)

theorem endSession_begun (x : Session) (s : State) (p : Port) (c : Command) :
    endSession x (s.begun p c) = (endSession x s).begun p c := by
  let gone : State := { s with charge := { s.charge with
    sessions := s.charge.sessions.filter fun y => decide (y.room ≠ x.room) } }
  let roomed (t : State) : State := if (s.room x.room).closing = some .scanDone then vacate x.room t else t
  have roomed_begun : roomed (gone.begun p c) = (roomed gone).begun p c := by
    by_cases closing : (s.room x.room).closing = some .scanDone
    · exact (if_pos closing).trans ((vacate_begun x.room gone p c).trans (congrArg (fun t : State => t.begun p c) (if_pos closing).symm))
    · exact (if_neg closing).trans (congrArg (fun t : State => t.begun p c) (if_neg closing).symm)
  rw [endSession_eq, endSession_eq]
  cases x.folio with
  | none => exact roomed_begun
  | some f => exact (congrArg (settleFolio f) roomed_begun).trans (settleFolio_begun f (roomed gone) p c)

theorem ports_abandonSession_idle {s : State} (idle : (s.port .service).phase.isWorking = false) (x : Session) :
    (abandonSession s x).ports = s.ports := by
  unfold abandonSession
  rw [endSession_ports]
  exact ports_offer_idle idle _

theorem ports_abandonSessions_idle {s : State} (idle : (s.port .service).phase.isWorking = false) (which : NodeAddr → Bool) :
    (abandonSessions which s).ports = s.ports := by
  unfold abandonSessions
  generalize (s.charge.sessions.filter fun x => which x.node) = xs
  induction xs generalizing s with
  | nil => rfl
  | cons x xs ih =>
    have same := ports_abandonSession_idle idle x
    refine (ih (s := abandonSession s x) ?_).trans same
    unfold State.port
    rw [same]
    exact idle

theorem abandonSessions_begun {s : State} (idle : (s.port .service).phase.isWorking = false) (which : NodeAddr → Bool) {c : Command}
    (d : c ≠ .flushJournal) : abandonSessions which (s.begun .service c) = (abandonSessions which s).begun .service c := by
  unfold abandonSessions
  rw [show (s.begun .service c).charge = s.charge from rfl]
  generalize (s.charge.sessions.filter fun x => which x.node) = xs
  induction xs generalizing s with
  | nil => rfl
  | cons x xs ih =>
    have step : abandonSession (s.begun .service c) x = (abandonSession s x).begun .service c :=
      (congrArg (endSession x) (offer_begun _ .service c s idle d)).trans (endSession_begun x _ .service c)
    rw [List.foldl_cons, List.foldl_cons, step]
    refine ih ?_
    unfold State.port
    rw [ports_abandonSession_idle idle]
    exact idle

theorem sessions_settleFolio (f : FolioIx) (s : State) : (settleFolio f s).charge.sessions = s.charge.sessions := by
  unfold settleFolio
  split <;> rfl

theorem sessions_vacate (r : RoomIx) (s : State) : (vacate r s).charge.sessions = s.charge.sessions := by
  have removed : (removeFromFolio (s.room r).folio r (s.modRoom r Room.vacated)).charge.sessions = s.charge.sessions := by
    unfold removeFromFolio
    split
    · exact sessions_settleFolio ..
    · rfl
  exact removed

theorem sessions_endSession (x : Session) (s : State) : (endSession x s).charge.sessions =
    s.charge.sessions.filter fun y => decide (y.room ≠ x.room) := by
  rw [endSession_eq]
  dsimp only
  have roomed (gone : State) : (if (s.room x.room).closing = some .scanDone then vacate x.room gone else gone).charge.sessions =
      gone.charge.sessions := by
    split
    · exact sessions_vacate ..
    · rfl
  split
  · exact roomed _
  · exact (sessions_settleFolio ..).trans (roomed _)

theorem sessions_abandonSession (s : State) (x : Session) : (abandonSession s x).charge.sessions =
    s.charge.sessions.filter fun y => decide (y.room ≠ x.room) := by
  unfold abandonSession
  rw [sessions_endSession, offer_charge]

/-- What is left of the table once some sessions are abandoned: none of their rooms. -/
theorem mem_foldl_abandonSession {xs : List Session} {s : State} {y : Session} (mem : y ∈ (xs.foldl abandonSession s).charge.sessions) :
    y ∈ s.charge.sessions ∧ ∀ x ∈ xs, y.room ≠ x.room := by
  induction xs generalizing s with
  | nil => exact ⟨mem, fun _ there => nomatch there⟩
  | cons x xs ih =>
    obtain ⟨before, others⟩ := ih mem
    rw [sessions_abandonSession, List.mem_filter, decide_eq_true_iff] at before
    obtain ⟨kept, apart⟩ := before
    exact ⟨kept, List.forall_mem_cons.mpr ⟨apart, others⟩⟩

theorem not_mem_abandonSessions {which : NodeAddr → Bool} {s : State} {y : Session}
    (mem : y ∈ (abandonSessions which s).charge.sessions) : which y.node = false := by
  obtain ⟨before, apart⟩ := mem_foldl_abandonSession mem
  by_contra left
  exact apart y (List.mem_filter.mpr ⟨before, eq_true_of_ne_false left⟩) rfl

/-! ### An exchange cut short (R106) -/

/-- The Verdict Queue once a frame is cut short. -/
def cutRest : Option OutFrame → List QueuedVerdict → List QueuedVerdict
  | some (.verdict _), _ :: vs => vs
  | _, vs => vs

/-- The record of a verdict that goes no further on a line. -/
def lostVerdict (l : LineIx) (time : Stamp) (kind : RecordKind) (key : Option KeyIx) (v : QueuedVerdict) : Offer :=
  { kind := kind, cls := .notice, time := time, node := some ⟨l, v.addr⟩, card := v.card, key := key
    reason := some (.verdict v.verdict.reason) }

/-- The records of a stop: of the frame cut short, then of each verdict discarded. -/
def cutOffers (l : LineIx) (time : Stamp) : Option OutFrame → List QueuedVerdict → List Offer
  | some (.verdict _), v :: vs =>
    (if v.verdict.outcome = .grant then [lostVerdict l time .verdictUnconfirmed v.key v] else []) ++
      vs.map (lostVerdict l time .verdictUndelivered none)
  | _, vs => vs.map (lostVerdict l time .verdictUndelivered none)

/-- The Presentation Queue once a frame is cut short. -/
def cutQueue (l : LineIx) : Option OutFrame → List QueuedVerdict → List Presentation → List Presentation
  | some (.verdict _), v :: _, q => if v.remote then q else q.eraseP fun y => decide (y.node.line = l) && y.verdict.isSome
  | _, _, q => q

/-- The state once a frame is cut short, before its records. -/
def frameCut (l : LineIx) (s : State) : State :=
  let frame := (s.line l).exchange.map Exchange.frame
  let vs := (s.line l).verdicts
  { s.modLine l fun ln => { ln with exchange := none, verdicts := cutRest frame vs } with
    verdict := { s.verdict with queue := cutQueue l frame vs s.verdict.queue } }

/-- The records of STOP LINE. -/
def stopOffers (l : LineIx) (s : State) : List Offer :=
  cutOffers l s.now ((s.line l).exchange.map Exchange.frame) (s.line l).verdicts

theorem foldl_verdictUndelivered (l : LineIx) (vs : List QueuedVerdict) (s : State) :
    vs.foldl (verdictUndelivered l) s = offers (vs.map (lostVerdict l s.now .verdictUndelivered none)) s := by
  unfold offers
  induction vs generalizing s with
  | nil => rfl
  | cons v vs ih =>
    rw [List.map_cons, List.foldl_cons, List.foldl_cons]
    refine (ih (verdictUndelivered l s v)).trans ?_
    rw [show (verdictUndelivered l s v).now = s.now from now_congr (offer_supply ..)]
    rfl

theorem offers_append (os os' : List Offer) (s : State) : offers (os ++ os') s = offers os' (offers os s) := List.foldl_append

theorem modLine_congr {s : State} {l : LineIx} {f g : Line → Line} (same : f (s.line l) = g (s.line l)) :
    s.modLine l f = s.modLine l g := congrArg (fun v => { s with lines := v }) (tmod_congr s.lines l f g same)

theorem verdictMissed_cons {l : LineIx} {s : State} {v : QueuedVerdict} {rest : List QueuedVerdict}
    (queued : (s.line l).verdicts = v :: rest) : verdictMissed l s = unconfirmed l v s.now (popVerdict l s) :=
  frameMissed_verdict (n := ⟨l, 0⟩) (x := ⟨0, .verdict .deny, false⟩) rfl queued

theorem unconfirmed_offers (l : LineIx) (v : QueuedVerdict) (time : Stamp) (s : State) : unconfirmed l v time s =
    offers (if v.verdict.outcome = .grant then [lostVerdict l time .verdictUnconfirmed v.key v] else []) s := by
  unfold unconfirmed
  split <;> rfl

/-- A frame that is not a VERDICT, or has none queued behind it, ends without a record. -/
theorem frameCut_other {l : LineIx} {s : State} {rest : List QueuedVerdict} {queue : List Presentation}
    (kept : rest = (s.line l).verdicts) (stays : queue = s.verdict.queue) :
    { s.modLine l fun ln => { ln with exchange := none, verdicts := rest } with verdict := { s.verdict with queue := queue } } =
      endExchange l s := by
  subst kept stays
  exact modLine_congr (f := fun ln => { ln with exchange := none, verdicts := (s.line l).verdicts })
    (g := fun ln => { ln with exchange := none }) rfl

theorem verdictMissed_nil {l : LineIx} {s : State} (empty : (s.line l).verdicts = []) : verdictMissed l s = s := by
  unfold verdictMissed
  rw [empty]
  rfl

/-- The discards of a stop are its records, offered where the frame is cut short. -/
theorem discards_eq (l : LineIx) (s : State) :
    ((cutExchange l s).line l).verdicts.foldl (verdictUndelivered l) (cutExchange l s) = offers (stopOffers l s) (frameCut l s) := by
  have ended : ((endExchange l s).line l).verdicts = (s.line l).verdicts :=
    (congrArg Line.verdicts (line_modLine_same s l fun ln => { ln with exchange := none }) :)
  have plain : ((endExchange l s).line l).verdicts.foldl (verdictUndelivered l) (endExchange l s) =
      offers ((s.line l).verdicts.map (lostVerdict l s.now .verdictUndelivered none)) (endExchange l s) := by
    rw [foldl_verdictUndelivered, ended]
    rfl
  unfold cutExchange stopOffers frameCut
  cases (s.line l).exchange with
  | none => exact plain.trans (congrArg (offers _) (frameCut_other rfl rfl).symm)
  | some x =>
    obtain ⟨addr, frame, again⟩ := x
    cases frame with
    | verdict o =>
      dsimp only [Option.map_some]
      cases queued : (s.line l).verdicts with
      | nil =>
        rw [verdictMissed_nil (ended.trans queued), ended, queued]
        exact congrArg (offers []) (frameCut_other (s := s) queued.symm rfl).symm
      | cons v vs =>
        have head := ended.trans queued
        let base : State := { s.modLine l fun ln => { ln with exchange := none, verdicts := vs } with
          verdict := { s.verdict with queue := cutQueue l (some (.verdict o)) (v :: vs) s.verdict.queue } }
        have popped : popVerdict l (endExchange l s) = base := by
          rw [popVerdict_cons head]
          have lines : (endExchange l s).modLine l (fun ln => { ln with verdicts := vs }) =
              s.modLine l fun ln => { ln with exchange := none, verdicts := vs } := modLine_modLine ..
          rw [lines]
          refine congrArg (fun w : VerdictEngine => { s.modLine l fun ln => { ln with exchange := none, verdicts := vs } with
            verdict := w }) ?_
          change _ = { s.verdict with
            queue := if v.remote = true then s.verdict.queue else
              s.verdict.queue.eraseP fun y => decide (y.node.line = l) && y.verdict.isSome }
          split <;> rfl
        let cut : List Offer := if v.verdict.outcome = .grant then [lostVerdict l s.now .verdictUnconfirmed v.key v] else []
        have rest : (base.line l).verdicts = vs :=
          (congrArg Line.verdicts (line_modLine_same s l fun ln => { ln with exchange := none, verdicts := vs }) :)
        have now : (offers cut base).now = s.now := now_congr (congrArg State.supply (offers_touches cut base) :)
        rw [verdictMissed_cons head, popped, foldl_verdictUndelivered, line_unconfirmed, unconfirmed_offers, rest]
        change offers (vs.map (lostVerdict l (offers cut base).now .verdictUndelivered none)) (offers cut base) = _
        rw [now]
        exact (offers_append ..).symm
    | _ => exact plain.trans (congrArg (offers _) (frameCut_other rfl rfl).symm)

/-! ### The marks of a line's nodes -/

/-- The state once the marks of a line's nodes are cleared. -/
def marksCleared (l : LineIx) (s : State) : State := clearLampMarks (onLine l) (clearModeMarks (onLine l) s)

theorem onLine_iff (l : LineIx) (n : NodeAddr) : onLine l n = true ↔ n.line = l := decide_eq_true_iff

section
variable (l : LineIx) (s : State)

theorem marksCleared_touches : marksCleared l s = { s with
    attn := (marksCleared l s).attn, nodes := (marksCleared l s).nodes, lines := (marksCleared l s).lines
    lamps := (marksCleared l s).lamps } := by
  unfold marksCleared
  rw [clearLampMarks_touches]
  rfl

theorem marksCleared_begun (p : Port) (c : Command) : marksCleared l (s.begun p c) = (marksCleared l s).begun p c :=
  clearLampMarks_begun (onLine l) (clearModeMarks (onLine l) s) p c

theorem node_marksCleared (n : NodeAddr) : (marksCleared l s).node n =
    if n.line = l then { s.node n with modePending := false, lampPending := false } else s.node n := by
  have mode : (clearModeMarks (onLine l) s).node n = if onLine l n = true then { s.node n with modePending := false } else s.node n :=
    node_mapNodes s (fun n nd => if onLine l n then { nd with modePending := false } else nd) n
  unfold marksCleared
  rw [node_clearLampMarks, mode]
  by_cases here : onLine l n = true
  · rw [if_pos here, if_pos here, if_pos ((onLine_iff l n).mp here)]
  · rw [if_neg here, if_neg here, if_neg (mt (onLine_iff l n).mpr here)]

theorem line_marksCleared (k : LineIx) : (marksCleared l s).line k = (s.line k).remarkLamps (fun a => onLine l ⟨k, a⟩) false := by
  unfold marksCleared clearLampMarks State.line
  rw [settleSweep_lines]
  change tget (tmap 16 s.lines fun k ln => ln.remarkLamps (fun a => onLine l ⟨k, a⟩) false) k = _
  exact tget_tmap (d := 4) (n := 16) (by decide) ..

theorem line_marksCleared_ne {k : LineIx} (ne : k ≠ l) : (marksCleared l s).line k = s.line k := by
  have none_ (a : Fin 64) : ¬ onLine l ⟨k, a⟩ = true := fun h => ne ((onLine_iff l ⟨k, a⟩).mp h)
  rw [line_marksCleared]
  unfold Line.remarkLamps
  split
  · split
    · exact if_neg (none_ _)
    · rfl
  · rfl

theorem line_marksCleared_same (idle : (s.line l).exchange = none) : (marksCleared l s).line l = s.line l :=
  (line_marksCleared l s l).trans (remarkLamps_idle idle ..)

theorem outstanding_marksCleared : ∀ n ∈ (marksCleared l s).lamps.outstanding, n.line ≠ l := by
  intro n there same
  unfold marksCleared at there
  rw [outstanding_clearLampMarks, List.mem_filter, (onLine_iff l n).mpr same] at there
  exact nomatch there.2

end

/-! ### STOP LINE (R106) -/

/-- Presentations of the line that go with their verdicts would go with the line in any case. -/
theorem filter_eraseP_line (l : LineIx) (q : List Presentation) :
    (q.eraseP fun y => decide (y.node.line = l) && y.verdict.isSome).filter (fun x => decide (x.node.line ≠ l)) =
      q.filter fun x => decide (x.node.line ≠ l) := by
  induction q with
  | nil => rfl
  | cons y q ih =>
    rw [List.eraseP_cons]
    cases gone : decide (y.node.line = l) && y.verdict.isSome with
    | true =>
      have here : ¬ decide (y.node.line ≠ l) = true := by
        rw [decide_eq_true_iff]
        exact fun other => other (of_decide_eq_true (Bool.and_eq_true_iff.mp gone).1)
      exact (List.filter_cons_of_neg (p := fun x : Presentation => decide (x.node.line ≠ l)) here).symm
    | false =>
      rw [List.filter_cons, ← ih]
      exact List.filter_cons ..

theorem filter_cutQueue (l : LineIx) (frame : Option OutFrame) (vs : List QueuedVerdict) (q : List Presentation) :
    (cutQueue l frame vs q).filter (fun x => decide (x.node.line ≠ l)) = q.filter fun x => decide (x.node.line ≠ l) := by
  unfold cutQueue
  split
  · split
    · rfl
    · exact filter_eraseP_line ..
  · rfl

/-- The state once a stop's records are offered and the line's presentations are gone. -/
def stopEmptied (l : LineIx) (s : State) : State :=
  { (frameCut l s).graft (offers (stopOffers l s) s) with
    verdict := { s.verdict with queue := s.verdict.queue.filter fun x => decide (x.node.line ≠ l) } }

/-- The fields of a line that STOP LINE sets. -/
def Line.stopped (ln : Line) : Line := { ln with state := .stopped, verdicts := [], busy := none }

section
variable {l : LineIx} {s : State}

theorem stopLineNow_eq (l : LineIx) (s : State) : stopLineNow l s = (marksCleared l (stopEmptied l s)).modLine l Line.stopped := by
  have discarded := (discards_eq l s).trans (offers_graft (stopOffers l s) (frameCut l s) s)
  have queue := filter_cutQueue l ((s.line l).exchange.map Exchange.frame) (s.line l).verdicts s.verdict.queue
  refine (congrArg (fun t : State => (marksCleared l { t with verdict := { t.verdict with
    queue := t.verdict.queue.filter fun x => decide (x.node.line ≠ l) } }).modLine l Line.stopped) discarded :).trans ?_
  exact congrArg (fun q => (marksCleared l { (frameCut l s).graft (offers (stopOffers l s) s) with
    verdict := { s.verdict with queue := q } }).modLine l Line.stopped) queue

theorem stopLineNow_begun (idle : (s.port .service).phase.isWorking = false) {c : Command} (d : c ≠ .flushJournal) :
    stopLineNow l (s.begun .service c) = (stopLineNow l s).begun .service c := by
  have offered : offers (stopOffers l s) (s.begun .service c) = (offers (stopOffers l s) s).begun .service c :=
    offers_begun idle _ d
  have emptied : stopEmptied l (s.begun .service c) = (stopEmptied l s).begun .service c :=
    congrArg (fun w => { (frameCut l s).graft w with
      verdict := { s.verdict with queue := s.verdict.queue.filter fun x => decide (x.node.line ≠ l) } }) offered
  rw [stopLineNow_eq, stopLineNow_eq, emptied]
  exact congrArg (fun t : State => t.modLine l Line.stopped) (marksCleared_begun l (stopEmptied l s) .service c)

theorem line_stopEmptied_same (l : LineIx) (s : State) : (stopEmptied l s).line l =
    { s.line l with exchange := none, verdicts := cutRest ((s.line l).exchange.map Exchange.frame) (s.line l).verdicts } :=
  line_modLine_same s l fun ln =>
    { ln with exchange := none, verdicts := cutRest ((s.line l).exchange.map Exchange.frame) (s.line l).verdicts }

theorem line_stopLineNow_same (l : LineIx) (s : State) : (stopLineNow l s).line l =
    { s.line l with exchange := none, state := .stopped, verdicts := [], busy := none } := by
  have emptied := line_stopEmptied_same l s
  rw [stopLineNow_eq, line_modLine_same, line_marksCleared_same l _ (congrArg Line.exchange emptied), emptied]
  rfl

theorem line_stopLineNow_ne {k : LineIx} (ne : k ≠ l) (s : State) : (stopLineNow l s).line k = s.line k := by
  rw [stopLineNow_eq]
  exact (line_modLine_ne _ _ ne.symm).trans ((line_marksCleared_ne l (stopEmptied l s) ne).trans (line_modLine_ne s (fun ln =>
    { ln with exchange := none, verdicts := cutRest ((s.line l).exchange.map Exchange.frame) (s.line l).verdicts }) ne.symm))

theorem node_stopLineNow (n : NodeAddr) : (stopLineNow l s).node n =
    if n.line = l then { s.node n with modePending := false, lampPending := false } else s.node n := by
  rw [stopLineNow_eq]
  exact node_marksCleared l (stopEmptied l s) n

theorem stopLineNow_touches (l : LineIx) (s : State) : stopLineNow l s = { s with
    ports := (offers (stopOffers l s) s).ports, attn := (stopLineNow l s).attn
    verdict := { s.verdict with queue := s.verdict.queue.filter fun x => decide (x.node.line ≠ l) }
    nodes := (stopLineNow l s).nodes, lines := (stopLineNow l s).lines, journal := (offers (stopOffers l s) s).journal
    lamps := (stopLineNow l s).lamps } := by
  have supply : (stopEmptied l s).supply = s.supply := (congrArg State.supply (offers_touches (stopOffers l s) s) :)
  rw [stopLineNow_eq]
  unfold State.modLine
  conv_lhs => rw [marksCleared_touches, supply]
  rfl

end

/-! ### RESTART LINE (R108) -/

/-- The state in which a restart finds the line stopped. -/
def restartFrom (l : LineIx) (s : State) : State := if (s.line l).state = .stopped then marksCleared l s else stopLineNow l s

/-- The state once a restarted line's nodes have left service. -/
def restartLeft (l : LineIx) (s : State) : State := leaveService (onLine l) (unpollNodes (onLine l) (restartFrom l s))

/-- The state once a line is restarted. -/
def lineRestarted (l : LineIx) (s : State) : State :=
  (abandonSessions (onLine l) (restartLeft l s)).modLine l fun ln => { ln.recounted with state := .running }

section
variable {l : LineIx} {s : State}

theorem restartFrom_begun (idle : (s.port .service).phase.isWorking = false) {c : Command} (d : c ≠ .flushJournal) :
    restartFrom l (s.begun .service c) = (restartFrom l s).begun .service c := by
  unfold restartFrom
  rw [show (s.begun .service c).line l = s.line l from rfl]
  split
  · exact marksCleared_begun l s .service c
  · exact stopLineNow_begun idle d

theorem ports_restartFrom (idle : (s.port .service).phase.isWorking = false) (l : LineIx) : (restartFrom l s).ports = s.ports := by
  unfold restartFrom
  split
  · exact (congrArg State.ports (marksCleared_touches l s) :)
  · exact (congrArg State.ports (stopLineNow_touches l s) :).trans (ports_offers_idle idle _)

theorem restartFrom_touches (l : LineIx) (s : State) : restartFrom l s = { s with
    ports := (restartFrom l s).ports, attn := (restartFrom l s).attn, verdict := (restartFrom l s).verdict
    nodes := (restartFrom l s).nodes, lines := (restartFrom l s).lines, lamps := (restartFrom l s).lamps
    journal := if (s.line l).state = .stopped then s.journal else (offers (stopOffers l s) s).journal } := by
  unfold restartFrom
  split
  · rw [marksCleared_touches]
  · rw [stopLineNow_touches]

theorem node_restartFrom (n : NodeAddr) : (restartFrom l s).node n =
    if n.line = l then { s.node n with modePending := false, lampPending := false } else s.node n := by
  unfold restartFrom
  split
  · exact node_marksCleared ..
  · exact node_stopLineNow n

theorem line_restartFrom_ne {k : LineIx} (ne : k ≠ l) : (restartFrom l s).line k = s.line k := by
  unfold restartFrom
  split
  · exact line_marksCleared_ne l s ne
  · exact line_stopLineNow_ne ne s

theorem node_unpollNodes (which : NodeAddr → Bool) (t : State) (n : NodeAddr) : (unpollNodes which t).node n =
    if (which n && (t.node n).config.configured) = true then (t.node n).unpolled else t.node n :=
  node_mapNodes t (fun n nd => if which n && nd.config.configured then nd.unpolled else nd) n

theorem node_restartLeft_ne {n : NodeAddr} (other : n.line ≠ l) : (restartLeft l s).node n = s.node n := by
  have out : ¬ onLine l n = true := mt (onLine_iff l n).mp other
  unfold restartLeft
  rw [node_leaveService, if_neg out, node_unpollNodes, if_neg (fun h => out (Bool.and_eq_true_iff.mp h).1), node_restartFrom,
    if_neg other]

theorem node_restartLeft_same {n : NodeAddr} (here : n.line = l) : (restartLeft l s).node n =
    { (if (s.node n).config.configured = true then (s.node n).unpolled else s.node n) with
      modePending := false, lampPending := false, grant := none, heldOpen := none, door := .unknown } := by
  have on : onLine l n = true := (onLine_iff l n).mpr here
  unfold restartLeft
  rw [node_leaveService, if_pos on, node_unpollNodes, on, Bool.true_and, node_restartFrom, if_pos here]
  split <;> rfl

theorem lineRestarted_begun (idle : (s.port .service).phase.isWorking = false) {c : Command} (d : c ≠ .flushJournal) :
    lineRestarted l (s.begun .service c) = (lineRestarted l s).begun .service c := by
  have left : restartLeft l (s.begun .service c) = (restartLeft l s).begun .service c :=
    congrArg (fun t => leaveService (onLine l) (unpollNodes (onLine l) t)) (restartFrom_begun idle d)
  have idle' : ((restartLeft l s).port .service).phase.isWorking = false := by
    unfold State.port
    rw [show (restartLeft l s).ports = s.ports from ports_restartFrom idle l]
    exact idle
  unfold lineRestarted
  rw [left, abandonSessions_begun idle' (onLine l) d]
  rfl

theorem room_restartLeft (r : RoomIx) : (restartLeft l s).room r =
    if (s.room r).doorNode.any (fun n => decide (n.line = l)) then { s.room r with door := .unknown } else s.room r := by
  have same : (unpollNodes (onLine l) (restartFrom l s)).room r = s.room r :=
    (congrArg (fun t : State => t.room r) (restartFrom_touches l s) :)
  unfold restartLeft
  cases named : (s.room r).doorNode with
  | none =>
    rw [room_leaveService_unnamed ((congrArg Room.doorNode same).trans named), same]
    rfl
  | some n =>
    rw [room_leaveService_named ((congrArg Room.doorNode same).trans named), same]
    rfl

theorem ports_restartLeft (idle : (s.port .service).phase.isWorking = false) (l : LineIx) : (restartLeft l s).ports = s.ports :=
  ports_restartFrom idle l

theorem line_lineRestarted_same (l : LineIx) (s : State) : (lineRestarted l s).line l =
    { (abandonSessions (onLine l) (restartLeft l s)).line l with
      state := .running, silent := 0, rotation := 0, missedTotal := 0, badTotal := 0 } :=
  line_modLine_same ..

theorem line_lineRestarted_ne {k : LineIx} (ne : k ≠ l) : (lineRestarted l s).line k = s.line k := by
  refine (line_modLine_ne _ _ ne.symm).trans ?_
  exact (congrArg (fun t : State => t.line k) (abandonSessions_touches (onLine l) (restartLeft l s)) :).trans (line_restartFrom_ne ne)

theorem lineRestarted_touches (l : LineIx) (s : State) : lineRestarted l s = { s with
    ports := (abandonSessions (onLine l) (restartLeft l s)).ports, attn := (abandonSessions (onLine l) (restartLeft l s)).attn
    rooms := (abandonSessions (onLine l) (restartLeft l s)).rooms, verdict := (restartLeft l s).verdict
    nodes := (restartLeft l s).nodes
    lines := ((restartLeft l s).modLine l fun ln => { ln.recounted with state := .running }).lines
    charge := (abandonSessions (onLine l) (restartLeft l s)).charge
    journal := (abandonSessions (onLine l) (restartLeft l s)).journal
    lamps := (abandonSessions (onLine l) (restartLeft l s)).lamps } := by
  have from_ := restartFrom_touches l s
  have keys : (restartLeft l s).keys = s.keys := (congrArg State.keys from_ :)
  have supply : (restartLeft l s).supply = s.supply := (congrArg State.supply from_ :)
  have emergency : (restartLeft l s).emergency = s.emergency := (congrArg State.emergency from_ :)
  have pending : (restartLeft l s).pending = s.pending := (congrArg State.pending from_ :)
  rw [← keys, ← supply, ← emergency, ← pending]
  exact congrArg (fun t : State => t.modLine l fun ln => { ln.recounted with state := .running })
    (abandonSessions_touches (onLine l) (restartLeft l s))

end

end Sys2Proof.Machine

namespace Sys2Proof.Settled

open Sys2Proof.Machine

/-- Settles O42. -/
theorem lineCommands : Obligations.LineCommands := by
  intro l more s h cut undelivered stopped
  have ⟨_, _, idle⟩ := h
  have parse := parseLine_u8 more l
  have undelivered_eq (vs : List QueuedVerdict) (w : State) :
      undelivered vs w = offers (vs.map (lostVerdict l s.now .verdictUndelivered none)) w :=
    (List.foldl_map (f := lostVerdict l s.now .verdictUndelivered none) (g := fun u o => offer o u)).symm
  have offered : stopped = offers (stopOffers l s) s := by
    have plain := undelivered_eq (s.line l).verdicts s
    unfold stopOffers
    change (match (s.line l).exchange.map Exchange.frame, (s.line l).verdicts with
      | some (.verdict _), v :: vs =>
        undelivered vs (if v.verdict.outcome = VerdictOutcome.grant then offer (cut .verdictUnconfirmed v.key v) s else s)
      | _, vs => undelivered vs s) = _
    generalize (s.line l).exchange.map Exchange.frame = frame at *
    generalize (s.line l).verdicts = queue at *
    split
    · next o v vs =>
      rw [undelivered_eq]
      refine Eq.trans (congrArg (offers _) ?_) (offers_append ..).symm
      split <;> rfl
    · next other =>
      refine plain.trans (congrArg (fun os => offers os s) ?_)
      unfold cutOffers
      split
      · next o v vs => exact absurd rfl (other o v vs rfl)
      · rfl
  refine ⟨fun state => ?_, fun state => ?_, fun state => ?_, fun state => ?_, ?_⟩
  · exact congrArg Host.Outcome.next (takeCommand_accepted h (not_truncated (by rfl)) rfl parse
      (if_neg (not_not.mpr state)))
  · exact congrArg Host.Outcome.next (takeCommand_refused h (not_truncated (by rfl)) rfl parse (if_pos state))
  · exact congrArg Host.Outcome.next (takeCommand_refused h (not_truncated (by rfl)) rfl parse (if_pos state))
  · have line := line_stopLineNow_same l s
    have touches := stopLineNow_touches l s
    have taken : stopLine l (s.begun .service .stopLine) = accept [] ((stopLineNow l s).begun .service .stopLine) :=
      (if_neg state).trans (congrArg (accept []) (stopLineNow_begun idle (by decide)))
    refine ⟨stopLineNow l s, congrArg Host.Outcome.next (takeCommand_accepted h (not_truncated (by rfl)) rfl parse taken), ?_⟩
    rw [line]
    refine ⟨rfl, rfl, rfl, rfl, rfl, rfl, rfl, rfl, ?_, (congrArg State.verdict touches :), ?_, fun k ne => line_stopLineNow_ne ne s,
      fun n => node_stopLineNow n, (congrArg State.rooms touches :), (congrArg State.keys touches :),
      (congrArg State.charge touches :), (congrArg State.supply touches :), (congrArg State.emergency touches :),
      (congrArg State.ports touches :).trans (ports_offers_idle idle _), (congrArg State.pending touches :)⟩
    · rw [offered]
      exact (congrArg State.journal touches :)
    · rw [stopLineNow_eq]
      exact outstanding_marksCleared l (stopEmptied l s)
  · have line := line_lineRestarted_same l s
    have touches := lineRestarted_touches l s
    have taken : restartLine l (s.begun .service .restartLine) = accept [] ((lineRestarted l s).begun .service .restartLine) :=
      congrArg (accept []) (lineRestarted_begun idle (by decide))
    have node (n : NodeAddr) : (lineRestarted l s).node n = (restartLeft l s).node n := (congrArg (fun t : State => t.node n) touches :)
    have idle' : ((restartLeft l s).port .service).phase.isWorking = false := by
      unfold State.port
      rw [ports_restartLeft idle]
      exact idle
    have from_ := restartFrom_touches l s
    refine ⟨lineRestarted l s, congrArg Host.Outcome.next (takeCommand_accepted h (not_truncated (by rfl)) rfl parse taken), ?_⟩
    rw [line]
    refine ⟨rfl, rfl, rfl, rfl, rfl, fun k ne => line_lineRestarted_ne ne, fun n here => ?_,
      fun n other => (node n).trans (node_restartLeft_ne other), fun x mem => ?_,
      ⟨restartLeft l s, (congrArg State.charge from_ :), (congrArg State.supply from_ :), ?_, room_restartLeft,
        (congrArg State.charge touches :), (congrArg State.rooms touches :), (congrArg State.journal touches :)⟩,
      (congrArg State.keys touches :), (congrArg State.supply touches :), (congrArg State.emergency touches :),
      (congrArg State.ports touches :).trans ((ports_abandonSessions_idle idle' _).trans (ports_restartLeft idle l)),
      (congrArg State.pending touches :)⟩
    · rw [node, node_restartLeft_same here]
      by_cases configured : (s.node n).config.configured = true
      · rw [if_pos configured]
        exact ⟨rfl, rfl, rfl, fun _ => ⟨rfl, rfl⟩, rfl, rfl, rfl⟩
      · rw [if_neg configured]
        exact ⟨rfl, rfl, rfl, fun h => absurd h configured, rfl, rfl, rfl⟩
    · rw [(congrArg State.charge touches :)] at mem
      have out := not_mem_abandonSessions mem
      exact fun same => Bool.eq_false_iff.mp out ((onLine_iff l x.node).mpr same)
    · rw [offered]
      exact (congrArg State.journal from_ :)

end Sys2Proof.Settled
end

section
/-! The statement of the programs of the Journal Array (R141 to R151). -/

/- The joined text is checked with bounded memory: proofs are elaborated one after another, not each in a thread of its own. -/
set_option Elab.async false

namespace Sys2Proof.Machine

/-! ### What the array starts (R141, R144, R145, R147, R148) -/

/-- The array takes a program where none runs and no erase runs unsuspended. -/
theorem takesProgram_of {j : Journal} (free : j.program = none) (suspended : ∀ e, j.erase = some e → e.suspended = true) :
    j.takesProgram = true := by
  unfold Journal.takesProgram Journal.arrayStatus
  rw [free]
  cases erase : j.erase with
  | none => rfl
  | some e =>
    simp only [suspended e erase, if_true]
    decide

theorem waiting_of_free {j : Journal} (free : j.program = none) : j.waiting = j.staged.length := by
  unfold Journal.waiting Journal.inFlight
  rw [free]
  rfl

section
variable {s : State} (run : s.inRun = true)
include run

theorem markProgramStart_taken {c : MarkClaim} {rest : List MarkClaim} (takes : s.journal.takesProgram = true)
    (head : s.journal.marks = c :: rest) :
    markProgramStart s = s.modJournal fun j => { j with program := some c.program, marks := rest } := by
  unfold markProgramStart
  rw [head]
  exact if_pos (by rw [run, takes]; rfl)

theorem blockProgramStart_taken {k : SegIx} {blk : Nat} (takes : s.journal.takesProgram = true) (empty : s.journal.marks = [])
    (filling : s.journal.fillingAt = some k) (state : (s.segment k).state = .filling blk)
    (requested : s.journal.commitRequested = true) : blockProgramStart s = s.modJournal fun j => { j with
      program := some (.block k blk (min 8 s.journal.waiting)), commitDue := false
      flushAt := if min 8 s.journal.waiting < s.journal.waiting then some (s.supply.elapsed + 65536) else none } := by
  unfold State.segment at state
  unfold blockProgramStart
  dsimp only
  rw [filling]
  dsimp only
  rw [state]
  exact if_pos (by rw [run, takes, empty, requested]; rfl)

theorem eraseStart_target {k : SegIx} (free : s.journal.program = none) (none_ : s.journal.erase = none)
    (quiet : s.journal.programWaits = false) (target : s.journal.eraseTarget = some k) : eraseStart s = beginErase k s := by
  unfold eraseStart
  rw [run, quiet, free, none_, target]
  rfl

theorem eraseStart_resumed {e : Erase} (free : s.journal.program = none) (erase : s.journal.erase = some e)
    (suspended : e.suspended = true) (quiet : s.journal.programWaits = false) :
    eraseStart s = s.modJournal fun j => { j with erase := some { e with suspended := false } } := by
  unfold eraseStart
  rw [run, quiet, free, erase]
  exact if_pos suspended

theorem eraseSuspend_waits {e : Erase} (free : s.journal.program = none) (erase : s.journal.erase = some e)
    (runs : e.suspended = false) (waits : s.journal.programWaits = true) : eraseSuspend s =
      if e.suspensions < 4 then s.modJournal fun j =>
        { j with erase := some { e with suspended := true, suspensions := e.suspensions + 1 } }
      else s := by
  unfold eraseSuspend
  rw [run, free, erase]
  dsimp only
  rw [runs, waits]
  exact if_congr decide_eq_true_iff rfl rfl

theorem segmentEraseComplete_runs {e : Erase} (free : s.journal.program = none) (erase : s.journal.erase = some e)
    (runs : e.suspended = false) : segmentEraseComplete s = s.modJournal fun j =>
      { j.modSegment e.segment fun g => g.erased j.jammed with erase := none } := by
  unfold segmentEraseComplete
  rw [run, free, erase]
  exact if_neg (by rw [runs]; exact Bool.false_ne_true)

end

/-! ### An erase begun (R145, R156) -/

/-- The journal once a segment is being erased, before the cursor is told. -/
def eraseBegun (k : SegIx) (lost : Nat) (j : Journal) : Journal :=
  { j.modSegment k Segment.erasing with
    erase := some { segment := k, suspensions := 0, suspended := false }
    overrun := if lost = 0 then j.overrun else raiseCount j.overrun lost }

theorem cursorErased_touches (j : Journal) (last : Option Seq) : j.cursorErased last =
    { j with cursor := (j.cursorErased last).cursor, cursorLost := (j.cursorErased last).cursorLost } := by
  unfold Journal.cursorErased
  split <;> rfl

theorem beginErase_eq (k : SegIx) (s : State) :
    let rs := (s.segment k).records
    let lost := s.journal.overrunOf rs
    let t := s.modJournal fun j => (eraseBegun k lost j).cursorErased (if rs = [] then none else (s.segment k).last)
    beginErase k s = if lost = 0 then t else raise .service .journalOverrun t := rfl

theorem journal_beginErase (k : SegIx) (s : State) : (beginErase k s).journal =
    (eraseBegun k (s.journal.overrunOf (s.segment k).records) s.journal).cursorErased
      (if (s.segment k).records = [] then none else (s.segment k).last) := by
  rw [beginErase_eq]
  split <;> rfl

theorem attn_beginErase (k : SegIx) (s : State) : (beginErase k s).attn =
    if s.journal.overrunOf (s.segment k).records = 0 then s.attn else (raise .service .journalOverrun s).attn := by
  rw [beginErase_eq]
  split <;> rfl

theorem beginErase_touches (k : SegIx) (s : State) : beginErase k s = { s with
    journal := (beginErase k s).journal, attn := (beginErase k s).attn } := by
  rw [beginErase_eq]
  split <;> rfl

theorem segments_beginErase (k : SegIx) (s : State) : (beginErase k s).journal.segments = tmod s.journal.segments k Segment.erasing := by
  rw [journal_beginErase, cursorErased_touches]
  rfl

theorem raiseCount_below {count : BitVec 32} {n : Nat} (below : count.toNat + n < 4294967296) :
    raiseCount count n = BitVec.ofNat 32 (count.toNat + n) := if_pos below

theorem seqAtOrBelow_iff_or (c q : Seq) : seqAtOrBelow c q = true ↔ c = q ∨ seqBelow c q = true := by
  unfold seqAtOrBelow
  rw [Bool.or_eq_true, decide_eq_true_iff]

theorem cursorErased_eq (j : Journal) (last : Option Seq) : j.cursorErased last =
    if last.any (seqAtOrBelow j.cursor) = true then
      { j with cursor := ((oldest j.committed).map Record.seq).getD j.nextSeq, cursorLost := true }
    else j := rfl

theorem committed_of_segments {i j : Journal} (same : i.segments = j.segments) : i.committed = j.committed := by
  unfold Journal.committed
  rw [same]

/-- The cursor of an erase that is begun: lost where it stood at or below the last record erased. -/
theorem cursor_beginErase {k : SegIx} {s : State} {q : Seq} (last : (s.segment k).last = some q) :
    let t := beginErase k s
    if (s.segment k).records ≠ [] ∧ (s.journal.cursor = q ∨ seqBelow s.journal.cursor q = true) then
      t.journal.cursorLost = true ∧ t.journal.cursor = ((oldest t.journal.committed).map Record.seq).getD t.journal.nextSeq
    else t.journal.cursorLost = s.journal.cursorLost ∧ t.journal.cursor = s.journal.cursor := by
  have journal := (journal_beginErase k s).trans (cursorErased_eq ..)
  rw [last] at journal
  have reached : (if (s.segment k).records = [] then none else some q).any (seqAtOrBelow s.journal.cursor) = true ↔
      (s.segment k).records ≠ [] ∧ (s.journal.cursor = q ∨ seqBelow s.journal.cursor q = true) := by
    by_cases empty : (s.segment k).records = []
    · rw [if_pos empty]
      exact ⟨nofun, fun h => absurd empty h.1⟩
    · rw [if_neg empty, and_iff_right empty]
      exact seqAtOrBelow_iff_or ..
  have committed : (beginErase k s).journal.committed =
      (eraseBegun k (s.journal.overrunOf (s.segment k).records) s.journal).committed :=
    committed_of_segments (segments_beginErase k s)
  have decided := journal.trans (if_congr reached rfl rfl)
  intro t
  by_cases lost : (s.segment k).records ≠ [] ∧ (s.journal.cursor = q ∨ seqBelow s.journal.cursor q = true)
  · rw [if_pos lost] at decided ⊢
    rw [committed, decided]
    exact ⟨rfl, rfl⟩
  · rw [if_neg lost] at decided ⊢
    rw [decided]
    exact ⟨rfl, rfl⟩

theorem overrun_beginErase {k : SegIx} {s : State} (below : s.journal.overrun.toNat + s.journal.overrunOf (s.segment k).records < 4294967296) :
    (beginErase k s).journal.overrun = BitVec.ofNat 32 (s.journal.overrun.toNat + s.journal.overrunOf (s.segment k).records) := by
  have journal := (journal_beginErase k s).trans (cursorErased_touches ..)
  refine (congrArg Journal.overrun journal).trans ?_
  change (if s.journal.overrunOf (s.segment k).records = 0 then s.journal.overrun else raiseCount s.journal.overrun _) = _
  split
  · next zero => rw [zero, Nat.add_zero, BitVec.ofNat_toNat, BitVec.setWidth_eq]
  · exact raiseCount_below below

theorem records_unread {g : Segment} (unread : g.state.readable = false) : g.records = [] := by
  unfold Segment.records
  rw [unread]
  rfl

theorem overrunOf_nil (j : Journal) : j.overrunOf [] = 0 := rfl

/-! ### Slots written (R142) -/

theorem get_writeSlots {rs : List Record} : ∀ {slots : Table Slot 9} {base : Nat}, base + rs.length ≤ 512 →
    (∀ i r, rs[i]? = some r → (writeSlots slots base rs).get (base + i) = .written r) ∧
    ∀ i < 512, i < base ∨ base + rs.length ≤ i → (writeSlots slots base rs).get i = slots.get i := by
  induction rs with
  | nil => exact fun _ => ⟨fun i r h => (nomatch h), fun _ _ _ => rfl⟩
  | cons x rs ih =>
    intro slots base room
    rw [List.length_cons] at room ⊢
    obtain ⟨written, others⟩ := ih (slots := slots.set base (.written x)) (base := base + 1) (by omega)
    refine ⟨fun i r there => ?_, fun i small out => ?_⟩
    · cases i with
      | zero =>
        have first := others base (by omega) (.inl (by omega))
        rw [Table.get_set_same] at first
        exact first.trans (congrArg Slot.written (Option.some.inj there))
      | succ i =>
        rw [← written i r there, Nat.add_right_comm, Nat.add_assoc]
        rfl
    · refine (others i small (by omega)).trans ?_
      exact Table.get_set_ne slots base i (.written x) (by omega) (by omega) (by omega)

/-! ### Programs completed -/

/-- The state once a block is programmed, with a pending flush standing as given (R142). -/
def blockDone (k : SegIx) (blk n : Nat) (flush : Option Seq) (s : State) : State :=
  s.modJournal fun j =>
    { (j.modSegment k fun g => g.programmed blk (j.staged.take n)).programEnded with
      staged := j.staged.drop n, marks := j.marks ++ firstClaim k blk (j.staged.take n), flush := flush }

theorem completeBlock_eq (k : SegIx) (blk n : Nat) (s : State) : completeBlock k blk n s =
    let programmed := settleFlush (blockDone k blk n s.journal.flush s)
    if 63 ≤ blk then advanceHead k programmed else programmed := rfl

/-- A pending flush at the end of a block: it stands, or it ends with OK. -/
theorem settleFlush_blockDone {s : State} (run : s.inRun = true) (k : SegIx) (blk n : Nat) :
    let left (target : Seq) : Bool := (s.journal.staged.drop n).any fun r => decide (r.seq = target) || seqBelow r.seq target
    ((∀ target, s.journal.flush = some target → left target = true) ∧
      settleFlush (blockDone k blk n s.journal.flush s) = blockDone k blk n s.journal.flush s) ∨
    ∃ target, s.journal.flush = some target ∧ left target = false ∧
      settleFlush (blockDone k blk n s.journal.flush s) = (blockDone k blk n none s).settled .flushJournal .ok := by
  intro left
  cases flush : s.journal.flush with
  | none => exact .inl ⟨nofun, settleFlush_none rfl⟩
  | some target =>
    cases stays : left target with
    | true =>
      refine .inl ⟨fun _ e => Option.some.inj e ▸ stays, ?_⟩
      exact if_pos stays
    | false =>
      refine .inr ⟨target, rfl, stays, ?_⟩
      refine (if_neg (Bool.eq_false_iff.mp stays)).trans ?_
      exact answerLong_settled .flushJournal .ok (blockDone k blk n none s) run

theorem modJournal_settled (t : State) (c : Command) (code : ResultCode) (f : Journal → Journal) :
    (t.settled c code).modJournal f = (t.modJournal f).settled c code := by
  unfold State.settled
  rw [show (t.modJournal f).port .service = t.port .service from rfl]
  split <;> rfl

/-- A segment found in ring order: the first that meets the test. -/
theorem ringFind_some {j : Journal} {after : SegIx} {p : Segment → Bool} {d : Nat} (far : 1 ≤ d) (near : d ≤ 16)
    (meets : p (tget j.segments (after + Fin.ofNat 16 d)) = true)
    (first : ∀ e, 1 ≤ e → e < d → p (tget j.segments (after + Fin.ofNat 16 e)) = false) :
    j.ringFind after p = some (after + Fin.ofNat 16 d) := by
  unfold Journal.ringFind
  rw [List.find?_map]
  have found : (List.range 16).find? ((fun k => p (tget j.segments k)) ∘ fun i => after + Fin.ofNat 16 (i + 1)) = some (d - 1) := by
    rw [List.find?_range_eq_some]
    refine ⟨?_, List.mem_range.mpr (by omega), fun e below => ?_⟩
    · rw [Function.comp_apply, Nat.sub_add_cancel far]
      exact meets
    · rw [Bool.not_eq_true', Function.comp_apply]
      exact first (e + 1) (by omega) (by omega)
  rw [found]
  exact congrArg (fun d => some (after + Fin.ofNat 16 d)) (Nat.sub_add_cancel far)

theorem ringFind_none {j : Journal} {after : SegIx} {p : Segment → Bool} (none_ : ∀ k : SegIx, p (tget j.segments k) = false) :
    j.ringFind after p = none := by
  unfold Journal.ringFind
  rw [List.find?_eq_none]
  exact fun k _ => Bool.eq_false_iff.mp (none_ k)

theorem ring_ne (k : SegIx) {d : Nat} (far : 1 ≤ d) (near : d < 16) : k + Fin.ofNat 16 d ≠ k := by
  intro same
  have val := congrArg Fin.val same
  rw [Fin.val_add, Fin.val_ofNat] at val
  omega

/-- The segments once the head moves on from a full segment. -/
def Journal.filled (j : Journal) (k : SegIx) : Journal := j.modSegment k fun g => { g with state := .full }

theorem advanced_some {j : Journal} {k b : SegIx} (found : (j.filled k).ringFind k (fun g => decide (g.state = .blank)) = some b) :
    j.advanced k = (j.filled k).modSegment b fun g => { g with state := .filling 0 } := by
  unfold Journal.filled at found
  unfold Journal.advanced
  dsimp only
  rw [found]
  rfl

theorem advanced_none {j : Journal} {k : SegIx} (found : (j.filled k).ringFind k (fun g => decide (g.state = .blank)) = none) :
    j.advanced k = j.filled k := by
  unfold Journal.filled at found
  unfold Journal.advanced
  dsimp only
  rw [found]
  rfl

theorem jammed_iff (j : Journal) : j.jammed = true ↔ ∀ (k : SegIx) b, (tget j.segments k).state ≠ .filling b := by
  unfold Journal.jammed
  rw [Option.isNone_iff_eq_none]
  constructor
  · intro none_ k b filling
    have meets := tfind_none (d := 4) (n := 16) (by decide) none_ k
    rw [filling] at meets
    cases meets
  · intro none_
    cases found : j.fillingAt with
    | none => rfl
    | some k =>
      have meets := tfind_some found
      cases state : (tget j.segments k).state with
      | filling b => exact absurd state (none_ k b)
      | _ =>
        rw [state] at meets
        cases meets

/-! ### A block completed, by its segment (R142, R143) -/

/-- The state once a block's records have left staging for a directory, with a pending flush standing as given. -/
def arrayAfter (k : SegIx) (blk n : Nat) (segments : Table Segment 4) (flush : Option Seq) (s : State) : State :=
  { s with journal := { s.journal with
    segments := segments, staged := s.journal.staged.drop n, program := none
    erase := s.journal.erase.map fun e => { e with suspended := false }
    marks := s.journal.marks ++ firstClaim k blk (s.journal.staged.take n), flush := flush } }

/-- What a block program leaves in a state whose segment it wrote takes a state of its own. -/
def BlockWrote (k : SegIx) (blk m : Nat) (s : State) (state : SegState) (u : State) : Prop :=
  let j := s.journal
  let rs := j.staged.take m
  u = { s with journal := u.journal } ∧
  u.journal = { j with
    segments := u.journal.segments, staged := j.staged.drop m, program := none
    erase := j.erase.map fun e => { e with suspended := false }, marks := u.journal.marks, flush := u.journal.flush } ∧
  u.segment k = { s.segment k with
    state := state, slots := (u.segment k).slots, first := (u.segment k).first
    last := (rs.getLast?.map Record.seq).or (s.segment k).last } ∧
  (∀ i r, i < 8 → rs[i]? = some r → (u.segment k).slots.get (8 * blk + i) = .written r) ∧
  (∀ i : Fin 512, i.val < 8 * blk ∨ 8 * blk + rs.length ≤ i.val →
    (u.segment k).slots.get i.val = (s.segment k).slots.get i.val) ∧
  (blk ≠ 0 → (u.segment k).first = (s.segment k).first ∧ u.journal.marks = j.marks) ∧
  (∀ r, blk = 0 → rs.head? = some r → (u.segment k).first = some r.seq ∧ u.journal.marks = j.marks ++ [.first k r.seq])

theorem blockWrote_of {k : SegIx} {blk m : Nat} {segments : Table Segment 4} {s : State} {state : SegState} (few : m ≤ 8)
    (block : blk ≤ 63) (flush : Option Seq) (written : tget segments k =
      { (s.segment k).programmed blk (s.journal.staged.take m) with state := state }) :
    BlockWrote k blk m s state (arrayAfter k blk m segments flush s) := by
  let rs := s.journal.staged.take m
  have short : rs.length ≤ 8 := (List.length_take_le m s.journal.staged).trans few
  obtain ⟨inside, outside⟩ := get_writeSlots (rs := rs) (slots := (s.segment k).slots) (base := 8 * blk) (by omega)
  have segment : (arrayAfter k blk m segments flush s).segment k = { (s.segment k).programmed blk rs with state := state } := written
  refine ⟨rfl, rfl, ?_, fun i r _ there => ?_, fun i out => ?_, fun later => ?_, fun r zero head => ?_⟩
  · rw [segment]
    rfl
  · rw [segment]
    exact inside i r there
  · rw [segment]
    exact outside i.val i.isLt out
  · rw [segment]
    refine ⟨if_neg later, ?_⟩
    cases blk with
    | zero => exact absurd rfl later
    | succ b => exact List.append_nil _
  · subst zero
    rw [segment]
    have first : rs.head?.map Record.seq = some r.seq := congrArg (Option.map Record.seq) head
    refine ⟨first, ?_⟩
    have claim : firstClaim k 0 rs = [.first k r.seq] := by
      obtain ⟨rest, eq⟩ := List.head?_eq_some_iff.mp head
      rw [show rs = r :: rest from eq]
      rfl
    exact congrArg (s.journal.marks ++ ·) claim

/-- The directory once a block is written. -/
def blockSegments (k : SegIx) (blk n : Nat) (s : State) : Table Segment 4 :=
  tmod s.journal.segments k fun g => g.programmed blk (s.journal.staged.take n)

/-- The directory once the head has moved on after a block is written. -/
def headSegments (k : SegIx) (blk n : Nat) (s : State) : Table Segment 4 :=
  ((blockDone k blk n none s).journal.advanced k).segments

theorem advanced_flush (j : Journal) (flush : Option Seq) (k : SegIx) :
    ({ j with flush := flush } : Journal).advanced k = { j with segments := (j.advanced k).segments, flush := flush } := by
  cases found : (j.filled k).ringFind k (fun g => decide (g.state = .blank)) with
  | none => exact (advanced_none (j := { j with flush := flush }) found).trans (by rw [advanced_none found]; rfl)
  | some b => exact (advanced_some (j := { j with flush := flush }) found).trans (by rw [advanced_some found]; rfl)

theorem headDone_eq (k : SegIx) (blk n : Nat) (flush : Option Seq) (s : State) :
    (blockDone k blk n flush s).modJournal (fun j => j.advanced k) = arrayAfter k blk n (headSegments k blk n s) flush s := by
  have eq := advanced_flush (blockDone k blk n none s).journal flush k
  exact congrArg (fun j => { s with journal := j }) eq

/-! ### The directory after a block (R142, R143) -/

section
variable {k : SegIx} {blk n : Nat} {s : State}

theorem blockSegments_same : tget (blockSegments k blk n s) k = (s.segment k).programmed blk (s.journal.staged.take n) :=
  tget_tmod_same ..

theorem blockSegments_ne {i : SegIx} (ne : i ≠ k) : tget (blockSegments k blk n s) i = s.segment i :=
  tget_tmod_ne (by decide) _ _ _ _ ne.symm

/-- The journal whose head segment is full, before the head moves on. -/
def headFull (k : SegIx) (blk n : Nat) (s : State) : Journal := (blockDone k blk n none s).journal.filled k

theorem headFull_same : tget (headFull k blk n s).segments k =
    { (s.segment k).programmed blk (s.journal.staged.take n) with state := .full } :=
  (segment_modSegment_same ..).trans (congrArg (fun g : Segment => { g with state := .full }) blockSegments_same)

theorem headFull_ne {i : SegIx} (ne : i ≠ k) : tget (headFull k blk n s).segments i = s.segment i :=
  (segment_modSegment_ne _ _ ne.symm).trans (blockSegments_ne ne)

theorem headSegments_none (none_ : ∀ i, i ≠ k → (s.segment i).state ≠ .blank) :
    headSegments k blk n s = (headFull k blk n s).segments := by
  refine congrArg Journal.segments (advanced_none (ringFind_none fun i => ?_))
  refine decide_eq_false ?_
  by_cases same : i = k
  · subst same
    exact fun blank => nomatch (congrArg Segment.state (headFull_same (k := i) (blk := blk) (n := n) (s := s))).symm.trans blank
  · exact fun blank => none_ i same ((congrArg Segment.state (headFull_ne same)).symm.trans blank)

theorem headSegments_some {d : Nat} (far : 1 ≤ d) (near : d < 16) (blank : (s.segment (k + Fin.ofNat 16 d)).state = .blank)
    (first : ∀ e, 1 ≤ e → e < d → (s.segment (k + Fin.ofNat 16 e)).state ≠ .blank) : headSegments k blk n s =
      ((headFull k blk n s).modSegment (k + Fin.ofNat 16 d) fun g => { g with state := .filling 0 }).segments := by
  refine congrArg Journal.segments (advanced_some (ringFind_some far near.le ?_ fun e one below => ?_))
  · exact decide_eq_true ((congrArg Segment.state (headFull_ne (ring_ne k far near))).trans blank)
  · exact decide_eq_false fun h =>
      first e one below ((congrArg Segment.state (headFull_ne (ring_ne k one (below.trans near)))).symm.trans h)

end

/-! ### The head advanced (R143, R152) -/

theorem advanceHead_eq (k : SegIx) (t : State) : advanceHead k t =
    if (t.modJournal fun j => j.advanced k).journal.jammed = true then becomeJammed (t.modJournal fun j => j.advanced k)
    else t.modJournal fun j => j.advanced k := rfl

theorem journal_settled (t : State) (c : Command) (code : ResultCode) : (t.settled c code).journal = t.journal := by
  unfold State.settled
  split <;> rfl

theorem becomeJammed_quiet {t : State} (quiet : t.journal.flush = none) : becomeJammed t = raise .service .journalJam t := by
  unfold becomeJammed jamFlush
  rw [quiet]
  rfl

theorem becomeJammed_pending {t : State} {target : Seq} (run : t.inRun = true) (pends : t.journal.flush = some target) :
    becomeJammed t = raise .service .journalJam
      ((t.modJournal fun j => { j with flush := none }).settled .flushJournal .jammed) := by
  unfold becomeJammed jamFlush
  rw [pends]
  exact congrArg (raise .service .journalJam)
    (answerLong_settled .flushJournal .jammed (t.modJournal fun j => { j with flush := none }) run)

theorem headSegments_same_of {k : SegIx} {blk n : Nat} {s : State}
    (h : (∀ i, i ≠ k → (s.segment i).state ≠ .blank) ∨ ∃ d, 1 ≤ d ∧ d < 16 ∧ (s.segment (k + Fin.ofNat 16 d)).state = .blank ∧
      ∀ e, 1 ≤ e → e < d → (s.segment (k + Fin.ofNat 16 e)).state ≠ .blank) :
    tget (headSegments k blk n s) k = { (s.segment k).programmed blk (s.journal.staged.take n) with state := .full } := by
  rcases h with none_ | ⟨d, far, near, blank, first⟩
  · rw [headSegments_none none_]
    exact headFull_same
  · rw [headSegments_some far near blank first]
    exact (segment_modSegment_ne _ _ (ring_ne k far near)).trans headFull_same

section
variable {k : SegIx} {m : Nat} {s : State} (run : s.inRun = true)
include run

/-- The last block of a segment where no segment is BLANK: the journal is JAMMED (R143). -/
theorem completeBlock_jammed (jam : (arrayAfter k 63 m (headSegments k 63 m s) none s).journal.jammed = true) :
    completeBlock k 63 m s = raise .service .journalJam (match s.journal.flush with
      | none => arrayAfter k 63 m (headSegments k 63 m s) none s
      | some target => (arrayAfter k 63 m (headSegments k 63 m s) none s).settled .flushJournal
          (if (s.journal.staged.drop m).any (fun r => decide (r.seq = target) || seqBelow r.seq target) then .jammed else .ok)) := by
  rcases settleFlush_blockDone run k 63 m with ⟨stays, eq⟩ | ⟨old, flush, gone, eq⟩
  · have done : completeBlock k 63 m s = becomeJammed (arrayAfter k 63 m (headSegments k 63 m s) s.journal.flush s) := by
      rw [completeBlock_eq, eq]
      refine (if_pos (le_refl 63)).trans ((advanceHead_eq ..).trans ?_)
      rw [headDone_eq]
      exact if_pos jam
    rw [done]
    cases flush : s.journal.flush with
    | none => exact becomeJammed_quiet (t := arrayAfter k 63 m (headSegments k 63 m s) none s) rfl
    | some old =>
      refine (becomeJammed_pending (t := arrayAfter k 63 m (headSegments k 63 m s) (some old) s) run rfl).trans ?_
      exact congrArg (fun code => raise .service .journalJam ((arrayAfter k 63 m (headSegments k 63 m s) none s).settled
        .flushJournal code)) (if_pos (stays old flush)).symm
  · have done : completeBlock k 63 m s =
        becomeJammed ((arrayAfter k 63 m (headSegments k 63 m s) none s).settled .flushJournal .ok) := by
      rw [completeBlock_eq, eq]
      refine (if_pos (le_refl 63)).trans ((advanceHead_eq ..).trans ?_)
      rw [modJournal_settled, headDone_eq, journal_settled]
      exact if_pos jam
    rw [done, becomeJammed_quiet (by rw [journal_settled]; rfl), flush]
    exact congrArg (fun code => raise .service .journalJam ((arrayAfter k 63 m (headSegments k 63 m s) none s).settled
      .flushJournal code)) (if_neg (Bool.eq_false_iff.mp gone)).symm

/-- The end of a block whose head does not jam: a pending flush stands, or ends with OK. -/
theorem completeBlock_ends {blk : Nat} {segments : Table Segment 4}
    (moved : blk < 63 ∧ segments = blockSegments k blk m s ∨
      63 ≤ blk ∧ segments = headSegments k blk m s ∧ (arrayAfter k blk m segments none s).journal.jammed = false) :
    let left (target : Seq) : Bool := (s.journal.staged.drop m).any fun r => decide (r.seq = target) || seqBelow r.seq target
    ∃ flush, let u := arrayAfter k blk m segments flush s
      ((∀ target, s.journal.flush = some target → left target = true) → flush = s.journal.flush ∧ completeBlock k blk m s = u) ∧
      ∀ target, s.journal.flush = some target → left target = false →
        flush = none ∧ completeBlock k blk m s = u.settled .flushJournal .ok := by
  intro left
  rcases settleFlush_blockDone run k blk m with ⟨stays, eq⟩ | ⟨old, pends, gone, eq⟩
  · refine ⟨s.journal.flush, fun _ => ⟨rfl, ?_⟩, fun target pends gone => absurd (stays target pends) (Bool.eq_false_iff.mp gone)⟩
    rw [completeBlock_eq, eq]
    rcases moved with ⟨below, same⟩ | ⟨last, same, free⟩
    · subst same
      exact if_neg (Nat.not_le.mpr below)
    · subst same
      refine (if_pos last).trans ((advanceHead_eq ..).trans ?_)
      rw [headDone_eq]
      exact if_neg (Bool.eq_false_iff.mp free)
  · refine ⟨none, fun stays => absurd (stays old pends) (Bool.eq_false_iff.mp gone), fun target pends gone => ⟨rfl, ?_⟩⟩
    rw [completeBlock_eq, eq]
    rcases moved with ⟨below, same⟩ | ⟨last, same, free⟩
    · subst same
      exact if_neg (Nat.not_le.mpr below)
    · subst same
      refine (if_pos last).trans ((advanceHead_eq ..).trans ?_)
      rw [modJournal_settled, headDone_eq, journal_settled]
      exact if_neg (Bool.eq_false_iff.mp free)

theorem blockProgramComplete_runs {blk : Nat} (program : s.journal.program = some (.block k blk m)) :
    blockProgramComplete s = completeBlock k blk m s := by
  unfold blockProgramComplete
  rw [run, program]

end

end Sys2Proof.Machine

namespace Sys2Proof.Settled

open Sys2Proof.Machine

/-- Settles O49. -/
theorem arrayPrograms : Obligations.ArrayPrograms := by
  refine ⟨fun s run => ⟨fun c rest free suspended head => ?_, fun k blk free suspended empty filling state requested => ?_,
    fun k free none_ quiet target => ?_, fun e free erase suspended quiet => ?_, fun e free erase runs waits => ?_⟩,
    fun s run => ?_⟩
  · refine congrArg Host.Outcome.next ((markProgramStart_taken run (takesProgram_of free suspended) head).trans ?_)
    cases c <;> rfl
  · have started := blockProgramStart_taken run (takesProgram_of free suspended) empty filling state requested
    rw [waiting_of_free free] at started
    refine congrArg Host.Outcome.next (started.trans ?_)
    have more : min 8 s.journal.staged.length < s.journal.staged.length ↔ 8 < s.journal.staged.length := by
      rw [min_lt_iff, or_iff_left (lt_irrefl _)]
    exact congrArg (fun at_ => { s with journal := { s.journal with
      program := some (.block k blk (min 8 s.journal.staged.length)), commitDue := false, flushAt := at_ } })
      (if_congr more rfl rfl)
  · have journal := (journal_beginErase k s).trans (cursorErased_touches ..)
    have segments := segments_beginErase k s
    have same : (beginErase k s).segment k = (s.segment k).erasing :=
      (congrArg (fun v => tget v k) segments).trans (tget_tmod_same ..)
    refine ⟨beginErase k s, congrArg Host.Outcome.next (eraseStart_target run free none_ quiet target), ?_, ?_, ?_, ?_, fun i ne => ?_,
      (congrArg Journal.erase journal :), (congrArg Journal.staged journal :), (congrArg Journal.nextSeq journal :),
      beginErase_touches k s, fun dirty => ?_, ?_⟩
    · rw [same]
      rfl
    · rw [same]
      rfl
    · rw [same]
      rfl
    · rw [same]
      rfl
    · exact (congrArg (fun v => tget v i) segments).trans (tget_tmod_ne (by decide) _ _ _ _ ne.symm)
    · have empty : (s.segment k).records = [] := records_unread (by rw [dirty]; rfl)
      have whole := journal_beginErase k s
      have attn := attn_beginErase k s
      rw [empty, overrunOf_nil, if_pos rfl] at attn whole
      exact ⟨(congrArg Journal.overrun whole :), (congrArg Journal.cursor whole :), attn⟩
    · intro rs lost full
      exact ⟨attn_beginErase k s, overrun_beginErase, fun q last => cursor_beginErase last⟩
  · exact congrArg Host.Outcome.next (eraseStart_resumed run free erase suspended quiet)
  · exact congrArg Host.Outcome.next (eraseSuspend_waits run free erase runs waits)
  · intro j resumed
    refine ⟨fun k blk m program few => ?_, fun k q program => ?_, fun k program => ?_, fun k program => ?_,
      fun e free erase runs => ?_⟩
    · intro rs left wrote ends
      have complete : exec .blockProgramComplete s = .next (completeBlock k blk m s) :=
        congrArg Host.Outcome.next (blockProgramComplete_runs run program)
      have ends_of {segments : Table Segment 4} {flush : Option Seq}
          (h : ((∀ target, j.flush = some target → left target = true) →
              flush = j.flush ∧ completeBlock k blk m s = arrayAfter k blk m segments flush s) ∧
            ∀ target, j.flush = some target → left target = false →
              flush = none ∧ completeBlock k blk m s = (arrayAfter k blk m segments flush s).settled .flushJournal .ok) :
          ends (arrayAfter k blk m segments flush s) := by
        obtain ⟨stays, gone⟩ := h
        refine ⟨fun h => ?_, fun target pends h => ?_⟩
        · obtain ⟨same, eq⟩ := stays h
          exact ⟨same, complete.trans (congrArg Host.Outcome.next eq)⟩
        · obtain ⟨same, eq⟩ := gone target pends h
          exact ⟨same, complete.trans (congrArg Host.Outcome.next eq)⟩
      refine ⟨fun below => ?_, fun last none_ => ?_, fun d last far near blank first => ?_⟩
      · obtain ⟨flush, h⟩ := completeBlock_ends run (.inl ⟨below, rfl⟩)
        exact ⟨_, blockWrote_of few below.le flush blockSegments_same, fun i ne => blockSegments_ne ne, ends_of h⟩
      · subst last
        have blankless : ∀ i, i ≠ k → (s.segment i).state ≠ .blank := fun i ne => (none_ i ne).1
        have segments := headSegments_none (blk := 63) (n := m) blankless
        have jam : (arrayAfter k 63 m (headSegments k 63 m s) none s).journal.jammed = true := by
          refine (jammed_iff _).mpr fun i b filling => ?_
          by_cases same : i = k
          · subst same
            have full := headSegments_same_of (blk := 63) (n := m) (.inl blankless)
            exact nomatch (congrArg Segment.state full).symm.trans filling
          · refine (none_ i same).2 b ((congrArg Segment.state ?_).symm.trans filling)
            exact (congrArg (fun v => tget v i) segments).trans (headFull_ne same)
        refine ⟨_, blockWrote_of few le_rfl none (headSegments_same_of (.inl blankless)), fun i ne => ?_, rfl, jam,
          complete.trans (congrArg Host.Outcome.next (completeBlock_jammed run jam))⟩
        exact (congrArg (fun v => tget v i) segments).trans (headFull_ne ne)
      · subst last
        have segments := headSegments_some (blk := 63) (n := m) far near blank first
        have here : tget (headSegments k 63 m s) (k + Fin.ofNat 16 d) =
            { s.segment (k + Fin.ofNat 16 d) with state := .filling 0 } :=
          (congrArg (fun v => tget v (k + Fin.ofNat 16 d)) segments).trans
            ((segment_modSegment_same ..).trans (congrArg (fun g : Segment => { g with state := .filling 0 })
              (headFull_ne (ring_ne k far near))))
        have free (flush : Option Seq) : (arrayAfter k 63 m (headSegments k 63 m s) flush s).journal.jammed = false :=
          Bool.eq_false_iff.mpr fun jam => (jammed_iff _).mp jam (k + Fin.ofNat 16 d) 0 (congrArg Segment.state here)
        obtain ⟨flush, h⟩ := completeBlock_ends run (.inr ⟨le_rfl, rfl, free none⟩)
        refine ⟨_, blockWrote_of few le_rfl flush (headSegments_same_of (.inr ⟨d, far, near, blank, first⟩)), here,
          fun i ne other => ?_, free flush, ends_of h⟩
        exact (congrArg (fun v => tget v i) segments).trans ((segment_modSegment_ne _ _ other.symm).trans (headFull_ne ne))
    · refine congrArg Host.Outcome.next ?_
      rw [run, program]
      rfl
    · refine congrArg Host.Outcome.next ?_
      rw [run, program]
      exact answerLong_settled .holdSegment .ok _ run
    · refine congrArg Host.Outcome.next ?_
      rw [run, program]
      exact answerLong_settled .clearHold .ok _ run
    · let t : State := s.modJournal fun j => { j.modSegment e.segment fun g => g.erased j.jammed with erase := none }
      have here : t.segment e.segment = (s.segment e.segment).erased s.journal.jammed :=
        segment_modSegment_same s.journal e.segment fun g => g.erased s.journal.jammed
      refine ⟨t, congrArg Host.Outcome.next (segmentEraseComplete_runs run free erase runs), rfl, rfl, ?_, ?_, ?_, fun i => ?_,
        fun i ne => segment_modSegment_ne s.journal (fun g => g.erased s.journal.jammed) ne.symm⟩
      · rw [here]
        rfl
      · rw [here]
        rfl
      · rw [here]
        rfl
      · rw [here]
        exact Table.get_replicate ..

end Sys2Proof.Settled
end

section
/-! The statement of the main supply (R193, R194). -/

/- The joined text is checked with bounded memory: proofs are elaborated one after another, not each in a thread of its own. -/
set_option Elab.async false

namespace Sys2Proof.Machine

/-! ### The journal after an offer and after a program, by the journal alone -/

/-- A journal once a pending flush is tested (R152). -/
def Journal.flushSettled (j : Journal) : Journal :=
  { j with flush := j.flush.filter fun target => j.staged.any fun r => seqAtOrBelow r.seq target }

theorem journal_settleFlush (s : State) : (settleFlush s).journal = s.journal.flushSettled := by
  have by_flush {f : Option Seq}
      (same : f = s.journal.flush.filter fun target => s.journal.staged.any fun r => seqAtOrBelow r.seq target) :
      { s.journal with flush := f } = s.journal.flushSettled := congrArg (fun f => { s.journal with flush := f }) same
  cases flush : s.journal.flush with
  | none =>
    rw [settleFlush_none flush]
    exact by_flush (by rw [flush]; rfl)
  | some target =>
    unfold settleFlush
    rw [flush]
    dsimp only
    split
    · next left => exact by_flush (by rw [flush, Option.filter_some, if_pos left])
    · next gone =>
      rw [answerLong_journal]
      exact by_flush (by rw [flush, Option.filter_some, if_neg gone])

theorem journal_offer (o : Offer) (s : State) : (offer o s).journal =
    if s.journal.staged.length < 64 then s.journal.taken o s.inRun s.supply.elapsed
    else (s.journal.taken o s.inRun s.supply.elapsed).flushSettled := by
  by_cases space : s.journal.staged.length < 64
  · exact (congrArg State.journal (if_pos space)).trans (if_pos space).symm
  · refine Eq.trans ?_ (if_neg space).symm
    rw [offer_full (Nat.not_lt.mp space), journal_settleFlush, journal_told]
    rfl

theorem journal_offer_congr {s t : State} (journal : s.journal = t.journal) (supply : s.supply = t.supply) (o : Offer) :
    (offer o s).journal = (offer o t).journal := by
  rw [journal_offer, journal_offer, journal]
  unfold State.inRun
  rw [supply]

theorem program_taken (j : Journal) (o : Offer) (run : Bool) (elapsed : Nat) : (j.taken o run elapsed).program = j.program := by
  unfold Journal.taken Journal.stage
  dsimp only
  split
  · rfl
  · split
    · rfl
    · split <;> rfl

theorem program_offer (o : Offer) (s : State) : (offer o s).journal.program = s.journal.program := by
  rw [journal_offer]
  split
  · exact program_taken ..
  · exact program_taken s.journal o s.inRun s.supply.elapsed

theorem program_abandonSessions (which : NodeAddr → Bool) (s : State) :
    (abandonSessions which s).journal.program = s.journal.program := by
  unfold abandonSessions
  generalize (s.charge.sessions.filter fun x => which x.node) = xs
  induction xs generalizing s with
  | nil => rfl
  | cons x xs ih =>
    refine (ih (abandonSession s x)).trans ?_
    unfold abandonSession
    rw [endSession_journal]
    exact program_offer ..

/-- A journal once the head has moved on from a segment, a flush that a jam ends gone. -/
def Journal.headMoved (j : Journal) (k : SegIx) : Journal :=
  if (j.advanced k).jammed = true then { j.advanced k with flush := none } else j.advanced k

theorem journal_advanceHead (k : SegIx) (s : State) : (advanceHead k s).journal = s.journal.headMoved k := by
  rw [advanceHead_eq]
  unfold Journal.headMoved
  by_cases jam : (s.journal.advanced k).jammed = true
  · refine (congrArg State.journal (if_pos (c := (s.journal.advanced k).jammed = true) jam)).trans (Eq.trans ?_ (if_pos jam).symm)
    unfold becomeJammed jamFlush
    rw [raise_journal]
    split
    · exact answerLong_journal ..
    · next quiet =>
      have none_ : (s.journal.advanced k).flush = none := Option.not_isSome_iff_eq_none.mp quiet
      exact congrArg (fun f => { s.journal.advanced k with flush := f }) none_
  · exact (congrArg State.journal (if_neg (c := (s.journal.advanced k).jammed = true) jam)).trans (if_neg jam).symm

theorem journal_completeBlock (k : SegIx) (blk n : Nat) (s : State) : (completeBlock k blk n s).journal =
    let programmed := (blockDone k blk n s.journal.flush s).journal.flushSettled
    if 63 ≤ blk then programmed.headMoved k else programmed := by
  rw [completeBlock_eq]
  dsimp only
  split
  · rw [journal_advanceHead, journal_settleFlush]
  · exact journal_settleFlush ..

/-- A program completes alike in states with one journal. -/
theorem journal_completeProgram_congr {s t : State} (same : s.journal = t.journal) :
    (completeProgram s).journal = (completeProgram t).journal := by
  have done (k : SegIx) (blk n : Nat) : (blockDone k blk n s.journal.flush s).journal =
      (blockDone k blk n t.journal.flush t).journal := by
    unfold blockDone State.modJournal
    rw [same]
  unfold completeProgram
  rw [same]
  split
  · rw [journal_completeBlock, journal_completeBlock, done]
  · exact congrArg (fun j : Journal => (j.modSegment _ _).programEnded) same
  · unfold completeHold
    rw [answerLong_journal, answerLong_journal]
    exact congrArg (fun j : Journal => (j.modSegment _ _).programEnded) same
  · unfold completeRelease
    rw [answerLong_journal, answerLong_journal]
    exact congrArg (fun j : Journal => (j.modSegment _ _).programEnded) same
  · exact same

/-! ### What a program and an entry to RETAIN leave unchanged -/

/-- Out of RUN no late answer reaches the port. -/
theorem answerLong_retain {s : State} (off : s.inRun = false) (c : Command) (r : Reply) : answerLong c r s = s :=
  if_neg (by rw [off]; exact fun h => Bool.false_ne_true h.1)

/-- A step of the journal: the journal changes, causes are raised, and in RUN the port may be answered. -/
structure JournalStep (s t : State) : Prop where
  rest : t = { s with ports := t.ports, attn := t.attn, journal := t.journal }
  pending : PendingKept s t
  ports : s.inRun = false → t.ports = s.ports

theorem JournalStep.inRun {s t : State} (h : JournalStep s t) : t.inRun = s.inRun := (congrArg State.inRun h.rest :)

theorem JournalStep.trans {s t u : State} (h : JournalStep s t) (h' : JournalStep t u) : JournalStep s u where
  rest := h'.rest.trans (by conv_lhs => rw [h.rest])
  pending := h.pending.trans h'.pending
  ports := fun off => (h'.ports (h.inRun.trans off)).trans (h.ports off)

theorem journalStep_modJournal (s : State) (f : Journal → Journal) : JournalStep s (s.modJournal f) where
  rest := rfl
  pending := pendingKept_of_attn rfl
  ports := fun _ => rfl

theorem journalStep_raise (p : Port) (c : Cause) (s : State) : JournalStep s (raise p c s) where
  rest := rfl
  pending := pendingKept_raise ..
  ports := fun _ => rfl

theorem journalStep_answerLong (c : Command) (r : Reply) (s : State) : JournalStep s (answerLong c r s) where
  rest := by
    conv_lhs => rw [answerLong_touches]
    rw [answerLong_journal]
  pending := by
    unfold answerLong
    split
    · exact (pendingKept_raise ..).congr rfl
    · exact pendingKept_of_attn rfl
  ports := fun off => by rw [answerLong_retain off]

theorem journalStep_settleFlush (s : State) : JournalStep s (settleFlush s) := by
  unfold settleFlush
  split
  · split
    · exact journalStep_modJournal s id
    · exact (journalStep_modJournal s fun j => { j with flush := none }).trans (journalStep_answerLong ..)
  · exact journalStep_modJournal s id

theorem journalStep_advanceHead (k : SegIx) (s : State) : JournalStep s (advanceHead k s) := by
  rw [advanceHead_eq]
  have moved := journalStep_modJournal s fun j => j.advanced k
  split
  · unfold becomeJammed jamFlush
    refine moved.trans (JournalStep.trans ?_ (journalStep_raise ..))
    split
    · exact (journalStep_modJournal _ fun j => { j with flush := none }).trans (journalStep_answerLong ..)
    · exact journalStep_modJournal _ id
  · exact moved

theorem journalStep_completeBlock (k : SegIx) (blk n : Nat) (s : State) : JournalStep s (completeBlock k blk n s) := by
  rw [completeBlock_eq]
  have programmed : JournalStep s (settleFlush (blockDone k blk n s.journal.flush s)) :=
    JournalStep.trans (journalStep_modJournal s _) (journalStep_settleFlush _)
  dsimp only
  split
  · exact programmed.trans (journalStep_advanceHead ..)
  · exact programmed

theorem journalStep_completeProgram (s : State) : JournalStep s (completeProgram s) := by
  unfold completeProgram
  split
  · exact journalStep_completeBlock ..
  · exact journalStep_modJournal ..
  · exact (journalStep_modJournal ..).trans (journalStep_answerLong ..)
  · exact (journalStep_modJournal ..).trans (journalStep_answerLong ..)
  · exact journalStep_modJournal s id

theorem journalStep_offer (o : Offer) (s : State) : JournalStep s (offer o s) := by
  unfold offer
  have taken : JournalStep s { s with journal := s.journal.taken o s.inRun s.supply.elapsed } :=
    journalStep_modJournal s fun j => j.taken o s.inRun s.supply.elapsed
  dsimp only
  split
  · exact taken
  · split
    · exact taken.trans ((journalStep_raise ..).trans (journalStep_settleFlush _))
    · exact taken.trans (journalStep_settleFlush _)

/-! ### Sessions abandoned: the ports out of RUN, the lamps, the Charge Queue -/

theorem ports_abandonSessions_retain {s : State} (off : s.inRun = false) (which : NodeAddr → Bool) :
    (abandonSessions which s).ports = s.ports := by
  unfold abandonSessions
  generalize (s.charge.sessions.filter fun x => which x.node) = xs
  induction xs generalizing s with
  | nil => rfl
  | cons x xs ih =>
    have ports : (abandonSession s x).ports = s.ports := by
      unfold abandonSession
      rw [endSession_ports]
      exact (journalStep_offer ..).ports off
    refine (ih (s := abandonSession s x) ?_).trans ports
    unfold State.inRun
    rw [abandonSession_supply]
    exact off

theorem lamps_vacate (r : RoomIx) (s : State) : (vacate r s).lamps = { s.lamps with entries := (vacate r s).lamps.entries } := by
  rw [vacate_eq, raise_lamps]
  unfold roomVacated writePrimary State.modLamp
  rw [show (removeFromFolio (s.room r).folio r (s.modRoom r Room.vacated)).lamps = s.lamps from lamp_removeFromFolio ..]

theorem lamps_endSession (x : Session) (s : State) : (endSession x s).lamps =
    { s.lamps with entries := (endSession x s).lamps.entries } := by
  rw [endSession_eq]
  dsimp only
  have roomed (gone : State) (same : gone.lamps = s.lamps) :
      (if (s.room x.room).closing = some .scanDone then vacate x.room gone else gone).lamps = { s.lamps with
        entries := (if (s.room x.room).closing = some .scanDone then vacate x.room gone else gone).lamps.entries } := by
    split
    · exact (lamps_vacate ..).trans (by rw [same])
    · rw [same]
  split
  · exact roomed _ rfl
  · rw [settleFolio_lamps]
    exact roomed _ rfl

theorem queue_settleFolio (f : FolioIx) (s : State) : (settleFolio f s).charge.queue = s.charge.queue := by
  unfold settleFolio
  split <;> rfl

theorem queue_vacate (r : RoomIx) (s : State) : (vacate r s).charge.queue = s.charge.queue := by
  have removed : (removeFromFolio (s.room r).folio r (s.modRoom r Room.vacated)).charge.queue = s.charge.queue := by
    unfold removeFromFolio
    split
    · exact queue_settleFolio ..
    · rfl
  exact removed

theorem queue_endSession (x : Session) (s : State) : (endSession x s).charge.queue = s.charge.queue := by
  rw [endSession_eq]
  dsimp only
  have roomed (gone : State) : (if (s.room x.room).closing = some .scanDone then vacate x.room gone else gone).charge.queue =
      gone.charge.queue := by
    split
    · exact queue_vacate ..
    · rfl
  split
  · exact roomed _
  · exact (queue_settleFolio ..).trans (roomed _)

theorem lamps_abandonSessions (which : NodeAddr → Bool) (s : State) : (abandonSessions which s).lamps =
    { s.lamps with entries := (abandonSessions which s).lamps.entries } := by
  unfold abandonSessions
  generalize (s.charge.sessions.filter fun x => which x.node) = xs
  induction xs generalizing s with
  | nil => rfl
  | cons x xs ih =>
    have lamps : (abandonSession s x).lamps = { s.lamps with entries := (abandonSession s x).lamps.entries } := by
      unfold abandonSession
      exact (lamps_endSession ..).trans (by rw [offer_lamps])
    exact (ih (abandonSession s x)).trans (by rw [lamps]; rfl)

theorem queue_abandonSessions (which : NodeAddr → Bool) (s : State) : (abandonSessions which s).charge.queue = s.charge.queue := by
  unfold abandonSessions
  generalize (s.charge.sessions.filter fun x => which x.node) = xs
  induction xs generalizing s with
  | nil => rfl
  | cons x xs ih =>
    refine (ih (abandonSession s x)).trans ?_
    unfold abandonSession
    rw [queue_endSession, offer_charge]

theorem sessions_abandonSessions_every (s : State) : (abandonSessions everyNode s).charge.sessions = [] :=
  List.eq_nil_iff_forall_not_mem.mpr fun _ there => Bool.false_ne_true (not_mem_abandonSessions there).symm

/-! ### Entry to RETAIN (R193) -/

/-- The state once the lines, the nodes and the Verdict Engine have entered RETAIN. -/
def retainEntered (s : State) : State := verdictRetain (linesRetain (setPower .retain s))

section
variable (s : State)

theorem line_retainEntered (l : LineIx) : (retainEntered s).line l =
    { s.line l with exchange := none, verdicts := [], busy := none } :=
  tget_tmap (d := 4) (n := 16) (by decide) s.lines (fun _ ln => ln.retained) l

theorem node_retainEntered (n : NodeAddr) : (retainEntered s).node n =
    { s.node n with modePending := false, lampPending := false, grant := none, heldOpen := none, door := .unknown } := by
  have unmarked : (linesRetain (setPower .retain s)).node n = (s.node n).unmarked := node_mapNodes s (fun _ nd => nd.unmarked) n
  unfold retainEntered verdictRetain
  rw [node_leaveService]
  exact congrArg (fun nd : Node => { nd with grant := none, heldOpen := none, door := .unknown }) unmarked

theorem room_retainEntered (r : RoomIx) : (retainEntered s).room r =
    if (s.room r).doorNode.isSome then { s.room r with door := .unknown } else s.room r := by
  let before : State := { linesRetain (setPower .retain s) with verdict := { s.verdict with queue := [] } }
  have eq : retainEntered s = leaveService everyNode before := rfl
  rw [eq]
  cases named : (s.room r).doorNode with
  | none => exact room_leaveService_unnamed (s := before) named
  | some n => exact room_leaveService_named (s := before) named

theorem lamp_retainEntered (r : RoomIx) : (retainEntered s).lamp r =
    match (s.room r).doorNode with
    | some n => if (s.node n).door = .unknown then s.lamp r
      else { s.lamp r with primary := { (s.lamp r).primary with alarm := (s.node n).latch } }
    | none => s.lamp r := by
  let before : State := { linesRetain (setPower .retain s) with verdict := { s.verdict with queue := [] } }
  have eq : retainEntered s = leaveService everyNode before := rfl
  have unmarked (n : NodeAddr) : before.node n = (s.node n).unmarked := node_mapNodes s (fun _ nd => nd.unmarked) n
  rw [eq]
  cases named : (s.room r).doorNode with
  | none => exact lamp_leaveService_unnamed (s := before) named
  | some n =>
    refine (lamp_leaveService_named (s := before) named).trans ?_
    rw [unmarked]
    by_cases unknown : (s.node n).door = .unknown
    · exact (if_neg fun h => h.2 unknown).trans (if_pos unknown).symm
    · exact (if_pos ⟨rfl, unknown⟩).trans (if_neg unknown).symm

end

/-- The state once the sessions have ended at an entry to RETAIN. -/
def retainLeft (s : State) : State := abandonSessions everyNode (retainEntered s)

/-- The state once every block has entered RETAIN, before POWER_LOSS is recorded. -/
def retainStored (s : State) : State :=
  { journalRetain (retainLeft s) with
    lamps := (journalRetain (retainLeft s)).lamps.retained
    emergency := (journalRetain (retainLeft s)).emergency.programmed }

theorem enterRetain_eq (s : State) : enterRetain s =
    if s.supply.cell = .low then setPower .lost (recordLoss s.verdict.queue.length (retainStored s))
    else recordLoss s.verdict.queue.length (retainStored s) := rfl

theorem retainLeft_touches (s : State) : retainLeft s = { s with
    ports := (retainLeft s).ports, attn := (retainLeft s).attn, rooms := (retainLeft s).rooms
    verdict := { s.verdict with queue := [] }, nodes := (retainEntered s).nodes, lines := (retainEntered s).lines
    charge := (retainLeft s).charge, journal := (retainLeft s).journal, lamps := (retainLeft s).lamps
    supply := { s.supply with power := .retain } } := abandonSessions_touches everyNode (retainEntered s)

theorem off_retainLeft (s : State) : (retainLeft s).inRun = false := (congrArg State.inRun (retainLeft_touches s) :)

theorem journalStep_journalRetain (s : State) : JournalStep s (journalRetain s) :=
  (journalStep_completeProgram s).trans (journalStep_modJournal ..)

theorem retainStored_touches (s : State) : retainStored s = { retainLeft s with
    ports := (retainLeft s).ports, attn := (journalRetain (retainLeft s)).attn, journal := (journalRetain (retainLeft s)).journal
    lamps := (retainLeft s).lamps.retained, emergency := s.emergency.programmed } := by
  have step := journalStep_journalRetain (retainLeft s)
  have emergency : (retainLeft s).emergency = s.emergency := (congrArg State.emergency (retainLeft_touches s) :)
  unfold retainStored
  conv_lhs => rw [step.rest, step.ports (off_retainLeft s), emergency]

theorem completeProgram_exec {t : State} (run : t.inRun = true) {p : Option Program} (is : t.journal.program = p) :
    match (generalizing := false) p with
    | none => completeProgram t = t
    | some (.block _ _ _) => exec .blockProgramComplete t = .next (completeProgram t)
    | some (.firstMark _ _) => exec .firstSequenceMarkProgrammed t = .next (completeProgram t)
    | some (.holdMark _) => exec .holdMarkProgrammed t = .next (completeProgram t)
    | some (.releaseMark _) => exec .releaseMarkProgrammed t = .next (completeProgram t) := by
  cases p with
  | none =>
    dsimp only
    unfold completeProgram
    rw [is]
  | some p =>
    cases p with
    | block k blk n =>
      refine congrArg Host.Outcome.next ((blockProgramComplete_runs run is).trans ?_)
      unfold completeProgram
      rw [is]
    | firstMark k q =>
      refine congrArg Host.Outcome.next ?_
      unfold completeProgram
      rw [run, is]
    | holdMark k =>
      refine congrArg Host.Outcome.next ?_
      unfold completeProgram
      rw [run, is]
    | releaseMark k =>
      refine congrArg Host.Outcome.next ?_
      unfold completeProgram
      rw [run, is]

/-- The fields of a journal that an entry to RETAIN leaves behind (R158). -/
def Journal.retained (j : Journal) : Journal :=
  { j with
    erase := none, marks := j.marks.filter MarkClaim.isFirst
    segments := tmap 16 j.segments fun _ g => { g with holdPending := false }
    flush := none, flushAt := none, commitDue := false }

theorem segment_retained (j : Journal) (k : SegIx) : tget j.retained.segments k = { tget j.segments k with holdPending := false } := by
  unfold Journal.retained
  rw [tget_tmap (by decide)]

/-- The POWER_LOSS record of an entry to RETAIN. -/
def lossRecord (s : State) : Offer :=
  { kind := .powerLoss, cls := .notice, time := s.now, detail := BitVec.ofNat 16 s.verdict.queue.length }

theorem enterRetain_touches (s : State) : enterRetain s = { offer (lossRecord s) (retainStored s) with
    supply := { s.supply with
      power := if s.supply.cell = .low then .lost else .retain, lastLoss := some s.now, lossElapsed := s.supply.elapsed } } := by
  have supply : (retainStored s).supply = { s.supply with power := .retain } := by
    rw [retainStored_touches, retainLeft_touches]
  have now : (retainStored s).now = s.now := by
    unfold State.now
    rw [supply]
  have recorded : recordLoss s.verdict.queue.length (retainStored s) = { offer (lossRecord s) (retainStored s) with
      supply := { s.supply with power := .retain, lastLoss := some s.now, lossElapsed := s.supply.elapsed } } := by
    unfold recordLoss lossRecord
    dsimp only
    rw [now, offer_supply, supply]
  rw [enterRetain_eq, recorded]
  split <;> rfl

theorem enterRetain_rest (s : State) : enterRetain s = { s with
    ports := s.ports, attn := (enterRetain s).attn, rooms := (retainLeft s).rooms, verdict := { s.verdict with queue := [] }
    nodes := (retainEntered s).nodes, lines := (retainEntered s).lines, charge := (retainLeft s).charge
    journal := (offer (lossRecord s) (retainStored s)).journal, lamps := (retainLeft s).lamps.retained
    supply := { s.supply with
      power := if s.supply.cell = .low then .lost else .retain, lastLoss := some s.now, lossElapsed := s.supply.elapsed }
    emergency := s.emergency.programmed } := by
  have stored := retainStored_touches s
  have left := retainLeft_touches s
  have off : (retainStored s).inRun = false := (congrArg State.inRun stored :).trans (off_retainLeft s)
  have ports : (offer (lossRecord s) (retainStored s)).ports = s.ports :=
    ((journalStep_offer ..).ports off).trans ((congrArg State.ports stored :).trans
      (ports_abandonSessions_retain (s := retainEntered s) rfl everyNode))
  have rooms : (retainStored s).rooms = (retainLeft s).rooms := (congrArg State.rooms stored :)
  have keys : (retainStored s).keys = s.keys := (congrArg State.keys stored :).trans (congrArg State.keys left :)
  have verdict : (retainStored s).verdict = { s.verdict with queue := [] } :=
    (congrArg State.verdict stored :).trans (congrArg State.verdict left :)
  have nodes : (retainStored s).nodes = (retainEntered s).nodes := (congrArg State.nodes stored :).trans (congrArg State.nodes left :)
  have lines : (retainStored s).lines = (retainEntered s).lines := (congrArg State.lines stored :).trans (congrArg State.lines left :)
  have charge : (retainStored s).charge = (retainLeft s).charge := (congrArg State.charge stored :)
  have lamps : (retainStored s).lamps = (retainLeft s).lamps.retained := (congrArg State.lamps stored :)
  have emergency : (retainStored s).emergency = s.emergency.programmed := (congrArg State.emergency stored :)
  have pending : (retainStored s).pending = s.pending := (congrArg State.pending stored :).trans (congrArg State.pending left :)
  rw [enterRetain_touches]
  conv_lhs => rw [offer_touches, ports, rooms, keys, verdict, nodes, lines, charge, lamps, emergency, pending]

theorem pendingKept_enterRetain (s : State) : PendingKept s (enterRetain s) := by
  have entered : PendingKept s (retainEntered s) := pendingKept_of_attn rfl
  have left : PendingKept s (retainLeft s) := entered.trans (pendingKept_abandonSessions ..)
  have journaled : PendingKept s (retainStored s) := (left.trans (journalStep_journalRetain _).pending).trans (pendingKept_of_attn rfl)
  have offered := journaled.trans (pendingKept_offer (lossRecord s) _)
  exact offered.trans (pendingKept_of_attn (congrArg State.attn (enterRetain_touches s) :))

/-! ### A warm restart (R194) -/

/-- The nodes of the lines that restart have their marks cleared (R110). -/
def marksDropped (s : State) : State :=
  { s with nodes := mapNodes s.nodes fun n nd => if decide ((s.line n.line).state ≠ .stopped) then nd.unmarked else nd }

theorem node_linesRestart (s : State) (n : NodeAddr) : (linesRestart s).node n = { s.node n with
    link := if (s.node n).config.configured then .unpolled else (s.node n).link
    missed := if (s.node n).config.configured then 0 else (s.node n).missed
    modePending := (s.node n).modePending && decide ((s.line n.line).state = .stopped)
    lampPending := (s.node n).lampPending && decide ((s.line n.line).state = .stopped)
    grant := none, heldOpen := none, door := .unknown } := by
  have dropped : (marksDropped s).node n = if decide ((s.line n.line).state ≠ .stopped) = true then (s.node n).unmarked else s.node n :=
    node_mapNodes s (fun n nd => if decide ((s.line n.line).state ≠ .stopped) then nd.unmarked else nd) n
  have unpolled (nd : Node) : (if nd.config.configured = true then nd.unpolled else nd) = { nd with
      link := if nd.config.configured then .unpolled else nd.link, missed := if nd.config.configured then 0 else nd.missed } := by
    split <;> rfl
  have every : everyNode n = true := rfl
  have left : (linesRestart s).node n = (leaveService everyNode (unpollNodes everyNode (marksDropped s))).node n := rfl
  rw [left, node_leaveService, if_pos every, node_unpollNodes, every, Bool.true_and, unpolled, dropped]
  by_cases stopped : (s.line n.line).state = .stopped
  · have out : ¬ decide ((s.line n.line).state ≠ .stopped) = true := by
      rw [decide_eq_true_iff]
      exact not_not.mpr stopped
    rw [if_neg out, decide_eq_true stopped, Bool.and_true, Bool.and_true]
  · rw [if_pos (decide_eq_true stopped), decide_eq_false stopped, Bool.and_false, Bool.and_false]
    rfl

theorem room_linesRestart (s : State) (r : RoomIx) : (linesRestart s).room r =
    if (s.room r).doorNode.isSome then { s.room r with door := .unknown } else s.room r := by
  have eq : (linesRestart s).room r = (leaveService everyNode (unpollNodes everyNode (marksDropped s))).room r := rfl
  rw [eq]
  cases named : (s.room r).doorNode with
  | none => exact room_leaveService_unnamed (s := unpollNodes everyNode (marksDropped s)) named
  | some n => exact room_leaveService_named (s := unpollNodes everyNode (marksDropped s)) named

theorem lamp_linesRestart {s : State} {r : RoomIx}
    (unknown : ∀ n, (s.room r).doorNode = some n → (s.node n).door = .unknown) : (linesRestart s).lamp r = s.lamp r := by
  let before := unpollNodes everyNode (marksDropped s)
  have door (n : NodeAddr) : (before.node n).door = (s.node n).door := by
    have dropped : ((marksDropped s).node n).door = (s.node n).door := by
      refine (congrArg Node.door (node_mapNodes s (fun n nd =>
        if decide ((s.line n.line).state ≠ .stopped) then nd.unmarked else nd) n)).trans ?_
      split <;> rfl
    refine (congrArg Node.door (node_unpollNodes everyNode (marksDropped s) n)).trans (Eq.trans ?_ dropped)
    split <;> rfl
  have eq : (linesRestart s).lamp r = (leaveService everyNode before).lamp r := rfl
  rw [eq]
  cases named : (s.room r).doorNode with
  | none => exact lamp_leaveService_unnamed (s := before) named
  | some n =>
    refine (lamp_leaveService_named (s := before) named).trans (if_neg fun h => h.2 ?_)
    exact (door n).trans (unknown n named)

theorem lamps_linesRestart (s : State) : (linesRestart s).lamps = { s.lamps with entries := (linesRestart s).lamps.entries } := rfl

theorem tget_journalRestart (s : State) (k : SegIx) :
    tget (journalRestart s).journal.segments k = { tget s.journal.segments k with guard := true } := by
  unfold journalRestart State.modJournal
  rw [tget_tmap (by decide)]

/-- The state of a part that has restarted warm, before its return is recorded. -/
def warmStarted (s : State) : State :=
  let restarted := journalRestart (linesRestart { setPower .run s with ports := s.ports.map PortRec.warm })
  requestSweep .full (restarted.modLamps fun u => u.restarted s.supply.elapsed)

theorem warmRestart_eq (s : State) : warmRestart s = recordReturn (warmStarted s) := rfl

theorem requestSweep_full (s : State) : requestSweep .full s = { s with lamps := { s.lamps with
    sweep := if s.lamps.sweep = .idle then .marking .full 0 else s.lamps.sweep
    pendingStart := if s.lamps.sweep = .idle then s.lamps.pendingStart else some .full } } := by
  rw [requestSweep_eq, ite_self]
  split <;> rfl

/-- The lamps of a part that has restarted warm. -/
def warmLamps (s : State) : Indicator :=
  { (linesRestart { setPower .run s with ports := s.ports.map PortRec.warm }).lamps.restarted s.supply.elapsed with
    sweep := if s.lamps.sweep = .idle then .marking .full 0 else s.lamps.sweep
    pendingStart := if s.lamps.sweep = .idle then s.lamps.pendingStart else some .full }

theorem tget_warmLamps (s : State) (r : RoomIx) : tget (warmLamps s).entries r =
    { (linesRestart { setPower .run s with ports := s.ports.map PortRec.warm }).lamp r with lastSent := none } := by
  unfold warmLamps Indicator.restarted State.lamp
  rw [tget_tmap (by decide)]

theorem warmStarted_touches (s : State) : warmStarted s = { s with
    ports := s.ports.map PortRec.warm
    rooms := (linesRestart { setPower .run s with ports := s.ports.map PortRec.warm }).rooms
    nodes := (linesRestart { setPower .run s with ports := s.ports.map PortRec.warm }).nodes
    lines := tmap 16 s.lines fun _ ln => ln.warm
    journal := (journalRestart s).journal
    lamps := warmLamps s
    supply := { s.supply with power := .run } } := by
  unfold warmStarted
  rw [requestSweep_full]
  rfl

theorem idle_warmStarted (s : State) (p : Port) : ((warmStarted s).port p).phase = .idle := by
  unfold State.port
  rw [warmStarted_touches, get_map]
  rfl

/-- The POWER_RETURN record of a warm restart. -/
def returnRecord (s : State) : Offer :=
  { kind := .powerReturn, cls := .notice, time := s.now
    detail := BitVec.ofNat 16 (min ((s.supply.elapsed - s.supply.lossElapsed) / (60 * 32768)) 65534) }

theorem warmRestart_touches (s : State) : warmRestart s = { warmStarted s with
    attn := (raise .service .powerReturn (offer (returnRecord s) (warmStarted s))).attn
    journal := (offer (returnRecord s) (warmStarted s)).journal
    supply := { s.supply with
      power := .run, lastReturn := some s.now, lastStart := .warm, warmRestarts := min (s.supply.warmRestarts + 1) 65535 } } := by
  have supply : (warmStarted s).supply = { s.supply with power := .run } := (congrArg State.supply (warmStarted_touches s) :)
  have now : (warmStarted s).now = s.now := by
    unfold State.now
    rw [supply]
  have ports : (offer (returnRecord s) (warmStarted s)).ports = (warmStarted s).ports :=
    ports_offer_idle (by rw [idle_warmStarted]; rfl) _
  have told : raise .service .powerReturn (offer (returnRecord s) (warmStarted s)) = { warmStarted s with
      ports := (offer (returnRecord s) (warmStarted s)).ports
      attn := (raise .service .powerReturn (offer (returnRecord s) (warmStarted s))).attn
      journal := (offer (returnRecord s) (warmStarted s)).journal } :=
    congrArg (raise .service .powerReturn) (offer_touches (returnRecord s) (warmStarted s))
  rw [ports] at told
  have recorded : recordReturn (warmStarted s) =
      { raise .service .powerReturn (offer (returnRecord s) (warmStarted s)) with
        supply := { s.supply with
          power := .run, lastReturn := some s.now, lastStart := .warm
          warmRestarts := min (s.supply.warmRestarts + 1) 65535 } } := by
    unfold recordReturn
    dsimp only
    rw [raise_supply, offer_supply, now, supply]
    rfl
  rw [warmRestart_eq, recorded]
  exact congrArg (fun t : State => { t with supply := { s.supply with
    power := .run, lastReturn := some s.now, lastStart := .warm, warmRestarts := min (s.supply.warmRestarts + 1) 65535 } }) told

theorem emergency_programmed_none {e : EmergencyStore} (idle : e.programming = none) : e.programmed = e := by
  unfold EmergencyStore.programmed
  rw [idle]

theorem emergency_programmed_some {e : EmergencyStore} {x : EmergencyProgram} (busy : e.programming = some x) :
    e.programmed = { slots := tset e.slots x.slot (.written x.card x.zones), programming := none } := by
  unfold EmergencyStore.programmed
  rw [busy]

end Sys2Proof.Machine

namespace Sys2Proof.Settled

open Sys2Proof.Machine

/-- Settles O54. -/
theorem mainSupply : Obligations.MainSupply := by
  intro s
  refine ⟨fun run => ?_, fun lost => ?_, fun retain => ?_, fun run c => ?_, fun retain => ?_⟩
  · have rest := enterRetain_rest s
    have kept := pendingKept_enterRetain s
    have left := retainLeft_touches s
    let working : State := { retainLeft s with supply := s.supply }
    have program : working.journal.program = s.journal.program := program_abandonSessions everyNode (retainEntered s)
    have same : (completeProgram working).journal = (completeProgram (retainLeft s)).journal := journal_completeProgram_congr rfl
    refine ⟨enterRetain s, congrArg Host.Outcome.next (if_pos run), (congrArg State.verdict rest :), ?_, ?_, (congrArg State.keys rest :),
      (congrArg State.ports rest :), fun p => ⟨kept.rest p, kept.pending p⟩, (congrArg State.supply rest :), fun l => ?_, fun n => ?_, ?_,
      fun idle => ?_, fun x busy => ?_, retainEntered s, rfl, rfl, rfl, room_retainEntered s, lamp_retainEntered s,
      (congrArg State.charge rest :), (congrArg State.rooms rest :), fun r => ?_, completeProgram working,
      (journalRetain (retainLeft s)).journal, completeProgram_exec (t := working) run program, fun k => ?_, ?_, ?_⟩
    · exact (congrArg (fun t : State => t.charge.sessions) rest :).trans (sessions_abandonSessions_every _)
    · exact (congrArg (fun t : State => t.charge.queue) rest :).trans (queue_abandonSessions everyNode (retainEntered s))
    · exact (congrArg (fun t : State => t.line l) rest :).trans (line_retainEntered s l)
    · exact (congrArg (fun t : State => t.node n) rest :).trans (node_retainEntered s n)
    · have lamps : (retainLeft s).lamps = { s.lamps with entries := (retainLeft s).lamps.entries } :=
        lamps_abandonSessions everyNode (retainEntered s)
      exact (congrArg State.lamps rest :).trans
        ((congrArg Indicator.retained lamps :).trans (by rw [(congrArg State.lamps rest :)]; rfl))
    · exact (congrArg State.emergency rest :).trans (emergency_programmed_none idle)
    · have emergency := (congrArg State.emergency rest :).trans (emergency_programmed_some busy)
      rw [emergency]
      exact ⟨rfl, tget_tset_same .., fun i ne => tget_tset_ne (by decide) _ _ _ _ ne.symm⟩
    · exact (congrArg (fun t : State => t.lamp r) rest :)
    · refine (segment_retained (completeProgram (retainLeft s)).journal k).trans ?_
      exact congrArg (fun j : Journal => { tget j.segments k with holdPending := false }) same.symm
    · rw [same]
      rfl
    · refine (congrArg State.journal rest :).trans (journal_offer_congr
        (t := { retainLeft s with journal := (journalRetain (retainLeft s)).journal })
        (congrArg State.journal (retainStored_touches s) :) ?_ _)
      exact (congrArg State.supply (retainStored_touches s) :)
  · refine congrArg Host.Outcome.next ?_
    unfold mainSupplyReturn
    rw [lost]
  · have eq := warmRestart_touches s
    have started := warmStarted_touches s
    have restarted : PendingKept s (warmStarted s) := pendingKept_of_attn (congrArg State.attn started :)
    have told : PendingKept s (raise .service .powerReturn (offer (returnRecord s) (warmStarted s))) :=
      (restarted.trans (pendingKept_offer (returnRecord s) (warmStarted s))).trans (pendingKept_raise .service .powerReturn _)
    have attn : (warmRestart s).attn = (raise .service .powerReturn (offer (returnRecord s) (warmStarted s))).attn :=
      (congrArg State.attn eq :)
    have kept : PendingKept s (warmRestart s) := told.trans (pendingKept_of_attn attn)
    let ported : State := { setPower .run s with ports := s.ports.map PortRec.warm }
    have exec_ : exec .mainSupplyReturn s = .next (warmRestart s) := by
      refine congrArg Host.Outcome.next ?_
      unfold mainSupplyReturn
      rw [retain]
    have lamps : (warmRestart s).lamps = warmLamps s := (congrArg State.lamps eq :).trans (congrArg State.lamps started :)
    have lamp (r : RoomIx) : (warmRestart s).lamp r = { (linesRestart ported).lamp r with lastSent := none } :=
      (congrArg (fun u : Indicator => tget u.entries r) lamps :).trans (tget_warmLamps s r)
    refine ⟨warmRestart s, exec_, (congrArg State.inRun eq :), fun p => ?_, fun l => ?_, fun n => ?_, fun r => ?_,
      fun p => ⟨kept.rest p, kept.pending p⟩, ⟨warmStarted s, fun k => ?_, ?_, (congrArg State.supply started :), (congrArg State.journal eq :)⟩,
      fun r => ⟨?_, fun unknown => ?_⟩, ?_, ?_, ?_, ?_, ?_, ?_, (congrArg State.supply eq :)⟩
    · have ports : (warmRestart s).ports = s.ports.map PortRec.warm := (congrArg State.ports eq :).trans (congrArg State.ports started :)
      exact (congrArg (fun v : PerPort PortRec => v.get p) ports :).trans (get_map ..)
    · have lines : (warmRestart s).lines = tmap 16 s.lines fun _ ln => ln.warm :=
        (congrArg State.lines eq :).trans (congrArg State.lines started :)
      exact (congrArg (fun v => tget v l) lines :).trans (tget_tmap (by decide) ..)
    · have nodes : (warmRestart s).nodes = (linesRestart ported).nodes := (congrArg State.nodes eq :).trans (congrArg State.nodes started :)
      refine Eq.trans ?_ (node_linesRestart ported n)
      unfold State.node
      rw [nodes]
    · have rooms : (warmRestart s).rooms = (linesRestart ported).rooms := (congrArg State.rooms eq :).trans (congrArg State.rooms started :)
      refine Eq.trans ?_ (room_linesRestart ported r)
      unfold State.room
      rw [rooms]
    · have journal : (warmStarted s).journal = (journalRestart s).journal := (congrArg State.journal started :)
      exact (congrArg (fun j : Journal => tget j.segments k) journal :).trans (tget_journalRestart s k)
    · rw [(congrArg State.journal started :)]
      rfl
    · exact congrArg IndEntry.lastSent (lamp r)
    · have primary : ((linesRestart ported).lamp r).primary = (s.lamp r).primary :=
        congrArg IndEntry.primary (lamp_linesRestart (s := ported) unknown)
      exact (congrArg IndEntry.primary (lamp r) :).trans primary
    · rw [lamps]
      unfold warmLamps Indicator.restarted
      rw [lamps_linesRestart]
      rfl
    · have raised : (raise .service .powerReturn (offer (returnRecord s) (warmStarted s))).isPending .service .powerReturn = true :=
        isPending_raise rfl _
      unfold State.isPending State.att at raised ⊢
      rw [attn]
      exact raised
    · exact (congrArg State.keys eq :).trans (congrArg State.keys started :)
    · exact (congrArg State.charge eq :).trans (congrArg State.charge started :)
    · exact (congrArg State.verdict eq :).trans (congrArg State.verdict started :)
    · exact (congrArg State.emergency eq :).trans (congrArg State.emergency started :)
  · refine congrArg Host.Outcome.next ?_
    have power : s.supply.power = .run := of_decide_eq_true run
    have stays : (if c = .failed ∧ s.supply.power = .retain then Power.lost else s.supply.power) = s.supply.power :=
      if_neg fun ⟨_, retain⟩ => by
        rw [power] at retain
        cases retain
    have cell : cellAfter c = if c = .good then .good else .low := by cases c <;> rfl
    exact congrArg₂ (fun p q => { s with supply := { s.supply with power := p, cell := q } }) stays cell
  · exact ⟨_, rfl, if_pos ⟨rfl, retain⟩⟩

end Sys2Proof.Settled
end

section
/-! The statement of the cold start: the directory rebuilt from the array (R160), and every table at its initial contents (R195). -/

/- The joined text is checked with bounded memory: proofs are elaborated one after another, not each in a thread of its own. -/
set_option Elab.async false

namespace Sys2Proof.Machine

/-! ### Tables as lists -/

theorem Table.mem_toList {α : Type} {x : α} : ∀ {d : Nat} {v : Table α d}, x ∈ v.toList ↔ ∃ i < 2 ^ d, v.get i = x
  | 0, .leaf y => by
    refine List.mem_singleton.trans ⟨fun e => ⟨0, Nat.one_pos, e.symm⟩, fun ⟨_, _, e⟩ => e.symm⟩
  | d + 1, .node lo hi => by
    unfold Table.toList
    rw [List.mem_append, Table.mem_toList, Table.mem_toList]
    constructor
    · rintro (⟨i, small, e⟩ | ⟨i, small, e⟩)
      · exact ⟨i, by rw [Nat.pow_succ]; omega, (if_pos small).trans e⟩
      · refine ⟨2 ^ d + i, by rw [Nat.pow_succ]; omega, (if_neg (by omega)).trans ?_⟩
        rw [Nat.add_sub_cancel_left]
        exact e
    · rintro ⟨i, small, e⟩
      unfold Table.get at e
      split at e
      · next low => exact .inl ⟨i, low, e⟩
      · exact .inr ⟨i - 2 ^ d, by rw [Nat.pow_succ] at small; omega, e⟩

theorem Table.exists_of_count {α : Type} {p : α → Bool} : ∀ {d : Nat} {v : Table α d}, 0 < v.count p → ∃ i < 2 ^ d, p (v.get i) = true
  | 0, .leaf y, some_ => by
    unfold Table.count at some_
    split at some_
    · next meets => exact ⟨0, Nat.one_pos, meets⟩
    · cases some_
  | d + 1, .node lo hi, some_ => by
    unfold Table.count at some_
    rcases Nat.eq_zero_or_pos (lo.count p) with none_ | low
    · obtain ⟨i, small, meets⟩ := Table.exists_of_count (p := p) (v := hi) (by omega)
      refine ⟨2 ^ d + i, by rw [Nat.pow_succ]; omega, ?_⟩
      unfold Table.get
      rw [if_neg (by omega), Nat.add_sub_cancel_left]
      exact meets
    · obtain ⟨i, small, meets⟩ := Table.exists_of_count low
      refine ⟨i, by rw [Nat.pow_succ]; omega, ?_⟩
      unfold Table.get
      rw [if_pos small]
      exact meets

/-! ### The order of records by sequence (R136) -/

theorem newest_concat {xs : List Record} {b : Record} (found : newest xs = some b) (r : Record) :
    newest (xs ++ [r]) = if seqBelow b.seq r.seq then some r else some b := by
  unfold newest at found ⊢
  rw [List.foldl_append, found]
  rfl

/-- Of records within half of the sequence range from a sequence the newest is one, and is the furthest from it. -/
theorem newest_furthest {c : Seq} {rs : List Record} (window : ∀ r ∈ rs, (r.seq - c).toNat < 2147483648) (some_ : rs ≠ []) :
    ∃ o ∈ rs, newest rs = some o ∧ ∀ p ∈ rs, (p.seq - c).toNat ≤ (o.seq - c).toNat := by
  induction rs using List.reverseRecOn with
  | nil => exact absurd rfl some_
  | append_singleton xs x ih =>
    have near : (x.seq - c).toNat < 2147483648 := window x (List.mem_append_right _ (List.mem_singleton_self x))
    have before : ∀ r ∈ xs, (r.seq - c).toNat < 2147483648 := fun r mem => window r (List.mem_append_left _ mem)
    by_cases first : xs = []
    · subst first
      exact ⟨x, List.mem_singleton_self x, rfl, fun p mem => by rw [List.mem_singleton.mp mem]⟩
    · obtain ⟨b, mem, found, furthest⟩ := ih before first
      have order := seqBelow_iff_of_above (Nat.le_of_lt_succ (before b mem)) (Nat.le_of_lt_succ near)
      have last := newest_concat found x
      split at last
      · next above =>
        refine ⟨x, List.mem_append_right _ (List.mem_singleton_self x), last, fun p there => ?_⟩
        rcases List.mem_append.mp there with old | new
        · exact (furthest p old).trans (order.mp above).le
        · rw [List.mem_singleton.mp new]
      · next stays =>
        refine ⟨b, List.mem_append_left _ mem, last, fun p there => ?_⟩
        rcases List.mem_append.mp there with old | new
        · exact furthest p old
        · rw [List.mem_singleton.mp new]
          exact Nat.not_lt.mp (mt order.mpr stays)

theorem seq_eq_of_gap {a b c : Seq} (h : (a - c).toNat = (b - c).toNat) : a = b := by
  bv_omega

section
variable {c : Seq} {rs : List Record} {r : Record} (window : ∀ r ∈ rs, (r.seq - c).toNat < 2147483648) (mem : r ∈ rs)
include window mem

/-- The newest record has the sequence above which none of them is. -/
theorem newest_highest (highest : ∀ q ∈ rs, seqBelow r.seq q.seq = false) : ∃ o ∈ rs, newest rs = some o ∧ o.seq = r.seq := by
  obtain ⟨o, there, found, furthest⟩ := newest_furthest window (List.ne_nil_of_mem mem)
  refine ⟨o, there, found, seq_eq_of_gap (c := c) (Nat.le_antisymm (Nat.not_lt.mp fun above => ?_) (furthest r mem))⟩
  have order := seqBelow_iff_of_above (Nat.le_of_lt_succ (window r mem)) (Nat.le_of_lt_succ (window o there))
  exact Bool.eq_false_iff.mp (highest o there) (order.mpr above)

/-- The oldest record has the sequence below which none of them is. -/
theorem oldest_lowest (lowest : ∀ q ∈ rs, seqBelow q.seq r.seq = false) : ∃ o, oldest rs = some o ∧ o.seq = r.seq := by
  obtain ⟨o, found⟩ := oldest_of_mem mem
  have there := mem_of_oldest found
  have nearest := oldest_nearest (fun q h => Nat.le_of_lt_succ (window q h)) found
  refine ⟨o, found, seq_eq_of_gap (c := c) (Nat.le_antisymm (nearest r mem) (Nat.not_lt.mp fun below => ?_))⟩
  have order := seqBelow_iff_of_above (Nat.le_of_lt_succ (window o there)) (Nat.le_of_lt_succ (window r mem))
  exact Bool.eq_false_iff.mp (lowest o there) (order.mpr below)

end

/-! ### A segment as the array holds it (R160, R199) -/

/-- A segment that the rebuild can read: neither a program nor an erase of it was cut short, and every slot reads. -/
def Segment.sound (g : Segment) : Prop := g.interrupted = false ∧ ∀ i : Fin 512, (g.slots.get i.val).reading ≠ .unreadable

/-- The record stands in a slot of a segment that can be read. -/
def Segment.bears (g : Segment) (r : Record) : Prop := g.sound ∧ ∃ i : Fin 512, g.slots.get i.val = .written r

/-- A segment that reads blank. -/
def Segment.vacant (g : Segment) : Prop := g.sound ∧ g.headerFirst = none ∧ ∀ r, ¬ g.bears r

theorem unreadable_iff (g : Segment) : g.unreadable = true ↔ ∃ i : Fin 512, (g.slots.get i.val).reading = .unreadable := by
  unfold Segment.unreadable
  rw [decide_eq_true_iff]
  constructor
  · intro some_
    obtain ⟨i, small, reads⟩ := Table.exists_of_count some_
    exact ⟨⟨i, small⟩, of_decide_eq_true reads⟩
  · rintro ⟨i, reads⟩
    exact Table.count_pos i.isLt (decide_eq_true reads)

theorem sound_iff (g : Segment) : g.sound ↔ (g.interrupted || g.unreadable) = false := by
  rw [Bool.or_eq_false_iff]
  refine and_congr Iff.rfl ⟨fun reads => Bool.eq_false_iff.mpr fun h => ?_, fun reads i h => ?_⟩
  · obtain ⟨i, unreadable⟩ := (unreadable_iff g).mp h
    exact reads i unreadable
  · exact Bool.eq_false_iff.mp reads ((unreadable_iff g).mpr ⟨i, h⟩)

theorem record?_eq_some (x : Slot) (r : Record) : x.record? = some r ↔ x = .written r := by
  cases x with
  | blank => exact iff_of_false nofun nofun
  | written q => exact ⟨fun e => congrArg Slot.written (Option.some.inj e), fun e => congrArg some (Slot.written.inj e)⟩
  | other w => exact iff_of_false nofun nofun

theorem mem_content (g : Segment) (r : Record) : r ∈ g.content ↔ ∃ i : Fin 512, g.slots.get i.val = .written r := by
  unfold Segment.content
  rw [List.mem_filterMap]
  constructor
  · rintro ⟨x, there, e⟩
    obtain ⟨i, small, at_⟩ := Table.mem_toList.mp there
    exact ⟨⟨i, small⟩, at_.trans ((record?_eq_some x r).mp e)⟩
  · rintro ⟨i, at_⟩
    exact ⟨.written r, Table.mem_toList.mpr ⟨i.val, i.isLt, at_⟩, rfl⟩

theorem content_eq_nil_iff (g : Segment) : g.content = [] ↔ ∀ r, ¬ ∃ i : Fin 512, g.slots.get i.val = .written r := by
  rw [List.eq_nil_iff_forall_not_mem]
  exact forall_congr' fun r => not_congr (mem_content g r)

theorem blank_iff_vacant {g : Segment} (sound : g.sound) : (g.content.isEmpty && g.headerFirst.isNone) = true ↔ g.vacant := by
  rw [Bool.and_eq_true, List.isEmpty_iff, Option.isNone_iff_eq_none, content_eq_nil_iff]
  exact ⟨fun ⟨none_, header⟩ => ⟨sound, header, fun r h => none_ r h.2⟩, fun ⟨_, header, none_⟩ => ⟨fun r h => none_ r ⟨sound, h⟩, header⟩⟩

section
variable (g : Segment) (k : SegIx) (elapsed : Nat)

/-- What the rebuild decides of a segment from its header alone. -/
def Segment.headerRead : Segment :=
  { g with
    guard := true, holdPending := false, holdMark := (g.marksRead k elapsed).1, releaseMark := (g.marksRead k elapsed).2
    hold := holdOf (g.marksRead k elapsed).1 (g.marksRead k elapsed).2 }

theorem rebuilt_eq : g.rebuilt k elapsed =
    if (g.interrupted || g.unreadable) = true then { g.headerRead k elapsed with state := .dirty, first := none, last := none }
    else if (g.content.isEmpty && g.headerFirst.isNone) = true then
      { g.headerRead k elapsed with state := .blank, first := none, last := none }
    else { g.headerRead k elapsed with
      state := .full, first := (oldest g.content).map Record.seq, last := (newest g.content).map Record.seq } := rfl

theorem rebuilt_touches : g.rebuilt k elapsed = { g.headerRead k elapsed with
    state := (g.rebuilt k elapsed).state, first := (g.rebuilt k elapsed).first, last := (g.rebuilt k elapsed).last } := by
  rw [rebuilt_eq]
  split
  · rfl
  · split <;> rfl

variable {g}

theorem rebuilt_unsound (cut : ¬ g.sound) :
    g.rebuilt k elapsed = { g.headerRead k elapsed with state := .dirty, first := none, last := none } :=
  (rebuilt_eq g k elapsed).trans (if_pos (Bool.not_eq_false _ |>.mp (mt (sound_iff g).mpr cut)))

theorem rebuilt_vacant (vacant : g.vacant) :
    g.rebuilt k elapsed = { g.headerRead k elapsed with state := .blank, first := none, last := none } :=
  ((rebuilt_eq g k elapsed).trans (if_neg (Bool.eq_false_iff.mp ((sound_iff g).mp vacant.1)))).trans
    (if_pos ((blank_iff_vacant vacant.1).mpr vacant))

theorem rebuilt_used (sound : g.sound) (used : ¬ g.vacant) : g.rebuilt k elapsed = { g.headerRead k elapsed with
    state := .full, first := (oldest g.content).map Record.seq, last := (newest g.content).map Record.seq } :=
  ((rebuilt_eq g k elapsed).trans (if_neg (Bool.eq_false_iff.mp ((sound_iff g).mp sound)))).trans
    (if_neg (mt (blank_iff_vacant sound).mp used))

theorem used_of_bears {r : Record} (h : g.bears r) : ¬ g.vacant := fun vacant => vacant.2.2 r h

theorem state_rebuilt_blank_iff : (g.rebuilt k elapsed).state = .blank ↔ g.vacant := by
  by_cases sound : g.sound
  · by_cases vacant : g.vacant
    · rw [rebuilt_vacant k elapsed vacant]
      exact iff_of_true rfl vacant
    · rw [rebuilt_used k elapsed sound vacant]
      exact iff_of_false nofun vacant
  · rw [rebuilt_unsound k elapsed sound]
    exact iff_of_false nofun fun vacant => sound vacant.1

theorem mem_records_rebuilt (r : Record) : r ∈ (g.rebuilt k elapsed).records ↔ g.bears r := by
  have content : (g.rebuilt k elapsed).content = g.content := by
    rw [rebuilt_touches]
    rfl
  unfold Segment.records
  rw [content]
  by_cases sound : g.sound
  · by_cases vacant : g.vacant
    · rw [rebuilt_vacant k elapsed vacant]
      exact iff_of_false (List.not_mem_nil) (vacant.2.2 r)
    · rw [rebuilt_used k elapsed sound vacant]
      exact (mem_content g r).trans (and_iff_right sound).symm
  · rw [rebuilt_unsound k elapsed sound]
    exact iff_of_false (List.not_mem_nil) fun h => sound h.1

theorem hold_rebuilt (plain : g.interrupted = false ∨ g.holdMark = false ∨ g.releaseMark = false) :
    (g.rebuilt k elapsed).hold = holdOf g.holdMark g.releaseMark := by
  have read : g.marksRead k elapsed = (g.holdMark, g.releaseMark) := by
    refine if_neg fun h => ?_
    rw [Bool.and_eq_true, Bool.and_eq_true] at h
    obtain ⟨⟨cut, held⟩, released⟩ := h
    rcases plain with no | no | no
    · exact Bool.false_ne_true (no.symm.trans cut)
    · exact Bool.false_ne_true (no.symm.trans held)
    · exact Bool.false_ne_true (no.symm.trans released)
  rw [rebuilt_touches]
  unfold Segment.headerRead
  rw [read]

theorem ends_rebuilt_none (none_ : ∀ r, ¬ g.bears r) : (g.rebuilt k elapsed).first = none ∧ (g.rebuilt k elapsed).last = none := by
  by_cases sound : g.sound
  · have empty : g.content = [] := (content_eq_nil_iff g).mpr fun r h => none_ r ⟨sound, h⟩
    by_cases vacant : g.vacant
    · rw [rebuilt_vacant k elapsed vacant]
      exact ⟨rfl, rfl⟩
    · rw [rebuilt_used k elapsed sound vacant, empty]
      exact ⟨rfl, rfl⟩
  · rw [rebuilt_unsound k elapsed sound]
    exact ⟨rfl, rfl⟩

section
variable {c : Seq} {r : Record} (window : ∀ r, g.bears r → (r.seq - c).toNat < 2147483648) (h : g.bears r)
include window h

theorem first_rebuilt (lowest : ∀ q, g.bears q → seqBelow q.seq r.seq = false) : (g.rebuilt k elapsed).first = some r.seq := by
  have bears {q : Record} (mem : q ∈ g.content) : g.bears q := ⟨h.1, (mem_content g q).mp mem⟩
  obtain ⟨o, found, seq⟩ := oldest_lowest (fun q mem => window q (bears mem)) ((mem_content g r).mpr h.2) fun q mem => lowest q (bears mem)
  rw [rebuilt_used k elapsed h.1 (used_of_bears h), found]
  exact congrArg some seq

theorem last_rebuilt (highest : ∀ q, g.bears q → seqBelow r.seq q.seq = false) : (g.rebuilt k elapsed).last = some r.seq := by
  have bears {q : Record} (mem : q ∈ g.content) : g.bears q := ⟨h.1, (mem_content g q).mp mem⟩
  obtain ⟨o, _, found, seq⟩ := newest_highest (fun q mem => window q (bears mem)) ((mem_content g r).mpr h.2) fun q mem => highest q (bears mem)
  rw [rebuilt_used k elapsed h.1 (used_of_bears h), found]
  exact congrArg some seq

end
end

/-- One block above the last that holds a record. -/
theorem nextBlock_eq {g : Segment} {b : Fin 64} (here : ∃ (i : Fin 8) (q : Record), g.slots.get (8 * b.val + i.val) = .written q)
    (last : ∀ (d : Fin 64) (i : Fin 8) (q : Record), b < d → g.slots.get (8 * d.val + i.val) ≠ .written q) : g.nextBlock = b.val + 1 := by
  let p (d : Nat) : Bool := (List.range 8).any fun i => (g.slots.get (8 * d + i)).record?.isSome
  have meets : p b.val = true := by
    obtain ⟨i, q, written⟩ := here
    refine List.any_eq_true.mpr ⟨i.val, List.mem_range.mpr i.isLt, ?_⟩
    rw [written]
    rfl
  have beyond : (((List.range (63 - b.val)).map (b.val + 1 + ·)).filter p) = [] := by
    refine List.filter_eq_nil_iff.mpr fun d mem some_ => ?_
    obtain ⟨e, there, rfl⟩ := List.mem_map.mp mem
    obtain ⟨i, small, isSome⟩ := List.any_eq_true.mp some_
    obtain ⟨q, record⟩ := Option.isSome_iff_exists.mp isSome
    have near := List.mem_range.mp there
    refine last ⟨b.val + 1 + e, by omega⟩ ⟨i, List.mem_range.mp small⟩ q ?_ ((record?_eq_some _ q).mp record)
    exact Fin.lt_def.mpr (by dsimp only; omega)
  have split_ : List.range 64 = List.range b.val ++ [b.val] ++ (List.range (63 - b.val)).map (b.val + 1 + ·) := by
    rw [← List.range_succ, ← List.range_add]
    exact congrArg List.range (by omega)
  change ((List.range 64).filter p).foldl (fun _ b => b + 1) 0 = _
  rw [split_, List.filter_append, beyond, List.append_nil, List.filter_append, List.filter_cons_of_pos meets, List.foldl_append]
  rfl

end Sys2Proof.Machine
end

section
/-! The statement of the cold start: the head that the rebuild finds, and every table at its initial contents (R160, R195). -/

/- The joined text is checked with bounded memory: proofs are elaborated one after another, not each in a thread of its own. -/
set_option Elab.async false

namespace Sys2Proof.Machine

/-! ### The head that the rebuild finds (R160) -/

/-- A segment reads blank in the directory. -/
def Segment.readsBlank (g : Segment) : Bool := decide (g.state = .blank)

section
variable {j : Journal}

theorem headFound_fresh {b : SegIx} (found : j.ringFind 15 Segment.readsBlank = some b) :
    j.headFound none = j.modSegment b fun g => { g with state := .filling 0 } := by
  unfold Segment.readsBlank at found
  unfold Journal.headFound
  dsimp only [Option.bind_none]
  rw [found]

theorem headFound_nowhere (found : j.ringFind 15 Segment.readsBlank = none) : j.headFound none = j := by
  unfold Segment.readsBlank at found
  unfold Journal.headFound
  dsimp only [Option.bind_none]
  rw [found]

theorem headFound_highest {r : Record} {k : SegIx} (found : tfind 16 j.segments (fun g => g.holds r.seq) = some k) :
    j.headFound (some r) = if (tget j.segments k).nextBlock < 64 then
      j.modSegment k fun g => { g with state := .filling (tget j.segments k).nextBlock } else j.advanced k := by
  unfold Journal.headFound
  dsimp only [Option.bind_some]
  rw [found]

end

/-- The second segment is the first, but for the state of one that is not DIRTY. -/
def Segment.Restated (g h : Segment) : Prop := h = g ∨ g.state ≠ .dirty ∧ ∃ st, h = { g with state := st }

theorem Segment.Restated.refl (g : Segment) : g.Restated g := .inl rfl

theorem Segment.Restated.trans {g h i : Segment} (first : g.Restated h) (second : h.Restated i) : g.Restated i := by
  rcases first with rfl | ⟨clean, st, rfl⟩
  · exact second
  · rcases second with rfl | ⟨_, st', rfl⟩
    · exact .inr ⟨clean, st, rfl⟩
    · exact .inr ⟨clean, st', rfl⟩

theorem Segment.Restated.eq {g h : Segment} (same : g.Restated h) : h = { g with state := h.state } := by
  rcases same with rfl | ⟨_, st, rfl⟩ <;> rfl

theorem Segment.Restated.dirty {g h : Segment} (same : g.Restated h) (dirty : g.state = .dirty) : h.state = .dirty := by
  rcases same with rfl | ⟨clean, _⟩
  · exact dirty
  · exact absurd dirty clean

theorem restated_modSegment {j : Journal} {b : SegIx} (clean : (tget j.segments b).state ≠ .dirty) (st : SegState) (k : SegIx) :
    (tget j.segments k).Restated (tget (j.modSegment b fun g => { g with state := st }).segments k) := by
  by_cases same : b = k
  · subst same
    rw [segment_modSegment_same]
    exact .inr ⟨clean, st, rfl⟩
  · rw [segment_modSegment_ne _ _ same]
    exact .refl _

theorem blank_of_ringFind {j : Journal} {after b : SegIx} (found : j.ringFind after Segment.readsBlank = some b) :
    (tget j.segments b).state = .blank :=
  of_decide_eq_true (List.find?_some found :)

theorem readable_of_holds {g : Segment} {seq : Seq} (h : g.holds seq = true) : g.state.readable = true := by
  cases readable : g.state.readable with
  | true => rfl
  | false =>
    unfold Segment.holds at h
    rw [records_unread readable] at h
    cases h

theorem restated_advanced {j : Journal} {b : SegIx} (clean : (tget j.segments b).state ≠ .dirty) (k : SegIx) :
    (tget j.segments k).Restated (tget (j.advanced b).segments k) := by
  have full : (tget j.segments k).Restated (tget (j.filled b).segments k) := restated_modSegment clean .full k
  cases found : (j.filled b).ringFind b (fun g => decide (g.state = .blank)) with
  | none =>
    rw [advanced_none found]
    exact full
  | some c =>
    rw [advanced_some found]
    refine full.trans (restated_modSegment (fun dirty => ?_) _ k)
    rw [blank_of_ringFind found] at dirty
    cases dirty

theorem restated_headFound (j : Journal) (highest : Option Record) (k : SegIx) :
    (tget j.segments k).Restated (tget (j.headFound highest).segments k) := by
  unfold Journal.headFound
  split
  · next b found =>
    obtain ⟨r, _, found⟩ := Option.bind_eq_some_iff.mp found
    have readable := readable_of_holds (tfind_some (p := fun g : Segment => g.holds r.seq) found)
    have clean : (tget j.segments b).state ≠ .dirty := fun dirty => by
      rw [dirty] at readable
      cases readable
    dsimp only
    split
    · exact restated_modSegment clean _ k
    · exact restated_advanced clean k
  · split
    · next b found =>
      refine restated_modSegment (fun dirty => ?_) _ k
      rw [blank_of_ringFind found] at dirty
      cases dirty
    · exact .refl _

/-! ### The journal rebuilt (R160) -/

section
variable (j : Journal) (elapsed : Nat)

/-- The journal with its directory decided segment by segment, before a head is found. -/
def Journal.readBack : Journal :=
  { nextSeq := 0, staged := [], droppedRoutine := 0, droppedPriority := 0, noticeArmed := true, flushAt := none
    commitDue := false, flush := none, segments := tmap 16 j.segments fun k g => g.rebuilt k elapsed, program := none, erase := none
    marks := [], cursor := 0, cursorLost := false, collected := none, overrun := 0 }

/-- The sequence number that follows the records read back. -/
def Journal.following : Seq := ((newest (j.readBack elapsed).committed).map fun r => r.seq + 1).getD 0

theorem rebuilt_journal_eq : j.rebuilt elapsed = { (j.readBack elapsed).headFound (newest (j.readBack elapsed).committed) with
    nextSeq := j.following elapsed
    cursor := ((oldest (j.readBack elapsed).committed).map Record.seq).getD (j.following elapsed) } := rfl

theorem headFound_touches (i : Journal) (highest : Option Record) :
    i.headFound highest = { i with segments := (i.headFound highest).segments } := by
  unfold Journal.headFound
  split
  · dsimp only
    split
    · rfl
    · exact advanced_touches ..
  · split <;> rfl

theorem rebuilt_journal_touches : j.rebuilt elapsed = { j.readBack elapsed with
    segments := (j.rebuilt elapsed).segments, nextSeq := j.following elapsed, cursor := (j.rebuilt elapsed).cursor } := by
  have touches := headFound_touches (j.readBack elapsed) (newest (j.readBack elapsed).committed)
  rw [rebuilt_journal_eq]
  conv_lhs => rw [touches]

theorem segment_readBack (k : SegIx) : tget (j.readBack elapsed).segments k = (tget j.segments k).rebuilt k elapsed :=
  tget_tmap (β := Segment) (n := 16) (by decide) j.segments (fun k g => g.rebuilt k elapsed) k

theorem restated_rebuilt (k : SegIx) :
    ((tget j.segments k).rebuilt k elapsed).Restated (tget (j.rebuilt elapsed).segments k) := by
  rw [← segment_readBack]
  exact restated_headFound ..

theorem mem_committed (i : Journal) (r : Record) : r ∈ i.committed ↔ ∃ k : SegIx, r ∈ (tget i.segments k).records := by
  unfold Journal.committed
  rw [List.mem_flatten]
  constructor
  · rintro ⟨rs, there, mem⟩
    obtain ⟨g, inside, rfl⟩ := List.mem_map.mp there
    obtain ⟨k, small, rfl⟩ := Table.mem_toList.mp inside
    exact ⟨⟨k, small⟩, mem⟩
  · rintro ⟨k, mem⟩
    exact ⟨_, List.mem_map.mpr ⟨_, Table.mem_toList.mpr ⟨k.val, k.isLt, rfl⟩, rfl⟩, mem⟩

theorem mem_committed_readBack (r : Record) : r ∈ (j.readBack elapsed).committed ↔ ∃ k : SegIx, (tget j.segments k).bears r := by
  rw [mem_committed]
  refine exists_congr fun k => ?_
  rw [segment_readBack]
  exact mem_records_rebuilt k elapsed r

/-- The state that the rebuild gives a segment which is not the head. -/
def PlainState (g : Segment) (st : SegState) : Prop := (g.vacant → st = .blank) ∧ (g.sound → ¬ g.vacant → st = .full)

theorem plain_rebuilt (g : Segment) (k : SegIx) : PlainState g (g.rebuilt k elapsed).state :=
  ⟨fun vacant => by rw [rebuilt_vacant k elapsed vacant], fun sound used => by rw [rebuilt_used k elapsed sound used]⟩

theorem plain_readBack (k : SegIx) : PlainState (tget j.segments k) (tget (j.readBack elapsed).segments k).state := by
  rw [segment_readBack]
  exact plain_rebuilt ..

theorem readsBlank_readBack (k : SegIx) : (tget (j.readBack elapsed).segments k).readsBlank = true ↔ (tget j.segments k).vacant := by
  unfold Segment.readsBlank
  rw [decide_eq_true_iff, segment_readBack]
  exact state_rebuilt_blank_iff ..

theorem segments_rebuilt : (j.rebuilt elapsed).segments =
    ((j.readBack elapsed).headFound (newest (j.readBack elapsed).committed)).segments := rfl

end

section
variable {j : Journal} {elapsed : Nat}

/-- One segment takes a state that the rebuild finds for the head, and every other keeps the state of its own. -/
theorem plain_modSegment {i : Journal} {b : SegIx} {st : SegState} (plain : ∀ k : SegIx, PlainState (tget j.segments k) (tget i.segments k).state) :
    (tget (i.modSegment b fun g => { g with state := st }).segments b).state = st ∧
    ∀ k : SegIx, k ≠ b → PlainState (tget j.segments k) (tget (i.modSegment b fun g => { g with state := st }).segments k).state := by
  refine ⟨?_, fun k ne => ?_⟩
  · rw [segment_modSegment_same]
  · rw [segment_modSegment_ne _ _ ne.symm]
    exact plain k

theorem ring_from_last : ∀ k : SegIx, (15 : SegIx) + Fin.ofNat 16 (k.val + 1) = k := by decide

/-! Without a record (R160). -/

section
variable (none_ : ∀ (k : SegIx) r, ¬ (tget j.segments k).bears r)
include none_

theorem committed_readBack_nil : (j.readBack elapsed).committed = [] :=
  List.eq_nil_iff_forall_not_mem.mpr fun r mem => by
    obtain ⟨k, bears⟩ := (mem_committed_readBack j elapsed r).mp mem
    exact none_ k r bears

theorem segments_rebuilt_fresh : (j.rebuilt elapsed).segments = ((j.readBack elapsed).headFound none).segments := by
  rw [segments_rebuilt, committed_readBack_nil none_]
  rfl

theorem rebuilt_none_vacant (full : ∀ k : SegIx, ¬ (tget j.segments k).vacant) (k : SegIx) :
    PlainState (tget j.segments k) (tget (j.rebuilt elapsed).segments k).state := by
  have nowhere : (j.readBack elapsed).ringFind 15 Segment.readsBlank = none :=
    ringFind_none fun k => Bool.eq_false_iff.mpr (mt (readsBlank_readBack j elapsed k).mp (full k))
  rw [segments_rebuilt_fresh none_, headFound_nowhere nowhere]
  exact plain_readBack ..

theorem rebuilt_first_vacant {k : SegIx} (vacant : (tget j.segments k).vacant) (first : ∀ i : SegIx, i < k → ¬ (tget j.segments i).vacant) :
    (tget (j.rebuilt elapsed).segments k).state = .filling 0 ∧
    ∀ i : SegIx, i ≠ k → PlainState (tget j.segments i) (tget (j.rebuilt elapsed).segments i).state := by
  have found : (j.readBack elapsed).ringFind 15 Segment.readsBlank = some k := by
    have ring := ring_from_last k
    refine (ringFind_some (d := k.val + 1) (by omega) (by omega) ?_ fun e one below => ?_).trans (congrArg some ring)
    · rw [ring]
      exact (readsBlank_readBack j elapsed k).mpr vacant
    · have ring := ring_from_last ⟨e - 1, by omega⟩
      rw [Nat.sub_add_cancel one] at ring
      rw [ring]
      exact Bool.eq_false_iff.mpr (mt (readsBlank_readBack j elapsed _).mp (first _ (Fin.lt_def.mpr (by dsimp only; omega))))
  rw [segments_rebuilt_fresh none_, headFound_fresh found]
  exact plain_modSegment (plain_readBack j elapsed)

end

/-! The segment of the highest sequence (R160). -/

section
variable {c : Seq} (window : ∀ (k : SegIx) r, (tget j.segments k).bears r → (r.seq - c).toNat < 2147483648) {k : SegIx} {r : Record}
  (bears : (tget j.segments k).bears r)
include window bears

theorem cursor_rebuilt (lowest : ∀ (i : SegIx) q, (tget j.segments i).bears q → seqBelow q.seq r.seq = false) :
    (j.rebuilt elapsed).cursor = r.seq := by
  have mem := (mem_committed_readBack j elapsed r).mpr ⟨k, bears⟩
  have near : ∀ q ∈ (j.readBack elapsed).committed, (q.seq - c).toNat < 2147483648 := fun q mem => by
    obtain ⟨i, there⟩ := (mem_committed_readBack j elapsed q).mp mem
    exact window i q there
  obtain ⟨o, found, seq⟩ := oldest_lowest near mem fun q mem => by
    obtain ⟨i, there⟩ := (mem_committed_readBack j elapsed q).mp mem
    exact lowest i q there
  refine (congrArg Journal.cursor (rebuilt_journal_eq j elapsed)).trans ?_
  rw [found]
  exact seq

variable (highest : ∀ (i : SegIx) q, (tget j.segments i).bears q → seqBelow r.seq q.seq = false)
include highest

theorem newest_readBack : ∃ o, newest (j.readBack elapsed).committed = some o ∧ o.seq = r.seq := by
  have mem := (mem_committed_readBack j elapsed r).mpr ⟨k, bears⟩
  have near : ∀ q ∈ (j.readBack elapsed).committed, (q.seq - c).toNat < 2147483648 := fun q mem => by
    obtain ⟨i, there⟩ := (mem_committed_readBack j elapsed q).mp mem
    exact window i q there
  obtain ⟨o, _, found, seq⟩ := newest_highest near mem fun q mem => by
    obtain ⟨i, there⟩ := (mem_committed_readBack j elapsed q).mp mem
    exact highest i q there
  exact ⟨o, found, seq⟩

theorem following_rebuilt : j.following elapsed = r.seq + 1 := by
  obtain ⟨o, found, seq⟩ := newest_readBack (elapsed := elapsed) window bears highest
  unfold Journal.following
  rw [found]
  exact congrArg (· + 1) seq

variable (only : ∀ (i : SegIx) q, (tget j.segments i).bears q → q.seq = r.seq → i = k)
include only

theorem segments_rebuilt_head : (j.rebuilt elapsed).segments =
    (if (tget j.segments k).nextBlock < 64 then
      (j.readBack elapsed).modSegment k fun g => { g with state := .filling (tget j.segments k).nextBlock }
      else (j.readBack elapsed).advanced k).segments := by
  obtain ⟨o, newest, seq⟩ := newest_readBack (elapsed := elapsed) window bears highest
  have holds_iff (i : SegIx) : (tget (j.readBack elapsed).segments i).holds o.seq = true ↔
      ∃ q, (tget j.segments i).bears q ∧ q.seq = r.seq := by
    unfold Segment.holds
    rw [List.any_eq_true, segment_readBack, seq]
    exact exists_congr fun q => and_congr (mem_records_rebuilt ..) decide_eq_true_iff
  have found : tfind 16 (j.readBack elapsed).segments (fun g => g.holds o.seq) = some k := by
    refine tfind_eq_some (by decide) ((holds_iff k).mpr ⟨r, bears, rfl⟩) fun i below => Bool.eq_false_iff.mpr fun h => ?_
    obtain ⟨q, there, same⟩ := (holds_iff i).mp h
    exact absurd (only i q there same) (ne_of_lt below)
  have next : (tget (j.readBack elapsed).segments k).nextBlock = (tget j.segments k).nextBlock := by
    rw [segment_readBack, rebuilt_touches]
    rfl
  rw [segments_rebuilt, newest, headFound_highest found, next]

theorem rebuilt_goes_on {b : Nat} (next : (tget j.segments k).nextBlock = b) (below : b < 64) :
    (tget (j.rebuilt elapsed).segments k).state = .filling b ∧
    ∀ i : SegIx, i ≠ k → PlainState (tget j.segments i) (tget (j.rebuilt elapsed).segments i).state := by
  rw [segments_rebuilt_head window bears highest only, next, if_pos below]
  exact plain_modSegment (plain_readBack j elapsed)

section
variable (next : (tget j.segments k).nextBlock = 64)
include next

theorem segments_rebuilt_full : (j.rebuilt elapsed).segments = ((j.readBack elapsed).advanced k).segments := by
  rw [segments_rebuilt_head window bears highest only, next, if_neg (Nat.lt_irrefl 64)]

omit window highest only next in
theorem plain_filled (i : SegIx) : PlainState (tget j.segments i) (tget ((j.readBack elapsed).filled k).segments i).state := by
  by_cases same : i = k
  · subst same
    unfold Journal.filled
    rw [segment_modSegment_same]
    exact ⟨fun vacant => absurd vacant (used_of_bears bears), fun _ _ => rfl⟩
  · exact (plain_modSegment (b := k) (st := .full) (plain_readBack j elapsed)).2 i same

omit window highest only next in
theorem readsBlank_filled (i : SegIx) :
    (tget ((j.readBack elapsed).filled k).segments i).readsBlank = true ↔ (tget j.segments i).vacant := by
  by_cases same : i = k
  · subst same
    unfold Journal.filled
    rw [segment_modSegment_same]
    exact iff_of_false (of_decide_eq_false rfl) (used_of_bears bears)
  · unfold Journal.filled
    rw [segment_modSegment_ne _ _ (Ne.symm same)]
    exact readsBlank_readBack ..

theorem rebuilt_full_nowhere (full : ∀ i : SegIx, ¬ (tget j.segments i).vacant) (i : SegIx) :
    PlainState (tget j.segments i) (tget (j.rebuilt elapsed).segments i).state := by
  have nowhere : ((j.readBack elapsed).filled k).ringFind k Segment.readsBlank = none :=
    ringFind_none fun i => Bool.eq_false_iff.mpr (mt (readsBlank_filled bears i).mp (full i))
  rw [segments_rebuilt_full window bears highest only next, advanced_none nowhere]
  exact plain_filled bears i

theorem rebuilt_full_next {d : SegIx} (vacant : (tget j.segments (k + d)).vacant)
    (first : ∀ e : SegIx, 0 < e → e < d → ¬ (tget j.segments (k + e)).vacant) :
    (tget (j.rebuilt elapsed).segments (k + d)).state = .filling 0 ∧
    ∀ i : SegIx, i ≠ k + d → PlainState (tget j.segments i) (tget (j.rebuilt elapsed).segments i).state := by
  have far : d ≠ 0 := by
    rintro rfl
    rw [add_zero] at vacant
    exact used_of_bears bears vacant
  have index (e : SegIx) : Fin.ofNat 16 e.val = e := Fin.ofNat_val_eq_self e
  have found : ((j.readBack elapsed).filled k).ringFind k Segment.readsBlank = some (k + d) := by
    have one : 1 ≤ d.val := Nat.one_le_iff_ne_zero.mpr fun zero => far (Fin.ext zero)
    refine (ringFind_some (d := d.val) one d.isLt.le ?_ fun e one below => ?_).trans (congrArg (fun e => some (k + e)) (index d))
    · rw [index]
      exact (readsBlank_filled bears _).mpr vacant
    · have small : e < 16 := below.trans d.isLt
      rw [index ⟨e, small⟩]
      exact Bool.eq_false_iff.mpr (mt (readsBlank_filled bears _).mp (first ⟨e, small⟩ (Fin.lt_def.mpr one) (Fin.lt_def.mpr below)))
  rw [segments_rebuilt_full window bears highest only next, advanced_some found]
  exact plain_modSegment (plain_filled bears)

/-- The head segment that is full. -/
theorem rebuilt_full_head : (tget (j.rebuilt elapsed).segments k).state = .full := by
  have used := used_of_bears bears
  have full := (plain_filled (elapsed := elapsed) bears k).2 bears.1 used
  rw [segments_rebuilt_full window bears highest only next]
  cases found : ((j.readBack elapsed).filled k).ringFind k (fun g => decide (g.state = .blank)) with
  | none =>
    rw [advanced_none found]
    exact full
  | some b =>
    have ne : b ≠ k := by
      rintro rfl
      exact used ((readsBlank_filled bears _).mp (decide_eq_true (blank_of_ringFind found)))
    rw [advanced_some found, segment_modSegment_ne _ _ ne]
    exact full

end
end
end

end Sys2Proof.Machine
end

section
/-! The statement of the cold start: programs cut short (R160), and every block at its initial contents (R195). -/

/- The joined text is checked with bounded memory: proofs are elaborated one after another, not each in a thread of its own. -/
set_option Elab.async false

namespace Sys2Proof.Machine

/-! ### Programs cut short (R160) -/

/-- The second segment has the slots of the first, and is cut short where the first is. -/
def Segment.Worn (g h : Segment) : Prop := h.slots = g.slots ∧ (g.interrupted = true → h.interrupted = true)

theorem Segment.Worn.refl (g : Segment) : g.Worn g := ⟨rfl, id⟩

theorem Segment.Worn.unsound {g h : Segment} (worn : g.Worn h) (cut : ¬ g.sound) : ¬ h.sound := by
  obtain ⟨slots, interrupted⟩ := worn
  rintro ⟨whole, reads⟩
  rw [slots] at reads
  refine cut ⟨Bool.eq_false_iff.mpr fun was => ?_, reads⟩
  exact Bool.false_ne_true (whole.symm.trans (interrupted was))

theorem worn_markTorn {program : Segment → Segment} (keeps : ∀ g : Segment, g.Worn (program g)) (g : Segment) (k : SegIx) (elapsed : Nat) :
    g.Worn (g.markTorn k elapsed program) := by
  unfold Segment.markTorn
  dsimp only
  split
  · exact ⟨(keeps g).1, fun was => congrArg (· || !(Config.tornMark k elapsed).2) ((keeps g).2 was)⟩
  · exact ⟨rfl, fun was => congrArg (· || !(Config.tornMark k elapsed).2) was⟩

section
variable {j : Journal} {elapsed : Nat}

theorem torn_none (free : j.program = none) : j.torn elapsed = j := by
  unfold Journal.torn
  rw [free]

theorem torn_block {k : SegIx} {b m : Nat} (block : j.program = some (.block k b m)) :
    j.torn elapsed = j.modSegment k fun g => g.blockTorn k b m elapsed := by
  unfold Journal.torn
  rw [block]

theorem worn_modSegment {k : SegIx} {f : Segment → Segment} (worn : ∀ g : Segment, g.Worn (f g)) (i : SegIx) :
    (tget j.segments i).Worn (tget (j.modSegment k f).segments i) := by
  by_cases same : k = i
  · subst same
    rw [segment_modSegment_same]
    exact worn _
  · rw [segment_modSegment_ne _ _ same]
    exact .refl _

theorem worn_torn (noBlock : ∀ k b m, j.program ≠ some (.block k b m)) (i : SegIx) :
    (tget j.segments i).Worn (tget (j.torn elapsed).segments i) := by
  unfold Journal.torn
  split
  · next k b m is => exact absurd is (noBlock k b m)
  · refine worn_modSegment (fun g => worn_markTorn (fun g => ?_) g _ _) i
    exact ⟨rfl, id⟩
  · refine worn_modSegment (fun g => worn_markTorn (fun g => ?_) g _ _) i
    exact ⟨rfl, id⟩
  · refine worn_modSegment (fun g => worn_markTorn (fun g => ?_) g _ _) i
    exact ⟨rfl, id⟩
  · exact .refl _

theorem unsound_blockTorn (g : Segment) (k : SegIx) (b m elapsed : Nat) : ¬ (g.blockTorn k b m elapsed).sound :=
  fun sound => Bool.false_ne_true sound.1.symm

theorem unsound_torn {i : SegIx} (cut : ¬ (tget j.segments i).sound) : ¬ (tget (j.torn elapsed).segments i).sound := by
  by_cases block : ∃ k b m, j.program = some (.block k b m)
  · obtain ⟨k, b, m, is⟩ := block
    rw [torn_block is]
    by_cases same : k = i
    · subst same
      rw [segment_modSegment_same]
      exact unsound_blockTorn _ k b m _
    · rw [segment_modSegment_ne _ _ same]
      exact cut
  · exact (worn_torn (fun k b m is => block ⟨k, b, m, is⟩) i).unsound cut

theorem get_tearSlots {k : SegIx} {elapsed base i : Nat} {slots : Table Slot 9} (small : i < 512) : ∀ {n : Nat}, base + n ≤ 512 →
    i < base ∨ base + n ≤ i → (tearSlots k elapsed slots base n).get i = slots.get i
  | 0, _, _ => rfl
  | n + 1, room, out => by
    unfold tearSlots
    rw [Table.get_set_ne _ _ _ _ (by omega) small (by omega)]
    exact get_tearSlots small (by omega) (by omega)

/-- A block program cut short leaves every slot outside the block. -/
theorem get_torn_block {k g : SegIx} {b m : Nat} (block : j.program = some (.block k b m)) (room : 8 * b + m ≤ 512) {i : Fin 512}
    (out : g ≠ k ∨ i.val < 8 * b ∨ 8 * b + m ≤ i.val) :
    (tget (j.torn elapsed).segments g).slots.get i.val = (tget j.segments g).slots.get i.val := by
  rw [torn_block block]
  by_cases same : k = g
  · subst same
    rw [segment_modSegment_same]
    exact get_tearSlots i.isLt room (out.resolve_left fun ne => ne rfl)
  · rw [segment_modSegment_ne _ _ same]

end

/-! ### The initial contents (R195) -/

theorem taken_first {j : Journal} (empty : j.staged = []) (o : Offer) (elapsed : Nat) : j.taken o true elapsed = { j with
    nextSeq := j.nextSeq + 1, staged := [o.record j.nextSeq], flushAt := some (elapsed + 65536) } := by
  have waiting : j.waiting = 0 := by
    unfold Journal.waiting
    rw [empty]
    exact Nat.zero_sub _
  simp [Journal.taken, Journal.stage, empty, waiting, Config.stagingMax, Config.flushPeriod, Config.crystalHz]

theorem offer_first {s : State} (empty : s.journal.staged = []) (run : s.inRun = true) (o : Offer) :
    offer o s = { s with journal := { s.journal with
      nextSeq := s.journal.nextSeq + 1, staged := [o.record s.journal.nextSeq], flushAt := some (s.supply.elapsed + 65536) } } := by
  have space : s.journal.staged.length < Config.stagingMax := by
    rw [empty]
    decide
  have taken := taken_first empty o s.supply.elapsed
  rw [← run] at taken
  exact (if_pos space).trans (congrArg (fun j => { s with journal := j }) taken)

/-- The journal that a cold start rebuilds from the array. -/
def State.journalRebuilt (s : State) : Journal := (s.journal.torn s.supply.elapsed).rebuilt s.supply.elapsed

/-- The causes that a cold start leaves pending. -/
def coldAttn (jammed : Bool) : PerPort Attn :=
  if jammed then (raise .service .journalJam State.reset).attn else State.reset.attn

theorem isPending_coldAttn (jammed : Bool) (p : Port) (c : Cause) : ({ State.reset with attn := coldAttn jammed } : State).isPending p c = true ↔
    p = .service ∧ (c = .tablesLost ∨ c = .clockUnset ∨ (c = .journalJam ∧ jammed = true)) := by
  cases jammed with
  | false =>
    refine (isPending_reset_iff p c).trans ?_
    simp only [Bool.false_eq_true, and_false, or_false]
  | true =>
    rw [and_iff_left (a := c = .journalJam) rfl]
    cases p with
    | front => cases c <;> decide
    | charge => cases c <;> decide
    | service => cases c <;> decide

theorem rest_coldAttn (jammed : Bool) (p : Port) : (coldAttn jammed).get p = { State.reset.att p with pending := ((coldAttn jammed).get p).pending } := by
  cases jammed with
  | false => rfl
  | true => exact rest_raise .service .journalJam State.reset p

theorem coldStart_touches (s : State) : coldStart s = { initialContents s with
    attn := coldAttn s.journalRebuilt.jammed
    journal := { s.journalRebuilt with
      nextSeq := s.journalRebuilt.nextSeq + 1, staged := [Record.coldStart s.journalRebuilt.nextSeq]
      flushAt := some (s.supply.elapsed + 65536) } } := by
  have told : (if (initialContents s).journal.jammed then raise .service .journalJam (initialContents s) else initialContents s) =
      { initialContents s with attn := coldAttn s.journalRebuilt.jammed } := by
    unfold coldAttn
    change (if s.journalRebuilt.jammed = true then _ else _) = _
    split <;> rfl
  have empty : s.journalRebuilt.staged = [] := (congrArg Journal.staged (rebuilt_journal_touches _ _) :)
  unfold coldStart
  dsimp only
  rw [told]
  exact offer_first (s := { initialContents s with attn := coldAttn s.journalRebuilt.jammed }) empty rfl _

theorem emergency_torn_none {e : EmergencyStore} (idle : e.programming = none) (elapsed : Nat) : e.torn elapsed = e := by
  unfold EmergencyStore.torn
  rw [idle]

theorem port_initialContents (s : State) (p : Port) : (initialContents s).port p = (s.port p).cold := get_map ..

end Sys2Proof.Machine

namespace Sys2Proof.Settled

open Sys2Proof.Machine

/-- Settles O55: the directory is gone through segment by segment, and the head by the cases of the rebuild. -/
theorem coldStart : Obligations.ColdStart := by
  intro s
  have eq := coldStart_touches s
  have rebuilt := rebuilt_journal_touches (s.journal.torn s.supply.elapsed) s.supply.elapsed
  have journal : (Machine.coldStart s).journal = { s.journalRebuilt with
      nextSeq := s.journalRebuilt.nextSeq + 1, staged := [Record.coldStart s.journalRebuilt.nextSeq]
      flushAt := some (s.supply.elapsed + 65536) } := (congrArg State.journal eq :)
  have port (p : Port) : (Machine.coldStart s).port p = (s.port p).cold :=
    (congrArg (fun t : State => t.port p) eq :).trans (port_initialContents s p)
  have att (p : Port) : (Machine.coldStart s).att p =
      { State.reset.att p with pending := ((coldAttn s.journalRebuilt.jammed).get p).pending } :=
    (congrArg (fun t : State => t.att p) eq :).trans (rest_coldAttn ..)
  have directory (k : SegIx) : ((tget (s.journal.torn s.supply.elapsed).segments k).rebuilt k s.supply.elapsed).Restated
      ((Machine.coldStart s).segment k) := by
    unfold State.segment
    rw [journal]
    exact restated_rebuilt ..
  have segment (k : SegIx) := ((directory k).eq).trans
    (congrArg (fun g : Segment => { g with state := ((Machine.coldStart s).segment k).state }) (rebuilt_touches ..))
  have slots (k : SegIx) : ((Machine.coldStart s).segment k).slots = (tget (s.journal.torn s.supply.elapsed).segments k).slots :=
    (congrArg Segment.slots (segment k) :)
  have dirty {k : SegIx} (cut : ¬ (tget (s.journal.torn s.supply.elapsed).segments k).sound) :
      ((Machine.coldStart s).segment k).state = .dirty :=
    (directory k).dirty (congrArg Segment.state (rebuilt_unsound k s.supply.elapsed cut))
  have field {α : Type} (f : Journal → α) (x : α)
      (h : f { s.journalRebuilt with
        nextSeq := s.journalRebuilt.nextSeq + 1, staged := [Record.coldStart s.journalRebuilt.nextSeq]
        flushAt := some (s.supply.elapsed + 65536) } = x) : f (Machine.coldStart s).journal = x := (congrArg f journal).trans h
  have segments : (Machine.coldStart s).journal.segments = s.journalRebuilt.segments := field _ _ rfl
  refine ⟨Machine.coldStart s, rfl, (congrArg State.rooms eq :), (congrArg State.keys eq :), (congrArg State.verdict eq :),
    (congrArg State.nodes eq :), (congrArg State.lines eq :), (congrArg State.charge eq :), (congrArg State.lamps eq :),
    (congrArg (fun t : State => t.supply.power) eq :), (congrArg (fun t : State => t.supply.lastStart) eq :),
    (congrArg (fun t : State => t.supply.clockRunning) eq :), (congrArg (fun t : State => t.supply.counter) eq :),
    (congrArg (fun t : State => t.supply.warmRestarts) eq :), (congrArg (fun t : State => t.supply.lastLoss) eq :),
    (congrArg (fun t : State => t.supply.lastReturn) eq :), fun p => ?_, fun p => ?_, fun p c => ?_,
    ⟨Record.coldStart s.journalRebuilt.nextSeq, field _ _ rfl, rfl, rfl, rfl, rfl, field _ _ rfl⟩, fun k => ?_,
    field _ _ (congrArg Journal.collected rebuilt :), field _ _ (congrArg Journal.overrun rebuilt :),
    field _ _ (congrArg Journal.droppedRoutine rebuilt :), field _ _ (congrArg Journal.droppedPriority rebuilt :),
    field _ _ (congrArg Journal.noticeArmed rebuilt :), field _ _ (congrArg Journal.cursorLost rebuilt :),
    field _ _ (congrArg Journal.marks rebuilt :), field _ _ (congrArg Journal.flush rebuilt :),
    field _ _ (congrArg Journal.program rebuilt :), field _ _ (congrArg Journal.erase rebuilt :), field _ _ rfl, fun idle => ?_,
    fun noBlock k i => ?_, fun k cut => ?_, fun k b m block => ⟨?_, fun g i room out => ?_⟩, fun free => ?_⟩
  · rw [port]
    exact ⟨rfl, rfl, rfl, rfl, rfl⟩
  · rw [att]
    cases p <;> exact ⟨rfl, rfl, rfl, rfl⟩
  · have same : (Machine.coldStart s).isPending p c =
        ({ State.reset with attn := coldAttn s.journalRebuilt.jammed } : State).isPending p c :=
      (congrArg (fun t : State => t.isPending p c) eq :)
    rw [same, isPending_coldAttn, jammed_iff]
    unfold State.segment
    rw [segments]
  · exact ⟨(congrArg Segment.guard (segment k) :), (congrArg Segment.holdPending (segment k) :)⟩
  · exact (congrArg State.emergency eq :).trans (emergency_torn_none idle _)
  · rw [slots, (worn_torn noBlock k).1]
    rfl
  · refine dirty (unsound_torn fun sound => ?_)
    rcases cut with cut | ⟨i, unreadable⟩
    · exact Bool.false_ne_true (sound.1.symm.trans cut)
    · exact sound.2 i unreadable
  · refine dirty ?_
    rw [torn_block block, segment_modSegment_same]
    exact unsound_blockTorn _ k b m _
  · rw [slots, get_torn_block block room out]
    rfl
  · have whole : s.journalRebuilt = s.journal.rebuilt s.supply.elapsed :=
      congrArg (fun j : Journal => j.rebuilt s.supply.elapsed) (torn_none free)
    have found (k : SegIx) : (Machine.coldStart s).segment k = tget (s.journal.rebuilt s.supply.elapsed).segments k := by
      unfold State.segment
      rw [segments, whole]
    have read (k : SegIx) : (Machine.coldStart s).segment k =
        { (s.segment k).rebuilt k s.supply.elapsed with state := ((Machine.coldStart s).segment k).state } := by
      refine Segment.Restated.eq ?_
      rw [found]
      exact restated_rebuilt ..
    have next : (Machine.coldStart s).journal.nextSeq = s.journal.following s.supply.elapsed + 1 :=
      field _ _ (congrArg (fun j : Journal => j.nextSeq + 1) whole :)
    have cursor : (Machine.coldStart s).journal.cursor = (s.journal.rebuilt s.supply.elapsed).cursor :=
      field _ _ (congrArg Journal.cursor whole :)
    intro good holds empty plain
    refine ⟨fun k none_ => ?_, fun k marks => ?_, fun k c window r there => ⟨fun lowest => ?_, fun highest => ?_⟩,
      fun none_ => ⟨?_, ?_, fun full k => ?_, fun k vacant first => ?_⟩, fun c window => ⟨fun k r there lowest => ?_,
      fun k r there highest only => ⟨?_, fun b here last => ⟨fun below => ?_, fun top => ⟨?_, fun full i => ?_, fun d vacant first => ?_⟩⟩⟩⟩⟩
    · rw [read]
      exact ends_rebuilt_none k s.supply.elapsed none_
    · rw [read]
      exact hold_rebuilt k s.supply.elapsed marks
    · rw [read]
      exact first_rebuilt k s.supply.elapsed window there lowest
    · rw [read]
      exact last_rebuilt k s.supply.elapsed window there highest
    · rw [next]
      unfold Journal.following
      rw [committed_readBack_nil none_]
      rfl
    · rw [cursor, rebuilt_journal_eq]
      unfold Journal.following
      rw [committed_readBack_nil none_]
      rfl
    · have plain := rebuilt_none_vacant (elapsed := s.supply.elapsed) none_ full k
      rw [← found] at plain
      exact plain
    · have head := rebuilt_first_vacant (elapsed := s.supply.elapsed) none_ vacant first
      simp only [← found] at head
      exact head
    · rw [cursor]
      exact cursor_rebuilt window there lowest
    · rw [next, following_rebuilt window there highest, BitVec.add_assoc]
      rfl
    · have head := rebuilt_goes_on (elapsed := s.supply.elapsed) window there highest only (nextBlock_eq here last) (Nat.succ_lt_succ below)
      simp only [← found] at head
      exact head
    · have head := rebuilt_full_head (elapsed := s.supply.elapsed) window there highest only
        ((nextBlock_eq here last).trans (congrArg (· + 1) top))
      rw [← found] at head
      exact head
    · have plain := rebuilt_full_nowhere (elapsed := s.supply.elapsed) window there highest only
        ((nextBlock_eq here last).trans (congrArg (· + 1) top)) full i
      rw [← found] at plain
      exact plain
    · have head := rebuilt_full_next (elapsed := s.supply.elapsed) window there highest only
        ((nextBlock_eq here last).trans (congrArg (· + 1) top)) vacant first
      simp only [← found] at head
      exact head

end Sys2Proof.Settled
end

section
/-! The statement of the order of checks (R64 to R76): what a judgement gathers, and what it decides. -/

/- The joined text is checked with bounded memory: proofs are elaborated one after another, not each in a thread of its own. -/
set_option Elab.async false

namespace Sys2Proof.Machine

/-! ### The presentation judged (R63) -/

theorem exec_judgement {i : Nat} {x : Presentation} {s : State} (h : s.nextWaiting i x) :
    exec .presentationJudgement s = .next (judgePresentation i x s) := by
  obtain ⟨run, at_, waits, first⟩ := h
  obtain ⟨small, here⟩ := List.getElem?_eq_some_iff.mp at_
  have index : s.verdict.queue.findIdx? Presentation.waiting = some i := by
    refine List.findIdx?_eq_some_iff_getElem.mpr ⟨small, ?_, fun j below waiting => ?_⟩
    · rw [here]
      exact Option.isNone_iff_eq_none.mpr waits
    · exact first j _ below (List.getElem?_eq_getElem _) (Option.isNone_iff_eq_none.mp waiting)
  refine congrArg Host.Outcome.next ?_
  unfold presentationJudgement
  rw [run, index]
  dsimp only
  rw [at_]

/-! ### The lookup and its corrections (R42, R44) -/

theorem entry_retire {k : KeyIx} {e : KeyEntry} {s : State} (h : s.entry k = some e) (how : RetiredAs) (why : RetireReason) :
    (retire k how why none s).entry k = some { e with standing := .retired how why (s.now.getD 0) } := by
  rw [retire_eq h]
  unfold State.entry
  rw [offer_keys, retiredKey_rest]
  exact tget_tset_same ..

/-- Every binding of a guest key in service is stale (R42). -/
def State.spent (s : State) (e : KeyEntry) : Prop :=
  e.isGuest = true ∧ e.standing.inService = true ∧ ∀ b ∈ e.bindings, s.bindingMark b = .stale

section
variable {s : State} {card : CardId} {k : KeyIx} {e : KeyEntry}

theorem all_stale_iff : (e.bindings.all fun b => decide (s.bindingMark b = .stale)) = true ↔ ∀ b ∈ e.bindings, s.bindingMark b = .stale := by
  simp only [List.all_eq_true, decide_eq_true_iff]

theorem correctEntry_expired (live : e.standing = .live) (passed : s.untilPassed e = true) :
    correctEntry k e s = retire k .expired .expired none s := if_pos ⟨live, passed⟩

theorem correctEntry_replaced (unexpired : ¬ (e.standing = .live ∧ s.untilPassed e = true)) (spent : s.spent e) :
    correctEntry k e s = retire k .revoked .replaced none s := by
  obtain ⟨guest, service, stale⟩ := spent
  exact (if_neg unexpired).trans (if_pos ⟨guest, service, all_stale_iff.mpr stale⟩)

theorem correctEntry_stands (unexpired : ¬ (e.standing = .live ∧ s.untilPassed e = true)) (current : ¬ s.spent e) :
    correctEntry k e s = s :=
  (if_neg unexpired).trans (if_neg fun ⟨guest, service, stale⟩ => current ⟨guest, service, all_stale_iff.mp stale⟩)

theorem lookup_unknown (unknown : s.findCard card = none) : lookup card s = (s, none) := by
  unfold lookup
  rw [unknown]

variable (found : s.findCard card = some (k, e))
include found

theorem lookup_found : lookup card s = (correctEntry k e s, ((correctEntry k e s).entry k).map fun e => (k, e)) := by
  unfold lookup
  rw [found]

theorem lookup_stands (stands : correctEntry k e s = s) : lookup card s = (s, some (k, e)) := by
  rw [lookup_found found, stands, (entry_of_findCard found).1]
  rfl

theorem lookup_retired {how : RetiredAs} {why : RetireReason} (retired : correctEntry k e s = retire k how why none s) :
    lookup card s = (retire k how why none s, some (k, { e with standing := .retired how why (s.now.getD 0) })) := by
  rw [lookup_found found, retired, entry_retire (entry_of_findCard found).1]
  rfl

end

/-- What the lookup finds: no entry, an entry that stands, or one that the lookup retires. -/
inductive State.LookedUp (s : State) (card : CardId) : State → Option (KeyIx × KeyEntry) → Prop
  | unknown (none_ : s.findCard card = none) : s.LookedUp card s none
  | stands (k : KeyIx) (e : KeyEntry) (found : s.findCard card = some (k, e)) : s.LookedUp card s (some (k, e))
  | retired (k : KeyIx) (e : KeyEntry) (how : RetiredAs) (why : RetireReason) (found : s.findCard card = some (k, e)) :
    s.LookedUp card (retire k how why none s) (some (k, { e with standing := .retired how why (s.now.getD 0) }))

theorem lookedUp (s : State) (card : CardId) : s.LookedUp card (lookup card s).1 (lookup card s).2 := by
  cases found : s.findCard card with
  | none =>
    rw [lookup_unknown found]
    exact .unknown found
  | some y =>
    obtain ⟨k, e⟩ := y
    by_cases expired : e.standing = .live ∧ s.untilPassed e = true
    · rw [lookup_retired found (correctEntry_expired expired.1 expired.2)]
      exact .retired k e _ _ found
    · by_cases spent : s.spent e
      · rw [lookup_retired found (correctEntry_replaced expired spent)]
        exact .retired k e _ _ found
      · rw [lookup_stands found (correctEntry_stands expired spent)]
        exact .stands k e found

/-! ### What a judgement gathers (R64) -/

/-- What the judgement of a presentation gathers. -/
def State.gathered (s : State) (x : Presentation) : Gathered :=
  { seen := x, record := s.node x.node, watch := s.watchOf x.card, found := (lookup x.card s).2
    slot := if (lookup x.card s).2.isNone then s.emergencySlot x.card else none }

/-- The state after a decided verdict has sent its claims and, where it is a GRANT, had its effects. -/
def applied (g : Gathered) (d : Decision) (s : State) : State :=
  match d.verdict.outcome with
  | .grant => applyGrant g d (sendClaims g d s)
  | .deny => sendClaims g d s

theorem judgePresentation_eq (i : Nat) (x : Presentation) (s : State) : judgePresentation i x s =
    let g := s.gathered x
    let hit := watchHit g (lookup x.card s).1
    queueVerdict i g (hit.judge g) (offerVerdict g (hit.judge g) (applied g (hit.judge g) hit)) := rfl

/-! ### The order of checks (R65) -/

section
variable (s : State) (g : Gathered)

/-- Steps 4 to 7 on a key entry: the reason of a denial, none where it passes (R67, R50 to R52). -/
def State.keyTests (e : KeyEntry) : Option Reason :=
  e.stateTest.or ((e.validityTest (s.profile e.profile) g.seen.arrival).or
    (((s.profile e.profile).kindTest g.record.config).or
      ((zoneTest e g.record.zone).or ((s.profile e.profile).timeTest g.seen.arrival))))

variable {s g} {k : KeyIx} {e : KeyEntry}

theorem judgeKey_denied {why : Reason} (h : s.keyTests g e = some why) : s.judgeKey g k e = deny why := by
  unfold State.keyTests at h
  unfold State.judgeKey
  dsimp only
  rw [h]

theorem judgeKey_passed (h : s.keyTests g e = none) : s.judgeKey g k e = s.atNode g k e (s.profile e.profile) := by
  unfold State.keyTests at h
  unfold State.judgeKey
  dsimp only
  rw [h]

theorem judgeKey_state {why : Reason} (h : e.stateTest = some why) : s.judgeKey g k e = deny why :=
  judgeKey_denied (by unfold State.keyTests; rw [h, Option.some_or])

theorem stateTest_retired (how : RetiredAs) (why : RetireReason) (time : HotelTime) :
    { e with standing := .retired how why time : KeyEntry }.stateTest = some (match how with | .revoked => .revoked | .expired => .expired) := by
  cases how <;> rfl

theorem judgeCard_found (found : g.found = some (k, e)) : s.judgeCard g = s.judgeKey g k e := by
  unfold State.judgeCard
  rw [found]

theorem judgeCard_emergency {f : Fin 4} {zones : Set16} (none_ : g.found = none) (slot : g.slot = some (f, zones)) :
    s.judgeCard g = s.judgeEmergency g zones := by
  unfold State.judgeCard
  rw [none_, slot]

theorem judgeCard_unknown (none_ : g.found = none) (slot : g.slot = none) : s.judgeCard g = deny .unknown := by
  unfold State.judgeCard
  rw [none_, slot]

theorem judge_unconfigured (h : g.record.config.configured = false) : s.judge g = deny .kind := if_pos h

section
variable (configured : g.record.config.configured = true)
include configured

theorem judge_mode {d : Decision} (mode : g.modeVerdict = some d) : s.judge g = d := by
  refine (if_neg (by rw [configured]; exact Bool.noConfusion)).trans ?_
  rw [mode]

theorem judge_listed (mode : g.modeVerdict = none) : s.judge g =
    if g.watch.map WatchEntry.action = some .alertAndDeny then deny .watched else s.judgeCard g := by
  refine (if_neg (by rw [configured]; exact Bool.noConfusion)).trans ?_
  rw [mode]

theorem judge_watched (mode : g.modeVerdict = none) (listed : g.watch.map WatchEntry.action = some .alertAndDeny) :
    s.judge g = deny .watched := (judge_listed configured mode).trans (if_pos listed)

theorem judge_card (mode : g.modeVerdict = none) (unlisted : g.watch.map WatchEntry.action ≠ some .alertAndDeny) :
    s.judge g = s.judgeCard g := (judge_listed configured mode).trans (if_neg unlisted)

end

theorem modeVerdict_normal (h : g.record.mode = .normal) : g.modeVerdict = none := by
  unfold Gathered.modeVerdict
  rw [h]

theorem modeVerdict_passage (h : g.record.mode = .passage) : g.modeVerdict = some (grant .passage) := by
  unfold Gathered.modeVerdict
  rw [h]

theorem modeVerdict_released {kept : KeptMode} (h : g.record.mode = .released kept) : g.modeVerdict = some (grant .released) := by
  unfold Gathered.modeVerdict
  rw [h]

theorem modeVerdict_secured (h : g.record.mode = .secured) :
    g.modeVerdict = if g.slot.isSome then none else some (deny .secured) := by
  unfold Gathered.modeVerdict
  rw [h]

end

/-! ### The judgement decides on the state as it stands -/

theorem watchHit_touches (g : Gathered) (s : State) : watchHit g s = { s with
    ports := (watchHit g s).ports, attn := (watchHit g s).attn, journal := (watchHit g s).journal } := by
  unfold watchHit
  split
  · rfl
  · unfold raise
    rw [offer_touches]
    rfl

theorem judge_watchHit (g : Gathered) (s : State) : (watchHit g s).judge g = s.judge g := by
  rw [watchHit_touches]
  rfl

/-- A retired entry is denied by its state wherever its card comes to be judged, so that nothing else of the state counts. -/
theorem judge_retired {g : Gathered} {k : KeyIx} {e : KeyEntry} {why : Reason} (found : g.found = some (k, e))
    (state : e.stateTest = some why) (s t : State) : s.judge g = t.judge g := by
  have card (u : State) : u.judgeCard g = deny why := (judgeCard_found found).trans (judgeKey_state state)
  unfold State.judge
  rw [card, card]

/-- The verdict is the one that the state before the lookup gives. -/
theorem judge_hit (x : Presentation) (s : State) :
    (watchHit (s.gathered x) (lookup x.card s).1).judge (s.gathered x) = s.judge (s.gathered x) := by
  rw [judge_watchHit]
  have found : (s.gathered x).found = (lookup x.card s).2 := rfl
  have looked := lookedUp s x.card
  generalize (lookup x.card s).1 = c, (lookup x.card s).2 = f at looked found
  cases looked with
  | unknown none_ => rfl
  | stands k e found' => rfl
  | retired k e how why found' => exact judge_retired found (stateTest_retired ..) _ _

/-! ### What a judgement leaves unchanged -/

/-- The claims that a verdict sends to the Key Register (R78). -/
def Gathered.claims (g : Gathered) (d : Decision) : List VeClaim :=
  match g.found with
  | none => []
  | some (k, e) => .use k e.card d.used g.seen.arrival false ::
      match d.move with | some (m, r) => [.rebind k e.card m r false] | none => []

theorem sendClaims_eq (g : Gathered) (d : Decision) (s : State) :
    sendClaims g d s = { s with keys := { s.keys with claims := s.keys.claims ++ g.claims d } } := by
  unfold sendClaims Gathered.claims
  cases g.found with
  | none => exact congrArg (fun cs => { s with keys := { s.keys with claims := cs } }) (List.append_nil _).symm
  | some y => exact congrArg (fun cs => { s with keys := { s.keys with claims := cs } }) (List.append_assoc ..)

theorem claimRoom_touches (g : Gathered) (d : Decision) (s : State) : claimRoom g d s = { s with
    rooms := (claimRoom g d s).rooms, lamps := (claimRoom g d s).lamps } := by
  unfold claimRoom
  split
  · rfl
  · dsimp only
    split
    · rw [setMakeup_touches]
      rfl
    · rfl

/-- The charge unit once a decision's session is made (R72). -/
def Decision.charged (d : Decision) (c : ChargeUnit) : ChargeUnit := { c with sessions := c.sessions ++ d.session.toList }

theorem applyGrant_eq (g : Gathered) (d : Decision) (s : State) : applyGrant g d s =
    setGrant g.seen.node g.holder (claimRoom g d { s with charge := d.charged s.charge }) := by
  unfold applyGrant Decision.charged
  cases d.session with
  | none =>
    refine congrArg (fun c => setGrant g.seen.node g.holder (claimRoom g d { s with charge := c })) ?_
    exact congrArg (fun xs => { s.charge with sessions := xs }) (List.append_nil _).symm
  | some y => rfl

section
variable (g : Gathered) {d : Decision} (s : State)

theorem applied_grant (h : d.verdict.outcome = .grant) : applied g d s = setGrant g.seen.node g.holder (claimRoom g d { s with
    charge := d.charged s.charge, keys := { s.keys with claims := s.keys.claims ++ g.claims d } }) := by
  have eq : applied g d s = applyGrant g d (sendClaims g d s) := by
    unfold applied
    rw [h]
  rw [eq, sendClaims_eq, applyGrant_eq]

theorem applied_deny (h : d.verdict.outcome = .deny) :
    applied g d s = { s with keys := { s.keys with claims := s.keys.claims ++ g.claims d } } := by
  have eq : applied g d s = sendClaims g d s := by
    unfold applied
    rw [h]
  rw [eq, sendClaims_eq]

theorem applied_touches (d : Decision) : applied g d s = { s with
    rooms := (applied g d s).rooms, nodes := (applied g d s).nodes, charge := (applied g d s).charge, lamps := (applied g d s).lamps
    keys := { s.keys with claims := s.keys.claims ++ g.claims d } } := by
  cases outcome : d.verdict.outcome with
  | deny => rw [applied_deny g s outcome]
  | grant =>
    rw [applied_grant g s outcome, claimRoom_touches]
    rfl

end

section
variable (s : State) (g : Gathered) (d : Decision)

/-- The one entry record of a verdict (R79). -/
def State.entryOffer : Offer :=
  { kind := match d.verdict.outcome with | .grant => .entryGranted | .deny => .entryDenied
    cls := d.verdict.outcome.recordClass, time := g.seen.arrival, node := some g.seen.node, room := s.entryRoom g
    card := some g.seen.card, key := g.found.map Prod.fst, reason := some (.verdict d.verdict.reason), detail := g.entryDetail d.verdict }

/-- The record of one side of a connecting door (R79). -/
def Gathered.sideOffer (far : Bool) (t : SideTest) : Offer :=
  { kind := .connectSide, cls := d.verdict.outcome.recordClass, time := g.seen.arrival, node := some g.seen.node
    room := some t.room, card := some g.seen.card, key := g.found.map Prod.fst, reason := some (.verdict d.verdict.reason)
    detail := BitVec.ofNat 16 (bit 0 far + bit 1 t.passed + 4 * ((g.slot.map fun k => k.1.val).getD 0)) }

/-- The records of a verdict (R79). -/
def State.verdictOffers : List Offer :=
  match d.sides with
  | some (near, far) => [g.sideOffer d false near, g.sideOffer d true far]
  | none => [s.entryOffer g d]

theorem offerVerdict_eq : offerVerdict g d s = offers (s.verdictOffers g d) s := by
  unfold offerVerdict State.verdictOffers
  cases d.sides with
  | none => rfl
  | some y => rfl

end

theorem lookup_touches (card : CardId) (s : State) : (lookup card s).1 = { s with
    ports := (lookup card s).1.ports, attn := (lookup card s).1.attn, rooms := (lookup card s).1.rooms
    keys := (lookup card s).1.keys, journal := (lookup card s).1.journal } := by
  have looked := lookedUp s card
  generalize (lookup card s).1 = c, (lookup card s).2 = f at looked
  cases looked with
  | unknown none_ => rfl
  | stands k e found => rfl
  | retired k e how why found => exact retire_touches ..

/-- The decision of a presentation's judgement. -/
def State.decision (s : State) (x : Presentation) : Decision := s.judge (s.gathered x)

/-- The state once a presentation's card is looked up, and its watch entry told. -/
def hitBy (x : Presentation) (s : State) : State := watchHit (s.gathered x) (lookup x.card s).1

/-- The state once a presentation's verdict has had its effects, before its records. -/
def appliedBy (x : Presentation) (s : State) : State := applied (s.gathered x) (s.decision x) (hitBy x s)

/-- The state once the records of a presentation's verdict are offered. -/
def toldBy (x : Presentation) (s : State) : State := offers ((appliedBy x s).verdictOffers (s.gathered x) (s.decision x)) (appliedBy x s)

theorem judgePresentation_told (i : Nat) (x : Presentation) (s : State) :
    judgePresentation i x s = queueVerdict i (s.gathered x) (s.decision x) (toldBy x s) := by
  rw [judgePresentation_eq]
  dsimp only
  rw [judge_hit, offerVerdict_eq]
  rfl

section
variable (x : Presentation) (s : State)

theorem hitBy_touches : hitBy x s = { s with
    ports := (hitBy x s).ports, attn := (hitBy x s).attn, journal := (hitBy x s).journal
    rooms := (lookup x.card s).1.rooms, keys := (lookup x.card s).1.keys } := by
  have looked := lookup_touches x.card s
  refine (watchHit_touches (s.gathered x) (lookup x.card s).1).trans ?_
  rw [(congrArg State.verdict looked :), (congrArg State.nodes looked :), (congrArg State.lines looked :),
    (congrArg State.charge looked :), (congrArg State.lamps looked :), (congrArg State.supply looked :),
    (congrArg State.emergency looked :), (congrArg State.pending looked :)]
  rfl

theorem appliedBy_touches : appliedBy x s = { s with
    ports := (hitBy x s).ports, attn := (hitBy x s).attn, journal := (hitBy x s).journal
    rooms := (appliedBy x s).rooms, nodes := (appliedBy x s).nodes, charge := (appliedBy x s).charge, lamps := (appliedBy x s).lamps
    keys := { (lookup x.card s).1.keys with
      claims := (lookup x.card s).1.keys.claims ++ (s.gathered x).claims (s.decision x) } } := by
  have hit := hitBy_touches x s
  refine (applied_touches (s.gathered x) (hitBy x s) (s.decision x)).trans ?_
  rw [(congrArg State.verdict hit :), (congrArg State.lines hit :), (congrArg State.supply hit :),
    (congrArg State.emergency hit :), (congrArg State.pending hit :), (congrArg State.keys hit :)]
  rfl

theorem toldBy_touches : toldBy x s = { appliedBy x s with
    ports := (toldBy x s).ports, attn := (toldBy x s).attn, journal := (toldBy x s).journal } := offers_touches ..

theorem line_judgePresentation (i : Nat) (l : LineIx) : (judgePresentation i x s).line l =
    if x.node.line = l then { s.line l with verdicts := (s.line l).verdicts ++
      [{ addr := x.node.addr, verdict := (s.decision x).verdict, card := some x.card
         key := (lookup x.card s).2.map Prod.fst, remote := false }] }
    else s.line l := by
  have lines : (toldBy x s).lines = s.lines :=
    (congrArg State.lines (toldBy_touches x s) :).trans (congrArg State.lines (appliedBy_touches x s) :)
  have modified : (judgePresentation i x s).lines = tmod s.lines x.node.line fun ln => { ln with verdicts := ln.verdicts ++
      [{ addr := x.node.addr, verdict := (s.decision x).verdict, card := some x.card
         key := (lookup x.card s).2.map Prod.fst, remote := false }] } := by
    rw [judgePresentation_told, ← lines]
    rfl
  unfold State.line
  rw [modified]
  split
  · next same =>
    subst same
    exact tget_tmod_same ..
  · next other => exact tget_tmod_ne (by decide) _ _ _ _ other

end

theorem lastVerdict_judgePresentation (i : Nat) (x : Presentation) (s : State) :
    (judgePresentation i x s).lastVerdict x.node.line = some (s.judge (s.gathered x)).verdict := by
  unfold State.lastVerdict
  rw [line_judgePresentation, if_pos rfl, List.getLast?_concat]
  rfl

end Sys2Proof.Machine
end

section
/-! The statement of the order of checks (R65 to R76). -/

/- The joined text is checked with bounded memory: proofs are elaborated one after another, not each in a thread of its own. -/
set_option Elab.async false

namespace Sys2Proof.Machine

/-! ### The tests of a profile (R50 to R52) -/

/-- A profile admits a node's kind and, at a common door, its class (R50). -/
def Profile.admits (p : Profile) (c : NodeConfig) : Prop :=
  c.kindBit.any p.kinds.getLsbD = true ∧ ∀ k ws, c = .commonDoor k ws → p.classes.getLsbD k = true

section
variable {p : Profile} {c : NodeConfig}

theorem kindTest_admits (h : p.admits c) : p.kindTest c = none := by
  obtain ⟨kind, cls⟩ := h
  cases bit : c.kindBit with
  | none =>
    rw [bit] at kind
    cases kind
  | some b =>
    have has : p.kinds.getLsbD b = true := by
      rw [bit] at kind
      exact kind
    unfold Profile.kindTest
    rw [bit]
    refine (if_neg (by rw [has]; exact Bool.noConfusion)).trans ?_
    cases c with
    | commonDoor k ws => exact if_pos (cls k ws rfl)
    | _ => rfl

theorem kindTest_refused (h : ¬ p.admits c) : p.kindTest c = some .kind := by
  cases bit : c.kindBit with
  | none =>
    unfold Profile.kindTest
    rw [bit]
  | some b =>
    unfold Profile.kindTest
    rw [bit]
    by_cases has : p.kinds.getLsbD b = false
    · exact if_pos has
    · refine (if_neg has).trans ?_
      have kind : c.kindBit.any p.kinds.getLsbD = true := by
        rw [bit]
        exact Bool.not_eq_false _ |>.mp has
      cases c with
      | commonDoor k ws =>
        refine if_neg fun cls => h ⟨kind, fun k' ws' e => ?_⟩
        cases e
        exact cls
      | _ => exact absurd ⟨kind, nofun⟩ h

end

/-- A key may be used in a zone: a guest key is not zone-tested (R50). -/
def KeyEntry.zoned (e : KeyEntry) (zone : Fin 16) : Prop := ∀ zones, e.body = .staff zones → zones.getLsbD zone = true

section
variable {e : KeyEntry} {zone : Fin 16}

theorem zoneTest_zoned (h : e.zoned zone) : zoneTest e zone = none := by
  unfold zoneTest KeyEntry.zones
  cases body : e.body with
  | guest bs => rfl
  | staff zones => exact if_pos (h zones body)

theorem zoneTest_outside (h : ¬ e.zoned zone) : zoneTest e zone = some .zone := by
  unfold zoneTest KeyEntry.zones
  cases body : e.body with
  | guest bs => exact absurd (fun zones is => nomatch (body.symm.trans is)) h
  | staff zones =>
    refine if_neg fun inside => h fun zones' is => ?_
    cases body.symm.trans is
    exact inside

end

section
variable {s : State} {g : Gathered} {e : KeyEntry}

theorem keyTests_validity {why : Reason} (live : e.standing = .live)
    (fails : e.validityTest (s.profile e.profile) g.seen.arrival = some why) : s.keyTests g e = some why := by
  unfold State.keyTests KeyEntry.stateTest
  rw [live, fails]
  rfl

variable (live : e.standing = .live) (valid : e.validityTest (s.profile e.profile) g.seen.arrival = none)
include live valid

theorem keyTests_valid : s.keyTests g e = ((s.profile e.profile).kindTest g.record.config).or
    ((zoneTest e g.record.zone).or ((s.profile e.profile).timeTest g.seen.arrival)) := by
  unfold State.keyTests KeyEntry.stateTest
  rw [live, valid]
  rfl

theorem keyTests_kind (refused : ¬ (s.profile e.profile).admits g.record.config) : s.keyTests g e = some .kind := by
  rw [keyTests_valid live valid, kindTest_refused refused]
  rfl

variable (admits : (s.profile e.profile).admits g.record.config)
include admits

theorem keyTests_zone (outside : ¬ e.zoned g.record.zone) : s.keyTests g e = some .zone := by
  rw [keyTests_valid live valid, kindTest_admits admits, zoneTest_outside outside]
  rfl

theorem keyTests_time (zoned : e.zoned g.record.zone) : s.keyTests g e = (s.profile e.profile).timeTest g.seen.arrival := by
  rw [keyTests_valid live valid, kindTest_admits admits, zoneTest_zoned zoned]
  rfl

end

theorem validityTest_early {e : KeyEntry} {p : Profile} {now : HotelTime} (early : now < e.validFrom) :
    e.validityTest p (some now) = some .notYet := if_pos early

theorem validityTest_unset {e : KeyEntry} {p : Profile} (clocked : p.clockless = false) : e.validityTest p none = some .clock :=
  if_neg (by rw [clocked]; exact Bool.noConfusion)

theorem validityTest_valid {e : KeyEntry} {p : Profile} {arrival : Stamp} (begun : ∀ now, arrival = some now → e.validFrom ≤ now)
    (clockless : arrival = none → p.clockless = true) : e.validityTest p arrival = none := by
  cases arrival with
  | none => exact if_pos (clockless rfl)
  | some now => exact if_neg (BitVec.not_lt.mpr (begun now rfl))

theorem timeTest_outside {p : Profile} {now : HotelTime}
    (h : p.days.getLsbD (dayNumber now) = false ∨ inWindow p.windowFrom p.windowUntil (minuteOfDay now) = false) :
    p.timeTest (some now) = some .time := by
  refine if_neg fun both => ?_
  obtain ⟨day, window⟩ := Bool.and_eq_true_iff.mp both
  rcases h with no | no
  · exact Bool.false_ne_true (no.symm.trans day)
  · exact Bool.false_ne_true (no.symm.trans window)

theorem timeTest_inside {p : Profile} {arrival : Stamp} (h : ∀ now, arrival = some now →
    p.days.getLsbD (dayNumber now) = true ∧ inWindow p.windowFrom p.windowUntil (minuteOfDay now) = true) :
    p.timeTest arrival = none := by
  cases arrival with
  | none => rfl
  | some now => exact if_pos (Bool.and_eq_true_iff.mpr (h now rfl))

/-! ### What is gathered for a card (R64) -/

section
variable {x : Presentation} {s : State}

theorem gathered_unknown (unknown : s.findCard x.card = none) :
    (s.gathered x).found = none ∧ (s.gathered x).slot = s.emergencySlot x.card := by
  have looked := lookup_unknown unknown
  unfold State.gathered
  rw [looked]
  exact ⟨rfl, rfl⟩

variable {k : KeyIx} {e : KeyEntry} (found : s.findCard x.card = some (k, e))
include found

theorem gathered_stands (unexpired : ¬ (e.standing = .live ∧ s.untilPassed e = true)) (current : ¬ s.spent e) :
    (s.gathered x).found = some (k, e) :=
  (congrArg Prod.snd (lookup_stands found (correctEntry_stands unexpired current)) :)

theorem gathered_expired (live : e.standing = .live) (passed : s.untilPassed e = true) :
    (s.gathered x).found = some (k, { e with standing := .retired .expired .expired (s.now.getD 0) }) :=
  (congrArg Prod.snd (lookup_retired found (correctEntry_expired live passed)) :)

theorem gathered_replaced (unexpired : ¬ (e.standing = .live ∧ s.untilPassed e = true)) (spent : s.spent e) :
    (s.gathered x).found = some (k, { e with standing := .retired .revoked .replaced (s.now.getD 0) }) :=
  (congrArg Prod.snd (lookup_retired found (correctEntry_replaced unexpired spent)) :)

theorem slot_known : (s.gathered x).slot = none := by
  have there := lookedUp s x.card
  unfold State.gathered
  generalize (lookup x.card s).1 = c, (lookup x.card s).2 = f at there
  cases there with
  | unknown none_ => rw [found] at none_; cases none_
  | stands k e h => rfl
  | retired k e how why h => rfl

end

/-! ### The rules of each kind of node (R53, R54, R69 to R76) -/

section
variable {s : State} {e : KeyEntry} {p : Profile} {r : RoomIx}

theorem boundTo_eq (s : State) (e : KeyEntry) (r : RoomIx) : s.boundTo e r = s.binds e r := by
  unfold State.boundTo State.binds
  refine congrArg e.bindings.any (funext fun b => ?_)
  unfold State.isCurrent
  rw [← Bool.decide_and]
  refine decide_eq_decide.mpr (and_congr_right fun room => ?_)
  rw [room]

theorem roomPermission_permitted {rm : Room} (h : p.permits rm = true) :
    p.roomPermission rm = .ok (rm.standsOccupied && !p.enterOccupied) := by
  unfold Profile.permits at h
  unfold Profile.roomPermission
  cases occupied : rm.standsOccupied with
  | false =>
    rw [occupied] at h
    exact if_pos h
  | true =>
    rw [occupied] at h
    rcases Bool.or_eq_true_iff.mp h with enter | makeup
    · rw [enter]
      rfl
    · obtain ⟨only, wanted⟩ := Bool.and_eq_true_iff.mp makeup
      rw [only, wanted]
      cases p.enterOccupied <;> rfl

theorem roomPermission_refused {rm : Room} (h : p.permits rm = false) :
    p.roomPermission rm = .error (if (rm.standsOccupied && p.makeupOnly) = true then .makeup else .roomState) := by
  unfold Profile.permits at h
  unfold Profile.roomPermission
  cases occupied : rm.standsOccupied with
  | false =>
    rw [occupied] at h
    have vacant : p.enterVacant = false := h
    rw [vacant]
    rfl
  | true =>
    rw [occupied] at h
    obtain ⟨enter, makeup⟩ := Bool.or_eq_false_iff.mp h
    rw [enter]
    cases only : p.makeupOnly with
    | false => rfl
    | true =>
      rw [only] at makeup
      rw [show rm.makeup = false from makeup]
      rfl

theorem nearTest_eq (s : State) (e : KeyEntry) (near : RoomIx) : s.nearTest e (s.profile e.profile) near = s.nearOpens e near := by
  unfold State.nearTest State.nearOpens
  rw [boundTo_eq]
  refine if_congr Iff.rfl rfl ?_
  cases permits : (s.profile e.profile).permits (s.room near) with
  | false => rw [roomPermission_refused permits]
  | true => rw [roomPermission_permitted permits]

theorem overrideTest_eq (p : Profile) (rm : Room) : p.overrideTest rm =
    if rm.isBlocked = true ∧ p.overrideBlock = false then some .blocked
    else if rm.privacy = true ∧ p.overridePrivacy = false then some .privacy else none := by
  unfold Profile.overrideTest
  simp only [Bool.and_eq_true, Bool.not_eq_true']

theorem overrideTest_isNone (p : Profile) (rm : Room) :
    (p.overrideTest rm).isNone = ((!rm.isBlocked || p.overrideBlock) && (!rm.privacy || p.overridePrivacy)) := by
  unfold Profile.overrideTest
  cases rm.isBlocked <;> cases p.overrideBlock <;> cases rm.privacy <;> cases p.overridePrivacy <;> rfl

theorem farTest_eq (s : State) (e : KeyEntry) (near far : RoomIx) :
    s.farTest e (s.profile e.profile) near far = s.farOpens e near far := by
  unfold State.farTest State.farOpens State.sharedFolio
  dsimp only
  rw [boundTo_eq, boundTo_eq, overrideTest_isNone, Bool.and_assoc (s.binds e near)]
  refine if_congr Iff.rfl rfl ?_
  cases permits : (s.profile e.profile).permits (s.room far) with
  | false => rw [roomPermission_refused permits]; rfl
  | true => rw [roomPermission_permitted permits, Bool.true_and]

theorem moveOf_isNone_iff (unbound : s.binds e r = false) : (s.moveOf e r).isNone = true ↔
    ((s.room r).movedFrom.any fun m => e.bindings.contains ⟨m.source, m.generation⟩) = false := by
  unfold State.moveOf
  rw [boundTo_eq, unbound]
  cases (s.room r).movedFrom with
  | none => exact iff_of_true rfl rfl
  | some m =>
    rw [Option.any_some]
    dsimp only
    cases e.bindings.contains ⟨m.source, m.generation⟩ with
    | true => exact iff_of_false Bool.false_ne_true (Bool.noConfusion)
    | false => exact iff_of_true rfl rfl

theorem guestAtDoor_eq (s : State) (e : KeyEntry) (r : RoomIx) : s.guestAtDoor e r =
    let rm := s.room r
    if s.binds e r = false ∧ (rm.movedFrom.any fun m => e.bindings.contains ⟨m.source, m.generation⟩) = false then deny .stale
    else if rm.phase ≠ .occupied ∧ (rm.stayInProgress = false ∨ rm.closing ≠ none) then deny .roomState
    else if rm.isBlocked = true then deny .blocked
    else if rm.privacy = true then deny .privacy
    else { grant .key with move := (s.moveOf e r).map fun m => (m, r) } := by
  have stale : (!s.boundTo e r && (s.moveOf e r).isNone) = true ↔ s.binds e r = false ∧
      ((s.room r).movedFrom.any fun m => e.bindings.contains ⟨m.source, m.generation⟩) = false := by
    rw [boundTo_eq, Bool.and_eq_true, Bool.not_eq_true']
    exact and_congr_right moveOf_isNone_iff
  have state : (!((s.room r).stayInProgress && (decide ((s.room r).phase = .occupied) || (s.room r).closing.isNone))) = true ↔
      (s.room r).phase ≠ .occupied ∧ ((s.room r).stayInProgress = false ∨ (s.room r).closing ≠ none) := by
    by_cases occupied : (s.room r).phase = .occupied
    · have stays : (s.room r).stayInProgress = true := by
        unfold Room.stayInProgress
        rw [occupied]
      rw [stays, decide_eq_true occupied]
      exact iff_of_false nofun fun h => h.1 occupied
    · rw [decide_eq_false occupied, Bool.false_or, Bool.not_eq_true', Bool.and_eq_false_iff, Option.isNone_eq_false_iff,
        Option.isSome_iff_ne_none]
      exact (and_iff_right occupied).symm
  exact if_congr stale rfl (if_congr state rfl rfl)

theorem staffAtDoor_eq (s : State) (p : Profile) (r : RoomIx) : s.staffAtDoor p r =
    let rm := s.room r
    if p.permits rm = false then deny (if (rm.standsOccupied && p.makeupOnly) = true then .makeup else .roomState)
    else if rm.isBlocked = true ∧ p.overrideBlock = false then deny .blocked
    else if rm.privacy = true ∧ p.overridePrivacy = false then deny .privacy
    else { grant .key with makeupOnly := rm.standsOccupied && !p.enterOccupied } := by
  have tested := overrideTest_eq p (s.room r)
  unfold State.staffAtDoor
  dsimp only
  cases permits : p.permits (s.room r) with
  | false =>
    rw [roomPermission_refused permits, if_pos rfl]
  | true =>
    rw [roomPermission_permitted permits, if_neg Bool.noConfusion, tested]
    by_cases blocked : (s.room r).isBlocked = true ∧ p.overrideBlock = false
    · rw [if_pos blocked, if_pos blocked]
    · rw [if_neg blocked, if_neg blocked]
      by_cases veiled : (s.room r).privacy = true ∧ p.overridePrivacy = false
      · rw [if_pos veiled, if_pos veiled]
      · rw [if_neg veiled, if_neg veiled]

theorem atCommonDoor_eq (s : State) (e : KeyEntry) : s.atCommonDoor e =
    if e.isGuest = true ∧ ∀ b ∈ e.bindings, s.bindingMark b = .stale ∨
      (s.bindingMark b = .current ∧ (s.room b.room).stayInProgress = false) then deny .stale else grant .key := by
  have none_ : (e.isGuest && !e.bindings.any s.commonBinding) = true ↔ e.isGuest = true ∧ ∀ b ∈ e.bindings,
      s.bindingMark b = .stale ∨ (s.bindingMark b = .current ∧ (s.room b.room).stayInProgress = false) := by
    rw [Bool.and_eq_true, Bool.not_eq_true', List.any_eq_false]
    refine and_congr_right fun _ => forall₂_congr fun b _ => ?_
    unfold State.commonBinding
    cases s.bindingMark b <;> simp
  exact if_congr none_ rfl rfl

end

/-! ### Connecting doors (R73 to R76) -/

/-- The near and the far room of a side of a paired connecting door. -/
def nearRoom (side : Side) (a b : RoomIx) : RoomIx := if side = .a then a else b

theorem verdict_sidesVerdict (near far : SideTest) (granted : Reason) : (sidesVerdict near far granted).verdict =
    if near.passed = false then ⟨.deny, .nearSide⟩ else if far.passed = false then ⟨.deny, .farSide⟩ else ⟨.grant, granted⟩ := by
  unfold sidesVerdict
  cases near.passed with
  | false => rfl
  | true => cases far.passed <;> rfl

section
variable {s : State} {n : NodeAddr} {a b : RoomIx}

theorem nearFar_paired (paired : s.pairedRoom n a = some b) (side : Side) :
    s.nearFar n a side = (some (nearRoom side a b), some (nearRoom side b a)) := by
  unfold State.nearFar
  rw [paired]
  cases side <;> rfl

theorem nearFar_unpaired (unpaired : s.pairedRoom n a = none) (side : Side) :
    s.nearFar n a side = (if side = .a then some a else none, none) := by
  unfold State.nearFar
  rw [unpaired]
  cases side <;> rfl

theorem atConnectDoor_paired (paired : s.pairedRoom n a = some b) (side : Side) (e : KeyEntry) :
    s.atConnectDoor n a side e (s.profile e.profile) =
      sidesVerdict ⟨nearRoom side a b, s.nearOpens e (nearRoom side a b)⟩
        ⟨nearRoom side b a, s.farOpens e (nearRoom side a b) (nearRoom side b a)⟩ .key := by
  unfold State.atConnectDoor
  rw [nearFar_paired paired]
  dsimp only
  rw [nearTest_eq, farTest_eq]

theorem atConnectDoor_unpaired (unpaired : s.pairedRoom n a = none) (side : Side) (e : KeyEntry) :
    s.atConnectDoor n a side e (s.profile e.profile) =
      if side = .a ∧ s.nearOpens e a = true then grant .key else deny .nearSide := by
  unfold State.atConnectDoor
  rw [nearFar_unpaired unpaired]
  cases side with
  | a => exact if_congr ((Bool.eq_iff_iff.mp (nearTest_eq ..)).trans (and_iff_right rfl).symm) rfl rfl
  | b => exact (if_neg fun h => nomatch h.1).symm

theorem pairedRoom_eq_none_iff : s.pairedRoom n a = none ↔ ∀ b, (s.room a).pairing ≠ some ⟨b, n⟩ := by
  rw [Option.eq_none_iff_forall_ne_some]
  exact forall_congr' fun b => not_congr (pairedRoom_eq_some_iff s n a b)

end

/-! ### Minibars (R72, R119 to R121) -/

/-- A refusal of the Charge Unit as a verdict. -/
def refusalVerdict : Option Reason → Verdict
  | some why => ⟨.deny, why⟩
  | none => ⟨.grant, .key⟩

/-- The Charge Unit's verdict on the room's session and its space, where the room and the folio take a session (R120, R121). -/
def State.seats (s : State) (r : RoomIx) (guest : Bool) : Verdict :=
  if s.charge.sessionOfRoom r ≠ none then ⟨.deny, .sessionOpen⟩
  else if 16 ≤ s.charge.sessions.length then ⟨.deny, .sessionsFull⟩
  else if guest = true ∧ 128 - s.charge.queue.length - s.charge.reservedTotal < 4 then ⟨.deny, .chargesFull⟩ else ⟨.grant, .key⟩

section
variable (s : State) (r : RoomIx) (e : KeyEntry)

theorem refusalVerdict_seats (guest : Bool) : refusalVerdict ((s.charge.sessionTest r).or
    (if guest = true ∧ s.charge.freeSpace < Config.reservation then some .chargesFull else none)) = s.seats r guest := by
  unfold ChargeUnit.sessionTest State.seats
  by_cases open_ : s.charge.sessionOfRoom r ≠ none
  · rw [if_pos open_, if_pos (Option.isSome_iff_ne_none.mpr open_)]
    rfl
  · rw [if_neg open_, if_neg (mt Option.isSome_iff_ne_none.mp open_)]
    by_cases full : 16 ≤ s.charge.sessions.length
    · rw [if_pos full, if_pos (show Config.sessionMax ≤ _ from full)]
      rfl
    · rw [if_neg full, if_neg (show ¬ Config.sessionMax ≤ _ from full), Option.none_or]
      refine (apply_ite refusalVerdict _ _ _).trans (if_congr Iff.rfl rfl rfl)

theorem verdict_atMinibar (n : NodeAddr) (k : KeyIx) (p : Profile) :
    (s.atMinibar n r k e p).verdict = refusalVerdict (s.minibarRefusal n r e p.restock) := by
  unfold State.atMinibar
  cases s.minibarRefusal n r e p.restock <;> rfl

theorem session_atMinibar (n : NodeAddr) (k : KeyIx) (p : Profile) (granted : (s.atMinibar n r k e p).verdict.outcome = .grant) :
    (s.atMinibar n r k e p).session = some (s.newSession r n k (!e.isGuest)) := by
  unfold State.atMinibar at granted ⊢
  cases refusal : s.minibarRefusal n r e p.restock with
  | none => rfl
  | some why =>
    rw [refusal] at granted
    cases granted

variable {s r e} {n : NodeAddr} {restock : Bool}

theorem minibarRefusal_foreign (foreign : (s.room r).minibarNode ≠ some n) : s.minibarRefusal n r e restock = some .kind := if_pos foreign

variable (own : ¬ (s.room r).minibarNode ≠ some n)
include own

theorem refusalVerdict_staff (staff : e.isGuest = false) : refusalVerdict (s.minibarRefusal n r e restock) =
    if restock = true then s.seats r e.isGuest else ⟨.deny, .kind⟩ := by
  have refusal : s.minibarRefusal n r e restock = if restock = true then s.charge.sessionTest r else some .kind :=
    (if_neg own).trans (if_neg (by rw [staff]; exact Bool.noConfusion))
  have seats := refusalVerdict_seats s r false
  rw [if_neg (c := false = true ∧ s.charge.freeSpace < Config.reservation) (fun h => nomatch h.1), Option.or_none] at seats
  rw [refusal, staff, ← seats]
  exact apply_ite refusalVerdict _ _ _

variable (guest : e.isGuest = true)
include guest

theorem minibarRefusal_guest : s.minibarRefusal n r e restock = (s.guestMinibarTest e r).or ((s.charge.sessionTest r).or
    (if e.isGuest = true ∧ s.charge.freeSpace < Config.reservation then some .chargesFull else none)) := by
  refine ((if_neg own).trans (if_pos guest)).trans ?_
  rw [Option.or_assoc, guest]
  exact congrArg _ (congrArg _ (if_congr (and_iff_right rfl).symm rfl rfl))

theorem refusalVerdict_guest_denied {why : Reason} (test : s.guestMinibarTest e r = some why) :
    refusalVerdict (s.minibarRefusal n r e restock) = ⟨.deny, why⟩ := by
  rw [minibarRefusal_guest own guest, test]
  rfl

theorem refusalVerdict_guest_seats (test : s.guestMinibarTest e r = none) :
    refusalVerdict (s.minibarRefusal n r e restock) = s.seats r e.isGuest := by
  rw [minibarRefusal_guest own guest, test, Option.none_or]
  exact refusalVerdict_seats ..

end

section
variable {s : State} {e : KeyEntry} {r : RoomIx}

theorem guestMinibarTest_eq (s : State) (e : KeyEntry) (r : RoomIx) : s.guestMinibarTest e r =
    if s.binds e r = false then some .stale
    else if (s.room r).isBlocked = true then some .blocked
    else if (s.room r).phase ≠ .occupied then some .roomState
    else ((s.room r).folio.map s.folio).elim (some .folio) fun x =>
      if x.state = .held .allowance then some .allowance
      else if x.state = .opened then (if x.spent < x.allowance then none else some .allowance) else some .folio := by
  unfold State.guestMinibarTest
  refine if_congr ?_ rfl (if_congr Iff.rfl rfl (if_congr Iff.rfl rfl ?_))
  · rw [Bool.not_eq_true', ← boundTo_eq]
    rfl
  · cases (s.room r).folio with
    | none => rfl
    | some f =>
      dsimp only [Option.map_some, Option.elim_some]
      cases (s.folio f).state with
      | held cause => cases cause <;> rfl
      | _ => rfl

end

theorem charge_judgePresentation (i : Nat) (x : Presentation) (s : State) : (judgePresentation i x s).charge =
    if (s.decision x).verdict.outcome = .grant then (s.decision x).charged s.charge else s.charge := by
  have told : (toldBy x s).charge = (appliedBy x s).charge := (congrArg State.charge (toldBy_touches x s) :)
  have hit : (hitBy x s).charge = s.charge := (congrArg State.charge (hitBy_touches x s) :)
  rw [judgePresentation_told, queueVerdict_charge, told, ← hit]
  unfold appliedBy
  cases outcome : (s.decision x).verdict.outcome with
  | grant => rw [applied_grant _ _ outcome, setGrant_charge, claimRoom_touches, if_pos rfl]
  | deny => rw [applied_deny _ _ outcome, if_neg nofun]

end Sys2Proof.Machine
end

section
/-! The statement of the order of checks, settled (R65 to R76, R119 to R122). -/

/- The joined text is checked with bounded memory: proofs are elaborated one after another, not each in a thread of its own. -/
set_option Elab.async false

namespace Sys2Proof.Machine

section
variable {i : Nat} {x : Presentation} {s : State}

theorem lastVerdict_of {d : Decision} (decided : s.judge (s.gathered x) = d) :
    (judgePresentation i x s).lastVerdict x.node.line = some d.verdict := by
  rw [lastVerdict_judgePresentation, decided]

section
variable (configured : (s.node x.node).config.configured = true) (normal : (s.node x.node).mode = .normal)
  (unlisted : (s.watchOf x.card).map WatchEntry.action ≠ some .alertAndDeny) {k : KeyIx} {e : KeyEntry}
  (found : (s.gathered x).found = some (k, e))
include configured normal unlisted found

theorem judge_key : s.judge (s.gathered x) = s.judgeKey (s.gathered x) k e :=
  (judge_card (g := s.gathered x) configured (modeVerdict_normal normal) unlisted).trans (judgeCard_found found)

theorem lastVerdict_tests {why : Reason} (tests : s.keyTests (s.gathered x) e = some why) :
    (judgePresentation i x s).lastVerdict x.node.line = some ⟨.deny, why⟩ :=
  lastVerdict_of ((judge_key configured normal unlisted found).trans (judgeKey_denied tests))

theorem lastVerdict_state {why : Reason} (state : e.stateTest = some why) :
    (judgePresentation i x s).lastVerdict x.node.line = some ⟨.deny, why⟩ :=
  lastVerdict_tests configured normal unlisted found (by unfold State.keyTests; rw [state, Option.some_or])

end

section
variable {k : KeyIx} {e : KeyEntry} (configured : (s.node x.node).config.configured = true) (normal : (s.node x.node).mode = .normal)
  (unlisted : (s.watchOf x.card).map WatchEntry.action ≠ some .alertAndDeny) (found : s.findCard x.card = some (k, e))
include configured normal unlisted found

/-- Step 4: the state of the entry, as the lookup leaves it (R42, R67). -/
theorem lastVerdict_standing : let stale := e.isGuest = true ∧ ∀ b ∈ e.bindings, s.bindingMark b = .stale
    (∀ reason time, e.standing = .retired .revoked reason time →
      (judgePresentation i x s).lastVerdict x.node.line = some ⟨.deny, .revoked⟩) ∧
    (∀ reason time, e.standing = .retired .expired reason time →
      (judgePresentation i x s).lastVerdict x.node.line = some ⟨.deny, .expired⟩) ∧
    (e.standing = .live → s.untilPassed e = true → (judgePresentation i x s).lastVerdict x.node.line = some ⟨.deny, .expired⟩) ∧
    (stale → e.standing = .suspended ∨ (e.standing = .live ∧ s.untilPassed e = false) →
      (judgePresentation i x s).lastVerdict x.node.line = some ⟨.deny, .revoked⟩) ∧
    (¬ stale → e.standing = .suspended → (judgePresentation i x s).lastVerdict x.node.line = some ⟨.deny, .suspended⟩) := by
  have state {f : KeyEntry} {why : Reason} := lastVerdict_state (i := i) (e := f) (why := why) configured normal unlisted (k := k)
  have retired {how : RetiredAs} {why : RetireReason} {time : HotelTime} (is : e.standing = .retired how why time) :
      (s.gathered x).found = some (k, e) := by
    refine gathered_stands found (fun h => ?_) fun h => ?_
    · rw [is] at h
      cases h.1
    · have service := h.2.1
      rw [is] at service
      cases service
  refine ⟨fun reason time is => state (retired is) ?_, fun reason time is => state (retired is) ?_,
    fun live passed => state (gathered_expired found live passed) rfl, fun stale stands => ?_, fun current suspended => ?_⟩
  · unfold KeyEntry.stateTest
    rw [is]
  · unfold KeyEntry.stateTest
    rw [is]
  · refine state (gathered_replaced found (fun h => ?_) ⟨stale.1, ?_, stale.2⟩) rfl
    · rcases stands with suspended | ⟨_, unexpired⟩
      · exact nomatch suspended.symm.trans h.1
      · exact Bool.false_ne_true (unexpired.symm.trans h.2)
    · rcases stands with is | ⟨is, _⟩ <;> rw [is] <;> rfl
  · refine state (gathered_stands found (fun h => nomatch suspended.symm.trans h.1) fun h => current ⟨h.1, h.2.2⟩) ?_
    unfold KeyEntry.stateTest
    rw [suspended]

end

theorem modeVerdict_slot {f : Fin 4 × Set16} (mode : (s.node x.node).mode = .normal ∨ (s.node x.node).mode = .secured)
    (slot : (s.gathered x).slot = some f) : (s.gathered x).modeVerdict = none := by
  rcases mode with normal | secured
  · exact modeVerdict_normal normal
  · exact (modeVerdict_secured (g := s.gathered x) secured).trans (if_pos (by rw [slot]; rfl))

theorem modeVerdict_noSlot (secured : (s.node x.node).mode = .secured) (slot : (s.gathered x).slot = none) :
    (s.gathered x).modeVerdict = some (deny .secured) :=
  (modeVerdict_secured (g := s.gathered x) secured).trans (if_neg (by rw [slot]; exact Bool.noConfusion))

/-- A key that passes is judged by the rule of the node's kind (R65). -/
theorem judge_passes {k : KeyIx} {e : KeyEntry} (normal : (s.node x.node).mode = .normal)
    (unlisted : (s.watchOf x.card).map WatchEntry.action ≠ some .alertAndDeny) (passes : s.passes x k e) :
    s.judge (s.gathered x) = s.atNode (s.gathered x) k e (s.profile e.profile) := by
  obtain ⟨found, live, unexpired, bound, clockless, ⟨b, bit, kind⟩, cls, zoned, times⟩ := passes
  have configured : (s.node x.node).config.configured = true := by
    cases config : (s.node x.node).config with
    | none =>
      rw [config] at bit
      cases bit
    | _ => rfl
  have stands : (s.gathered x).found = some (k, e) := by
    refine gathered_stands found (fun h => Bool.false_ne_true (unexpired.symm.trans h.2)) fun h => ?_
    obtain ⟨y, there, mark⟩ := bound h.1
    exact mark (h.2.2 y there)
  have valid : e.validityTest (s.profile e.profile) (s.gathered x).seen.arrival = none :=
    validityTest_valid (fun now arrival => (times now arrival).1) clockless
  have admits : (s.profile e.profile).admits (s.gathered x).record.config := by
    refine ⟨?_, cls⟩
    change (s.node x.node).config.kindBit.any _ = true
    rw [bit]
    exact kind
  refine (judge_key configured normal unlisted stands).trans (judgeKey_passed ?_)
  rw [keyTests_time live valid admits zoned]
  exact timeTest_inside fun now arrival => (times now arrival).2

end

section
variable {s : State} {g : Gathered} {k : KeyIx} {e : KeyEntry} {p : Profile}

theorem atNode_roomDoor {r : RoomIx} (config : g.record.config = .roomDoor r) :
    s.atNode g k e p = if e.isGuest = true then s.guestAtDoor e r else s.staffAtDoor p r := by
  unfold State.atNode
  rw [config]

theorem atNode_commonDoor {c : Fin 8} {ws : List Window} (config : g.record.config = .commonDoor c ws) :
    s.atNode g k e p = s.atCommonDoor e := by
  unfold State.atNode
  rw [config]

theorem atNode_staffDoor (config : g.record.config = .staffDoor) :
    s.atNode g k e p = if e.isGuest = true then deny .kind else grant .key := by
  unfold State.atNode
  rw [config]

theorem atNode_connectDoor {a : RoomIx} (config : g.record.config = .connectDoor a) :
    s.atNode g k e p = s.atConnectDoor g.seen.node a g.seen.side e p := by
  unfold State.atNode
  rw [config]

theorem atNode_minibar {r : RoomIx} {c : Fin 4} (config : g.record.config = .minibar r c) :
    s.atNode g k e p = s.atMinibar g.seen.node r k e p := by
  unfold State.atNode
  rw [config]

theorem judgeEmergency_minibar (zones : Set16) (minibar : g.record.config.isMinibar = true) : s.judgeEmergency g zones = deny .kind :=
  if_pos minibar

theorem judgeEmergency_zone {zones : Set16} (door : ¬ g.record.config.isMinibar = true) (outside : zones.getLsbD g.record.zone = false) :
    s.judgeEmergency g zones = deny .zone :=
  (if_neg door).trans (if_pos outside)

/-- The decision on an emergency card at a door of its zones (R68). -/
def State.emergencyEntry (s : State) (g : Gathered) : Decision :=
  match g.record.config with
  | .connectDoor r => s.emergencyAtConnectDoor g.seen.node r g.seen.side
  | _ => grant .emergency

theorem judgeEmergency_entry {zones : Set16} (door : ¬ g.record.config.isMinibar = true)
    (inside : ¬ zones.getLsbD g.record.zone = false) : s.judgeEmergency g zones = s.emergencyEntry g :=
  (if_neg door).trans ((if_neg inside).trans (by unfold State.emergencyEntry; cases g.record.config <;> rfl))

theorem emergencyAtConnectDoor_paired {n : NodeAddr} {a b : RoomIx} (paired : s.pairedRoom n a = some b) (side : Side) :
    s.emergencyAtConnectDoor n a side = sidesVerdict ⟨nearRoom side a b, true⟩ ⟨nearRoom side b a, true⟩ .emergency := by
  unfold State.emergencyAtConnectDoor
  rw [nearFar_paired paired]

theorem emergencyAtConnectDoor_unpaired {n : NodeAddr} {a : RoomIx} (unpaired : s.pairedRoom n a = none) (side : Side) :
    s.emergencyAtConnectDoor n a side = grant .emergency := by
  unfold State.emergencyAtConnectDoor
  rw [nearFar_unpaired unpaired]
  cases side <;> rfl

theorem verdict_emergencyEntry : (s.emergencyEntry g).verdict = ⟨.grant, .emergency⟩ := by
  unfold State.emergencyEntry
  split
  · next a config =>
    cases paired : s.pairedRoom g.seen.node a with
    | none => rw [emergencyAtConnectDoor_unpaired paired]; rfl
    | some b => rw [emergencyAtConnectDoor_paired paired]; rfl
  · rfl

end

/-! The verdicts at a room door and at a minibar (R69, R70, R72). -/

theorem verdict_guestAtDoor (s : State) (e : KeyEntry) (r : RoomIx) : (s.guestAtDoor e r).verdict =
    let rm := s.room r
    if s.binds e r = false ∧ (rm.movedFrom.any fun m => e.bindings.contains ⟨m.source, m.generation⟩) = false then ⟨.deny, .stale⟩
    else if rm.phase ≠ .occupied ∧ (rm.stayInProgress = false ∨ rm.closing ≠ none) then ⟨.deny, .roomState⟩
    else if rm.isBlocked = true then ⟨.deny, .blocked⟩
    else if rm.privacy = true then ⟨.deny, .privacy⟩ else ⟨.grant, .key⟩ := by
  rw [guestAtDoor_eq]
  refine (apply_ite Decision.verdict _ _ _).trans (if_congr Iff.rfl rfl ?_)
  refine (apply_ite Decision.verdict _ _ _).trans (if_congr Iff.rfl rfl ?_)
  refine (apply_ite Decision.verdict _ _ _).trans (if_congr Iff.rfl rfl ?_)
  exact apply_ite Decision.verdict _ _ _

theorem verdict_staffAtDoor (s : State) (p : Profile) (r : RoomIx) : (s.staffAtDoor p r).verdict =
    let rm := s.room r
    if p.permits rm = false then ⟨.deny, if (rm.standsOccupied && p.makeupOnly) = true then .makeup else .roomState⟩
    else if rm.isBlocked = true ∧ p.overrideBlock = false then ⟨.deny, .blocked⟩
    else if rm.privacy = true ∧ p.overridePrivacy = false then ⟨.deny, .privacy⟩ else ⟨.grant, .key⟩ := by
  rw [staffAtDoor_eq]
  refine (apply_ite Decision.verdict _ _ _).trans (if_congr Iff.rfl rfl ?_)
  refine (apply_ite Decision.verdict _ _ _).trans (if_congr Iff.rfl rfl ?_)
  exact apply_ite Decision.verdict _ _ _

section
variable {s : State} {r : RoomIx} {e : KeyEntry} {n : NodeAddr} {restock : Bool}

/-- What the state of a folio makes of a charged session (R120). -/
theorem guestMinibarTest_folio (bound : ¬ s.binds e r = false) (unblocked : ¬ (s.room r).isBlocked = true)
    (occupied : ¬ (s.room r).phase ≠ .occupied) : s.guestMinibarTest e r =
      ((s.room r).folio.map s.folio).elim (some .folio) fun x =>
        if x.state = .held .allowance then some .allowance
        else if x.state = .opened then (if x.spent < x.allowance then none else some .allowance) else some .folio := by
  rw [guestMinibarTest_eq, if_neg bound, if_neg unblocked, if_neg occupied]

end

theorem charged_some {d : Decision} {y : Session} (session : d.session = some y) (c : ChargeUnit) :
    d.charged c = { c with sessions := c.sessions ++ [y] } := by
  unfold Decision.charged
  rw [session]
  rfl

theorem newSession_eq (s : State) (r : RoomIx) (n : NodeAddr) (k : KeyIx) (guest : Bool) : s.newSession r n k (!guest) =
    { state := .opening, room := r, node := n, key := k, folio := if guest then (s.room r).folio else none
      reserved := if guest then 4 else 0, linesMade := 0, time := s.now.getD 0, limitNoticed := false, limitAt := none } := by
  cases guest <;> rfl

end Sys2Proof.Machine

namespace Sys2Proof.Settled

open Sys2Proof.Machine

/-- Settles O33: the checks are gone through in their order, and then the kinds of node. -/
theorem verdictOrder : Obligations.VerdictOrder := by
  refine ⟨fun i x s next => ?_, fun i x k e s next normal unlisted passes => ?_,
    fun i x k zones s next configured mode unlisted unknown slot => ?_⟩
  · intro nd known unwatched
    refine ⟨_, exec_judgement next, fun config => ?_, fun configured passage => ?_, fun kept configured released => ?_,
      fun configured secured noSlot => ?_, fun configured secured unknown slot listed => ?_, fun ⟨configured, normal⟩ listed => ?_,
      fun ⟨configured, normal⟩ unlisted unknown slot => ?_, fun k e ⟨configured, normal⟩ unlisted found => ?_⟩
    · exact lastVerdict_of (judge_unconfigured (g := s.gathered x) (congrArg NodeConfig.configured config))
    · exact lastVerdict_of (judge_mode (g := s.gathered x) configured (modeVerdict_passage passage))
    · exact lastVerdict_of (judge_mode (g := s.gathered x) configured (modeVerdict_released released))
    · refine lastVerdict_of (judge_mode (g := s.gathered x) configured (modeVerdict_noSlot secured ?_))
      cases found : s.findCard x.card with
      | none => exact (gathered_unknown found).2.trans (noSlot.resolve_right fun known => known found)
      | some y => exact slot_known found
    · obtain ⟨f, slot⟩ := Option.ne_none_iff_exists'.mp slot
      have mode := modeVerdict_slot (.inr secured) ((gathered_unknown unknown).2.trans slot)
      exact lastVerdict_of (judge_watched (g := s.gathered x) configured mode listed)
    · exact lastVerdict_of (judge_watched (g := s.gathered x) configured (modeVerdict_normal normal) listed)
    · have gathered := gathered_unknown unknown
      exact lastVerdict_of ((judge_card (g := s.gathered x) configured (modeVerdict_normal normal) unlisted).trans
        (judgeCard_unknown gathered.1 (gathered.2.trans slot)))
    · intro p stale kinds zoned
      obtain ⟨revoked, expired, passed, replaced, suspended⟩ := lastVerdict_standing (i := i) configured normal unlisted found
      refine ⟨revoked, expired, passed, replaced, suspended, fun current live unexpired => ?_⟩
      have stands : (s.gathered x).found = some (k, e) :=
        gathered_stands found (fun h => Bool.false_ne_true (unexpired.symm.trans h.2)) fun h => current ⟨h.1, h.2.2⟩
      have tests {why : Reason} := lastVerdict_tests (i := i) (why := why) configured normal unlisted stands
      refine ⟨fun now arrival early => tests (keyTests_validity live ?_), fun unset clocked => tests (keyTests_validity live ?_),
        fun begun clockless => ?_⟩
      · change e.validityTest _ x.arrival = _
        rw [arrival]
        exact validityTest_early early
      · change e.validityTest _ x.arrival = _
        rw [unset]
        exact validityTest_unset clocked
      · have valid : e.validityTest (s.profile e.profile) (s.gathered x).seen.arrival = none := validityTest_valid begun clockless
        refine ⟨fun refused => tests (keyTests_kind live valid refused), fun admits outside => tests (keyTests_zone live valid admits outside),
          fun now arrival admits inside out => tests ?_⟩
        rw [keyTests_time live valid admits inside]
        change Profile.timeTest _ x.arrival = _
        rw [arrival]
        exact timeTest_outside out
  · have judged := judge_passes normal unlisted passes
    refine ⟨_, (s.judge (s.gathered x)).verdict, exec_judgement next, lastVerdict_judgePresentation i x s, fun r config => ?_,
      fun c ws config => ?_, fun config => ?_, fun a config => ⟨fun b pairing => ?_, fun unpaired => ?_⟩, fun r c config => ⟨?_, ?_⟩⟩
    · rw [judged, atNode_roomDoor (g := s.gathered x) config]
      refine (apply_ite Decision.verdict _ _ _).trans (if_congr Iff.rfl (verdict_guestAtDoor s e r) ?_)
      exact verdict_staffAtDoor s (s.profile e.profile) r
    · rw [judged, atNode_commonDoor (g := s.gathered x) config, atCommonDoor_eq]
      exact apply_ite Decision.verdict _ _ _
    · rw [judged, atNode_staffDoor (g := s.gathered x) config]
      exact apply_ite Decision.verdict _ _ _
    · have paired := (pairedRoom_eq_some_iff s x.node a b).mpr pairing
      rw [judged, atNode_connectDoor (g := s.gathered x) config]
      exact (congrArg Decision.verdict (atConnectDoor_paired paired x.side e)).trans (verdict_sidesVerdict ..)
    · rw [judged, atNode_connectDoor (g := s.gathered x) config]
      exact (congrArg Decision.verdict (atConnectDoor_unpaired (pairedRoom_eq_none_iff.mpr unpaired) x.side e)).trans
        (apply_ite Decision.verdict _ _ _)
    · dsimp only
      rw [judged, atNode_minibar (g := s.gathered x) config, verdict_atMinibar]
      by_cases foreign : (s.room r).minibarNode ≠ some x.node
      · rw [if_pos foreign]
        exact congrArg refusalVerdict (minibarRefusal_foreign (s := s) foreign)
      rw [if_neg foreign]
      by_cases staff : e.isGuest = false
      · rw [if_pos staff]
        exact refusalVerdict_staff (s := s) foreign staff
      rw [if_neg staff]
      have guest : e.isGuest = true := Bool.not_eq_false _ |>.mp staff
      have denied {why : Reason} := refusalVerdict_guest_denied (s := s) (restock := (s.profile e.profile).restock) (why := why) foreign guest
      have seated := refusalVerdict_guest_seats (s := s) (restock := (s.profile e.profile).restock) foreign guest
      have test := guestMinibarTest_eq s e r
      by_cases unbound : s.binds e r = false
      · rw [if_pos unbound]
        exact denied (test.trans (if_pos unbound))
      by_cases blocked : (s.room r).isBlocked = true
      · rw [if_neg unbound, if_pos blocked]
        exact denied (test.trans ((if_neg unbound).trans (if_pos blocked)))
      by_cases empty : (s.room r).phase ≠ .occupied
      · rw [if_neg unbound, if_neg blocked, if_pos empty]
        exact denied (test.trans ((if_neg unbound).trans ((if_neg blocked).trans (if_pos empty))))
      rw [if_neg unbound, if_neg blocked, if_neg empty]
      have test := guestMinibarTest_folio unbound blocked empty
      cases folio : (s.room r).folio with
      | none =>
        rw [folio] at test
        exact denied test
      | some f =>
        rw [folio] at test
        dsimp only [Option.map_some, Option.elim_some] at test ⊢
        cases state : (s.folio f).state with
        | free =>
          rw [state] at test
          exact denied test
        | closing =>
          rw [state] at test
          exact denied test
        | held cause =>
          rw [state] at test
          cases cause <;> exact denied test
        | opened =>
          rw [state] at test
          dsimp only
          by_cases left : (s.folio f).spent < (s.folio f).allowance
          · rw [if_pos left]
            exact seated (test.trans (if_pos left))
          · rw [if_neg left]
            exact denied (test.trans (if_neg left))
    · have granted (h : (s.judge (s.gathered x)).verdict.outcome = .grant) :
          (s.decision x).charged s.charge = _ := charged_some (d := s.decision x) (y := s.newSession r x.node k (!e.isGuest)) (by
            unfold State.decision
            rw [judged, atNode_minibar (g := s.gathered x) config] at h ⊢
            exact session_atMinibar s r e x.node k _ h) s.charge
      rw [charge_judgePresentation]
      change (if (s.judge (s.gathered x)).verdict.outcome = .grant then _ else _) = _
      cases outcome : (s.judge (s.gathered x)).verdict.outcome with
      | deny => rfl
      | grant =>
        refine (if_pos rfl).trans ((granted outcome).trans (Eq.trans ?_ (if_neg nofun).symm))
        exact congrArg (fun y => { s.charge with sessions := s.charge.sessions ++ [y] }) (newSession_eq s r x.node k e.isGuest)
  · have gathered := gathered_unknown unknown
    have judged : s.judge (s.gathered x) = s.judgeEmergency (s.gathered x) zones :=
      (judge_card (g := s.gathered x) configured (modeVerdict_slot mode (gathered.2.trans slot)) unlisted).trans
        (judgeCard_emergency gathered.1 (gathered.2.trans slot))
    refine ⟨_, exec_judgement next, (lastVerdict_of judged).trans (congrArg some ?_)⟩
    by_cases minibar : (s.node x.node).config.isMinibar = true
    · rw [if_pos minibar, judgeEmergency_minibar (g := s.gathered x) zones minibar]
      rfl
    · rw [if_neg minibar]
      by_cases outside : zones.getLsbD (s.node x.node).zone = false
      · rw [if_pos outside, judgeEmergency_zone (g := s.gathered x) minibar outside]
        rfl
      · rw [if_neg outside, judgeEmergency_entry (g := s.gathered x) minibar outside]
        exact verdict_emergencyEntry

end Sys2Proof.Settled
end

section
/-! The statement of a judgement (R63 to R80): the forms of a decision, and what it decides besides the verdict. -/

/- The joined text is checked with bounded memory: proofs are elaborated one after another, not each in a thread of its own. -/
set_option Elab.async false

namespace Sys2Proof.Machine

/-! ### The forms of a decision (R65) -/

/-- A reason that the rule of a node's kind may give at a connecting door whose two sides are tested (R76). -/
def Reason.Sided (r : Reason) : Prop := r = .key ∨ r = .emergency ∨ r = .nearSide ∨ r = .farSide

/-- How a decision comes about: outright, by the rule of the node's kind on a key, or as an emergency card's entry. -/
inductive State.Decided (s : State) (g : Gathered) : Decision → Prop
  | denied (r : Reason) (aside : ¬ r.Sided) : s.Decided g (deny r)
  | granted (r : Reason) (aside : ¬ r.Sided) : s.Decided g (grant r)
  | key (k : KeyIx) (e : KeyEntry) (found : g.found = some (k, e)) (live : e.standing = .live) :
    s.Decided g (s.atNode g k e (s.profile e.profile))
  | emergency (unknown : g.found = none) : s.Decided g (s.emergencyEntry g)

section
variable {s : State} {g : Gathered} {e : KeyEntry}

theorem aside_stateTest {why : Reason} (h : e.stateTest = some why) : ¬ why.Sided := by
  unfold KeyEntry.stateTest at h
  split at h
  · cases h
  · cases h; exact nofun
  · cases h; exact nofun
  · cases h; exact nofun

theorem aside_keyTests {why : Reason} (h : s.keyTests g e = some why) : ¬ why.Sided := by
  unfold State.keyTests at h
  rcases Option.or_eq_some_iff.mp h with state | ⟨_, h⟩
  · exact aside_stateTest state
  rcases Option.or_eq_some_iff.mp h with valid | ⟨_, h⟩
  · unfold KeyEntry.validityTest at valid
    split at valid
    · split at valid
      · cases valid; exact nofun
      · cases valid
    · split at valid
      · cases valid
      · cases valid; exact nofun
  rcases Option.or_eq_some_iff.mp h with kind | ⟨_, h⟩
  · by_cases admits : (s.profile e.profile).admits g.record.config
    · rw [kindTest_admits admits] at kind
      cases kind
    · rw [kindTest_refused admits] at kind
      cases kind; exact nofun
  rcases Option.or_eq_some_iff.mp h with zone | ⟨_, time⟩
  · by_cases zoned : e.zoned g.record.zone
    · rw [zoneTest_zoned zoned] at zone
      cases zone
    · rw [zoneTest_outside zoned] at zone
      cases zone; exact nofun
  · unfold Profile.timeTest at time
    split at time
    · cases time
    · split at time
      · cases time
      · cases time; exact nofun

theorem live_of_keyTests (h : s.keyTests g e = none) : e.standing = .live := by
  unfold State.keyTests at h
  have state := (Option.or_eq_none_iff.mp h).1
  unfold KeyEntry.stateTest at state
  split at state
  · assumption
  · cases state
  · cases state
  · cases state

variable (s g)

theorem decided_judgeEmergency (unknown : g.found = none) (zones : Set16) : s.Decided g (s.judgeEmergency g zones) := by
  by_cases minibar : g.record.config.isMinibar = true
  · rw [judgeEmergency_minibar zones minibar]
    exact .denied _ nofun
  · by_cases outside : zones.getLsbD g.record.zone = false
    · rw [judgeEmergency_zone minibar outside]
      exact .denied _ nofun
    · rw [judgeEmergency_entry minibar outside]
      exact .emergency unknown

theorem decided_judgeCard : s.Decided g (s.judgeCard g) := by
  cases found : g.found with
  | some y =>
    obtain ⟨k, e⟩ := y
    rw [judgeCard_found found]
    cases tests : s.keyTests g e with
    | some why =>
      rw [judgeKey_denied tests]
      exact .denied why (aside_keyTests tests)
    | none =>
      rw [judgeKey_passed tests]
      exact .key k e found (live_of_keyTests tests)
  | none =>
    cases slot : g.slot with
    | some f =>
      rw [judgeCard_emergency found slot]
      exact decided_judgeEmergency s g found _
    | none =>
      rw [judgeCard_unknown found slot]
      exact .denied _ nofun

theorem decided_listed : s.Decided g
    (if g.watch.map WatchEntry.action = some .alertAndDeny then deny .watched else s.judgeCard g) := by
  split
  · exact .denied _ nofun
  · exact decided_judgeCard s g

theorem decided : s.Decided g (s.judge g) := by
  cases configured : g.record.config.configured with
  | false =>
    rw [judge_unconfigured configured]
    exact .denied _ nofun
  | true =>
    cases mode : g.record.mode with
    | normal =>
      rw [judge_listed configured (modeVerdict_normal mode)]
      exact decided_listed s g
    | passage =>
      rw [judge_mode configured (modeVerdict_passage mode)]
      exact .granted _ nofun
    | released kept =>
      rw [judge_mode configured (modeVerdict_released mode)]
      exact .granted _ nofun
    | secured =>
      have verdict := modeVerdict_secured mode
      split at verdict
      · rw [judge_listed configured verdict]
        exact decided_listed s g
      · rw [judge_mode configured verdict]
        exact .denied _ nofun

end

/-! ### What a decision decides besides its verdict -/

/-- A decision with no session, no move, no clearing of make-up and no sides. -/
def Decision.Bare (d : Decision) : Prop := d.session = none ∧ d.move = none ∧ d.makeupOnly = false ∧ d.sides = none

theorem bare_deny (r : Reason) : (deny r).Bare := ⟨rfl, rfl, rfl, rfl⟩

theorem bare_grant (r : Reason) : (grant r).Bare := ⟨rfl, rfl, rfl, rfl⟩

/-- A decision that tests no sides counts a use for a GRANT alone (R44). -/
def Decision.Plain (d : Decision) : Prop := d.sides = none ∧ d.used = decide (d.verdict.outcome = .grant)

theorem plain_deny (r : Reason) : (deny r).Plain := ⟨rfl, rfl⟩

theorem plain_grant (r : Reason) : (grant r).Plain := ⟨rfl, rfl⟩

theorem plain_ite {c : Prop} [Decidable c] {d d' : Decision} (h : d.Plain) (h' : d'.Plain) : (if c then d else d').Plain := by
  split
  · exact h
  · exact h'

section
variable {s : State} {g : Gathered} {k : KeyIx} {e : KeyEntry}

theorem plain_guestAtDoor (s : State) (e : KeyEntry) (r : RoomIx) : (s.guestAtDoor e r).Plain := by
  rw [guestAtDoor_eq]
  exact plain_ite (plain_deny _) (plain_ite (plain_deny _) (plain_ite (plain_deny _) (plain_ite (plain_deny _) ⟨rfl, rfl⟩)))

theorem plain_staffAtDoor (s : State) (p : Profile) (r : RoomIx) : (s.staffAtDoor p r).Plain := by
  rw [staffAtDoor_eq]
  exact plain_ite (plain_deny _) (plain_ite (plain_deny _) (plain_ite (plain_deny _) ⟨rfl, rfl⟩))

theorem plain_atMinibar (s : State) (n : NodeAddr) (r : RoomIx) (k : KeyIx) (e : KeyEntry) (p : Profile) :
    (s.atMinibar n r k e p).Plain := by
  unfold State.atMinibar
  split
  · exact plain_deny _
  · exact ⟨rfl, rfl⟩

/-- Only at a paired connecting door are two sides tested (R76). -/
theorem plain_atNode (unpaired : ∀ a, g.record.config = .connectDoor a → s.pairedRoom g.seen.node a = none) :
    (s.atNode g k e (s.profile e.profile)).Plain := by
  cases config : g.record.config with
  | none =>
    unfold State.atNode
    rw [config]
    exact plain_deny _
  | roomDoor r =>
    rw [atNode_roomDoor config]
    exact plain_ite (plain_guestAtDoor ..) (plain_staffAtDoor ..)
  | connectDoor a =>
    rw [atNode_connectDoor config, atConnectDoor_unpaired (unpaired a config)]
    exact plain_ite (plain_grant _) (plain_deny _)
  | commonDoor c ws =>
    rw [atNode_commonDoor config, atCommonDoor_eq]
    exact plain_ite (plain_deny _) (plain_grant _)
  | staffDoor =>
    rw [atNode_staffDoor config]
    exact plain_ite (plain_deny _) (plain_grant _)
  | minibar r c =>
    rw [atNode_minibar config]
    exact plain_atMinibar ..

theorem plain_emergencyEntry (unpaired : ∀ a, g.record.config = .connectDoor a → s.pairedRoom g.seen.node a = none) :
    (s.emergencyEntry g).Plain := by
  unfold State.emergencyEntry
  split
  · next a config =>
    rw [emergencyAtConnectDoor_unpaired (unpaired a config)]
    exact plain_grant _
  · exact plain_grant _

theorem bare_emergencyEntry : (s.emergencyEntry g).session = none ∧ (s.emergencyEntry g).move = none ∧
    (s.emergencyEntry g).makeupOnly = false := by
  unfold State.emergencyEntry
  split
  · next a config =>
    cases paired : s.pairedRoom g.seen.node a with
    | none => rw [emergencyAtConnectDoor_unpaired paired]; exact ⟨rfl, rfl, rfl⟩
    | some b => rw [emergencyAtConnectDoor_paired paired]; exact ⟨rfl, rfl, rfl⟩
  · exact ⟨rfl, rfl, rfl⟩

theorem bare_sidesVerdict (near far : SideTest) (granted : Reason) : (sidesVerdict near far granted).session = none ∧
    (sidesVerdict near far granted).move = none ∧ (sidesVerdict near far granted).makeupOnly = false := by
  unfold sidesVerdict
  cases near.passed with
  | false => exact ⟨rfl, rfl, rfl⟩
  | true => cases far.passed <;> exact ⟨rfl, rfl, rfl⟩

theorem bare_ite {c : Prop} [Decidable c] {d d' : Decision} (h : d.Bare) (h' : d'.Bare) : (if c then d else d').Bare := by
  split
  · exact h
  · exact h'

/-- Away from a room door and a minibar a key's decision moves, clears and opens nothing. -/
theorem bare_atNode (door : ∀ r, g.record.config ≠ .roomDoor r) (minibar : ∀ r c, g.record.config ≠ .minibar r c) :
    (s.atNode g k e (s.profile e.profile)).session = none ∧ (s.atNode g k e (s.profile e.profile)).move = none ∧
    (s.atNode g k e (s.profile e.profile)).makeupOnly = false := by
  have of_bare {d : Decision} (h : d.Bare) : d.session = none ∧ d.move = none ∧ d.makeupOnly = false := ⟨h.1, h.2.1, h.2.2.1⟩
  cases config : g.record.config with
  | none =>
    unfold State.atNode
    rw [config]
    exact ⟨rfl, rfl, rfl⟩
  | roomDoor r => exact absurd config (door r)
  | connectDoor a =>
    rw [atNode_connectDoor config]
    cases paired : s.pairedRoom g.seen.node a with
    | none =>
      rw [atConnectDoor_unpaired paired]
      exact of_bare (bare_ite (bare_grant _) (bare_deny _))
    | some b =>
      rw [atConnectDoor_paired paired]
      exact bare_sidesVerdict ..
  | commonDoor c ws =>
    rw [atNode_commonDoor config, atCommonDoor_eq]
    exact of_bare (bare_ite (bare_deny _) (bare_grant _))
  | staffDoor =>
    rw [atNode_staffDoor config]
    exact of_bare (bare_ite (bare_deny _) (bare_grant _))
  | minibar r c => exact absurd config (minibar r c)

end

/-! ### The session of a decision (R72) -/

section
variable {s : State} {g : Gathered} {k : KeyIx} {e : KeyEntry}

/-- Only a key granted at a minibar opens a session. -/
theorem session_decided {d : Decision} (h : s.Decided g d) (other : g.record.config.isMinibar = false ∨ d.verdict ≠ ⟨.grant, .key⟩) :
    d.session = none := by
  cases h with
  | denied r aside => rfl
  | granted r aside => rfl
  | emergency unknown => exact bare_emergencyEntry.1
  | key k e found live =>
    cases config : g.record.config with
    | roomDoor r =>
      rw [atNode_roomDoor config]
      split
      · exact session_guestAtDoor ..
      · exact session_staffAtDoor ..
    | minibar r c =>
      have refused := other.resolve_left (by rw [config]; exact Bool.noConfusion)
      rw [atNode_minibar config] at refused ⊢
      rw [verdict_atMinibar] at refused
      unfold State.atMinibar
      cases refusal : s.minibarRefusal g.seen.node r e (s.profile e.profile).restock with
      | none => exact absurd (congrArg refusalVerdict refusal) refused
      | some why => rfl
    | _ => exact (bare_atNode (by rw [config]; exact nofun) (by rw [config]; exact nofun)).1

end

/-! ### The move and the make-up of a decision (R53, R69, R78) -/

/-- The rebind claim of a grant made under a move (R78). -/
def State.rebinds (s : State) (config : NodeConfig) (k : KeyIx) (e : KeyEntry) (v : Verdict) : List VeClaim :=
  match config with
  | .roomDoor r =>
    match (s.room r).movedFrom with
    | some m =>
      if v = ⟨.grant, .key⟩ ∧ ⟨m.source, m.generation⟩ ∈ e.bindings ∧ s.binds e r = false then [.rebind k e.card m r false] else []
    | none => []
  | _ => []

section
variable {s : State} {g : Gathered} {k : KeyIx} {e : KeyEntry}

theorem rebinds_other {config : NodeConfig} {v : Verdict} (other : v ≠ ⟨.grant, .key⟩) : s.rebinds config k e v = [] := by
  unfold State.rebinds
  split
  · split
    · exact if_neg fun h => other h.1
    · rfl
  · rfl

theorem rebinds_elsewhere {config : NodeConfig} {v : Verdict} (elsewhere : ∀ r, config ≠ .roomDoor r) : s.rebinds config k e v = [] := by
  unfold State.rebinds
  split
  · next r => exact absurd rfl (elsewhere r)
  · rfl

theorem rebinds_staff {config : NodeConfig} {v : Verdict} (staff : e.isGuest = false) : s.rebinds config k e v = [] := by
  have none_ : e.bindings = [] := by
    unfold KeyEntry.isGuest at staff
    unfold KeyEntry.bindings
    cases body : e.body with
    | guest bs =>
      rw [body] at staff
      cases staff
    | staff zones => rfl
  unfold State.rebinds
  rw [none_]
  split
  · split
    · exact if_neg fun h => List.not_mem_nil h.2.1
    · rfl
  · rfl

/-- The claim that a decision's move sends. -/
def Decision.moveClaims (d : Decision) (k : KeyIx) (e : KeyEntry) : List VeClaim :=
  match d.move with
  | some (m, r) => [.rebind k e.card m r false]
  | none => []

theorem moveClaims_none {d : Decision} (stays : d.move = none) : d.moveClaims k e = [] := by
  unfold Decision.moveClaims
  rw [stays]

theorem moveClaims_guestAtDoor (s : State) (k : KeyIx) (e : KeyEntry) (r : RoomIx) :
    (s.guestAtDoor e r).moveClaims k e = s.rebinds (.roomDoor r) k e (s.guestAtDoor e r).verdict := by
  have denied (why : Reason) : (deny why).moveClaims k e = s.rebinds (.roomDoor r) k e (deny why).verdict :=
    (rebinds_other (v := (deny why).verdict) fun same => VerdictOutcome.noConfusion (congrArg Verdict.outcome same)).symm
  rw [guestAtDoor_eq]
  dsimp only
  split
  · exact denied _
  split
  · exact denied _
  split
  · exact denied _
  split
  · exact denied _
  unfold Decision.moveClaims State.rebinds State.moveOf
  dsimp only
  rw [boundTo_eq]
  cases (s.room r).movedFrom with
  | none => rfl
  | some m =>
    dsimp only
    by_cases moves : (!s.binds e r && e.bindings.contains ⟨m.source, m.generation⟩) = true
    · obtain ⟨unbound, held⟩ := Bool.and_eq_true_iff.mp moves
      rw [if_pos moves, if_pos ⟨rfl, List.contains_iff_mem.mp held, Bool.not_eq_true' _ |>.mp unbound⟩]
      rfl
    · rw [if_neg moves, if_neg fun ⟨_, held, unbound⟩ =>
        moves (Bool.and_eq_true_iff.mpr ⟨Bool.not_eq_true' _ |>.mpr unbound, List.contains_iff_mem.mpr held⟩)]
      rfl

theorem moveClaims_decided {d : Decision} (h : s.Decided g d) (found : g.found = some (k, e)) :
    d.moveClaims k e = s.rebinds g.record.config k e d.verdict := by
  cases h with
  | denied r aside =>
    exact (rebinds_other (v := (deny r).verdict) fun same => VerdictOutcome.noConfusion (congrArg Verdict.outcome same)).symm
  | granted r aside => exact (rebinds_other fun same => aside (.inl (congrArg Verdict.reason same))).symm
  | emergency unknown =>
    rw [found] at unknown
    cases unknown
  | key k' e' found' live =>
    cases found.symm.trans found'
    cases config : g.record.config with
    | roomDoor r =>
      rw [atNode_roomDoor config]
      split
      · exact moveClaims_guestAtDoor ..
      · next staff =>
        have stays : (s.staffAtDoor (s.profile e.profile) r).move = none := by
          rw [staffAtDoor_eq]
          dsimp only
          split
          · rfl
          split
          · rfl
          split <;> rfl
        rw [moveClaims_none stays, rebinds_staff (Bool.not_eq_true _ |>.mp staff)]
    | minibar r c =>
      have stays : (s.atNode g k e (s.profile e.profile)).move = none := by
        rw [atNode_minibar config]
        unfold State.atMinibar
        split <;> rfl
      exact (moveClaims_none stays).trans (rebinds_elsewhere (by exact nofun)).symm
    | _ =>
      have stays := (bare_atNode (s := s) (g := g) (k := k) (e := e) (by rw [config]; exact nofun) (by rw [config]; exact nofun)).2.1
      exact (moveClaims_none stays).trans (rebinds_elsewhere (by exact nofun)).symm

/-- A staff key whose profile enters occupied rooms only for make-up (R53). -/
def State.housekeeping (s : State) (found : Option (KeyIx × KeyEntry)) : Bool :=
  found.any fun f => !f.2.isGuest && !(s.profile f.2.profile).enterOccupied

theorem makeupOnly_decided {d : Decision} (h : s.Decided g d) (outcome : d.verdict.outcome = .grant) {r : RoomIx}
    (config : g.record.config = .roomDoor r) :
    (d.makeupOnly = true ↔ d.verdict.reason = .key ∧ (s.room r).standsOccupied = true ∧ s.housekeeping g.found = true) ∧
    (d.makeupOnly = true → (s.room r).makeup = true) := by
  cases h with
  | denied why aside => cases outcome
  | granted why aside => exact ⟨iff_of_false Bool.false_ne_true fun h => aside (.inl h.1), nofun⟩
  | emergency unknown =>
    rw [bare_emergencyEntry.2.2, unknown]
    exact ⟨iff_of_false Bool.false_ne_true fun h => Bool.false_ne_true h.2.2, nofun⟩
  | key k e found live =>
    have keeping : s.housekeeping g.found = (!e.isGuest && !(s.profile e.profile).enterOccupied) := by
      rw [found]
      rfl
    rw [atNode_roomDoor config] at outcome ⊢
    rw [keeping]
    by_cases guest : e.isGuest = true
    · rw [if_pos guest] at outcome ⊢
      have never : (s.guestAtDoor e r).makeupOnly = false := by
        rw [guestAtDoor_eq]
        dsimp only
        split
        · rfl
        split
        · rfl
        split
        · rfl
        split <;> rfl
      rw [never, guest]
      exact ⟨iff_of_false Bool.false_ne_true fun h => Bool.false_ne_true h.2.2, nofun⟩
    · rw [if_neg guest, staffAtDoor_eq] at outcome ⊢
      rw [Bool.not_eq_true _ |>.mp guest]
      dsimp only at outcome ⊢
      split at outcome
      · cases outcome
      split at outcome
      · cases outcome
      split at outcome
      · cases outcome
      next refused blocked veiled =>
        rw [if_neg refused, if_neg blocked, if_neg veiled]
        refine ⟨?_, fun only => ?_⟩
        · rw [Bool.not_false, Bool.true_and]
          exact Bool.and_eq_true_iff.trans (and_iff_right rfl).symm
        · obtain ⟨occupied, entry⟩ := Bool.and_eq_true_iff.mp only
          have permits : (s.profile e.profile).permits (s.room r) = true := Bool.not_eq_false _ |>.mp refused
          unfold Profile.permits at permits
          rw [if_pos occupied, Bool.not_eq_true' _ |>.mp entry, Bool.false_or] at permits
          exact (Bool.and_eq_true_iff.mp permits).2

end

/-! ### The sides of a decision (R76, R79) -/

section
variable {s : State} {g : Gathered} {d : Decision}

theorem plain_decided (h : s.Decided g d) (unpaired : ∀ a, g.record.config = .connectDoor a → s.pairedRoom g.seen.node a = none) :
    d.Plain := by
  cases h with
  | denied r aside => exact plain_deny r
  | granted r aside => exact plain_grant r
  | emergency unknown => exact plain_emergencyEntry unpaired
  | key k e found live => exact plain_atNode unpaired

theorem sided_sidesVerdict {granted : Reason} (sided : granted.Sided) (near far : SideTest) :
    (sidesVerdict near far granted).verdict.reason.Sided := by
  rw [verdict_sidesVerdict]
  split
  · exact .inr (.inr (.inl rfl))
  split
  · exact .inr (.inr (.inr rfl))
  · exact sided

theorem used_sidesVerdict (near far : SideTest) (granted : Reason) :
    (sidesVerdict near far granted).used = (near.passed || far.passed) := rfl

theorem sides_sidesVerdict (near far : SideTest) (granted : Reason) : (sidesVerdict near far granted).sides = some (near, far) := rfl

/-- At a paired connecting door a verdict by the tests of the two sides records both. -/
theorem sides_decided (h : s.Decided g d) {a b : RoomIx} (config : g.record.config = .connectDoor a)
    (paired : s.pairedRoom g.seen.node a = some b) :
    let n := nearRoom g.seen.side a b
    let f := nearRoom g.seen.side b a
    let near := g.found.all fun y => s.nearOpens y.2 n
    let far := g.found.all fun y => s.farOpens y.2 n f
    (d.verdict.reason.Sided ∧ d.used = (near || far) ∧ d.sides = some (⟨n, near⟩, ⟨f, far⟩)) ∨ (¬ d.verdict.reason.Sided ∧ d.Plain) := by
  cases h with
  | denied r aside => exact .inr ⟨aside, plain_deny r⟩
  | granted r aside => exact .inr ⟨aside, plain_grant r⟩
  | emergency unknown =>
    have entry : s.emergencyEntry g = sidesVerdict ⟨nearRoom g.seen.side a b, true⟩ ⟨nearRoom g.seen.side b a, true⟩ .emergency := by
      unfold State.emergencyEntry
      rw [config]
      exact emergencyAtConnectDoor_paired paired _
    rw [entry, unknown]
    exact .inl ⟨sided_sidesVerdict (.inr (.inl rfl)) .., rfl, rfl⟩
  | key k e found live =>
    rw [atNode_connectDoor config, atConnectDoor_paired paired, found]
    exact .inl ⟨sided_sidesVerdict (.inl rfl) .., used_sidesVerdict .., sides_sidesVerdict ..⟩

end

end Sys2Proof.Machine
end

section
/-! The statement of a judgement (R63 to R80): what it leaves in every table, and the records it offers. -/

/- The joined text is checked with bounded memory: proofs are elaborated one after another, not each in a thread of its own. -/
set_option Elab.async false

namespace Sys2Proof.Machine

/-! ### What the lookup leaves (R42) -/

section
variable (card : CardId) (s : State)

theorem supply_lookup : (lookup card s).1.supply = s.supply := (congrArg State.supply (lookup_touches card s) :)

theorem room_lookup (r : RoomIx) :
    (lookup card s).1.room r = { s.room r with liveKeys := ((lookup card s).1.room r).liveKeys } := by
  have looked := lookedUp s card
  generalize (lookup card s).1 = c, (lookup card s).2 = f at looked
  cases looked with
  | unknown none_ => rfl
  | stands k e found => rfl
  | retired k e how why found =>
    have retired : (retire k how why none s).room r = (retiredKey k how why e s).room r := by
      rw [retire_eq (entry_of_findCard found).1]
      unfold State.room
      rw [offer_rooms]
    rw [retired, room_retiredKey]

theorem claims_lookup : (lookup card s).1.keys.claims = s.keys.claims := by
  have looked := lookedUp s card
  generalize (lookup card s).1 = c, (lookup card s).2 = f at looked
  cases looked with
  | unknown none_ => rfl
  | stands k e found => rfl
  | retired k e how why found => rw [retire_eq (entry_of_findCard found).1, offer_keys, retiredKey_rest]

/-- The entry that the lookup returns is the one that its state holds. -/
theorem entry_lookup : (s.findCard card).bind (fun f => (lookup card s).1.entry f.1) = (lookup card s).2.map Prod.snd := by
  have looked := lookedUp s card
  generalize (lookup card s).1 = c, (lookup card s).2 = f at looked
  cases looked with
  | unknown none_ =>
    rw [none_]
    rfl
  | stands k e found =>
    rw [found]
    exact (entry_of_findCard found).1
  | retired k e how why found =>
    rw [found]
    exact entry_retire (entry_of_findCard found).1 how why

/-- The lookup returns the entry found, but for its standing. -/
theorem lookup_standing {k : KeyIx} {e : KeyEntry} (found : s.findCard card = some (k, e)) :
    ∃ st, (lookup card s).2 = some (k, { e with standing := st }) := by
  have looked := lookedUp s card
  generalize (lookup card s).1 = c, (lookup card s).2 = f at looked
  cases looked with
  | unknown none_ =>
    rw [found] at none_
    cases none_
  | stands k' e' found' =>
    cases found.symm.trans found'
    exact ⟨e.standing, rfl⟩
  | retired k' e' how why found' =>
    cases found.symm.trans found'
    exact ⟨_, rfl⟩

theorem lookup_map {β : Type} (f : KeyIx × KeyEntry → β) (ignores : ∀ k e st, f (k, { e with standing := st }) = f (k, e)) :
    (lookup card s).2.map f = (s.findCard card).map f := by
  cases found : s.findCard card with
  | none => rw [lookup_unknown found]
  | some y =>
    obtain ⟨k, e⟩ := y
    obtain ⟨st, eq⟩ := lookup_standing card s found
    rw [eq]
    exact congrArg some (ignores k e st)

theorem lookup_correction {k : KeyIx} {e : KeyEntry} (found : s.findCard card = some (k, e)) : (lookup card s).1 =
    if e.standing = .live ∧ s.untilPassed e = true then retire k .expired .expired none s
    else if e.isGuest = true ∧ e.standing.inService = true ∧ ∀ b ∈ e.bindings, s.bindingMark b = .stale then
      retire k .revoked .replaced none s
    else s :=
  (congrArg Prod.fst (lookup_found found)).trans
    (if_congr Iff.rfl rfl (if_congr (and_congr_right fun _ => and_congr_right fun _ => all_stale_iff) rfl rfl))

end

/-! ### Rooms and lamps (R15, R17, R78) -/

section
variable (q r : RoomIx) (u : State)

theorem room_setMakeup_false : (setMakeup q false u).room r = if q = r then { u.room r with makeup := false } else u.room r := by
  unfold setMakeup
  by_cases clear : (u.room q).makeup = false
  · rw [if_pos clear]
    split
    · next same =>
      subst same
      exact congrArg (fun b => { u.room q with makeup := b }) clear
    · rfl
  · rw [if_neg clear]
    split
    · next same =>
      subst same
      exact room_modRoom_same u q fun rm => { rm with makeup := false }
    · next other => exact room_modRoom_ne u (fun rm => { rm with makeup := false }) other

theorem lamp_setMakeup_false : (setMakeup q false u).lamp r = if q = r ∧ (u.room r).makeup = true then
    { u.lamp r with primary := { (u.lamp r).primary with makeup := false } } else u.lamp r := by
  unfold setMakeup
  by_cases clear : (u.room q).makeup = false
  · rw [if_pos clear, if_neg]
    rintro ⟨rfl, set⟩
    exact Bool.false_ne_true (clear.symm.trans set)
  · rw [if_neg clear]
    by_cases same : q = r
    · subst same
      rw [if_pos ⟨rfl, Bool.not_eq_false _ |>.mp clear⟩]
      exact lamp_modLamp_same ..
    · rw [if_neg fun h => same h.1]
      exact lamp_modLamp_ne _ _ same

theorem lamps_setMakeup (v : Bool) : (setMakeup q v u).lamps = { u.lamps with entries := (setMakeup q v u).lamps.entries } := by
  unfold setMakeup
  split <;> rfl

end

section
variable (g : Gathered) (d : Decision) (u : State)

theorem claimRoom_foreign (foreign : u.ownRoom g.seen.node = none) : claimRoom g d u = u := by
  unfold claimRoom
  rw [foreign]

theorem claimRoom_own {q : RoomIx} (own : u.ownRoom g.seen.node = some q) : claimRoom g d u =
    if d.makeupOnly = true then setMakeup q false (noteEntry q g.seen.arrival u) else noteEntry q g.seen.arrival u := by
  unfold claimRoom
  rw [own]

theorem room_claimRoom (r : RoomIx) : (claimRoom g d u).room r = { u.room r with
    lastEntry := if u.ownRoom g.seen.node = some r then g.seen.arrival.or (u.room r).lastEntry else (u.room r).lastEntry
    makeup := if u.ownRoom g.seen.node = some r ∧ d.makeupOnly = true then false else (u.room r).makeup } := by
  cases own : u.ownRoom g.seen.node with
  | none => rw [claimRoom_foreign g d u own, if_neg nofun, if_neg nofun]
  | some q =>
    rw [claimRoom_own g d u own]
    by_cases same : q = r
    · subst same
      rw [if_pos rfl]
      by_cases only : d.makeupOnly = true
      · rw [if_pos only, room_setMakeup_false, if_pos rfl, room_noteEntry, if_pos rfl, if_pos ⟨rfl, only⟩]
      · rw [if_neg only, room_noteEntry, if_pos rfl, if_neg fun h => only h.2]
    · have other : ¬ some q = some r := fun h => same (Option.some.inj h)
      rw [if_neg other, if_neg (c := some q = some r ∧ d.makeupOnly = true) fun h => other h.1]
      by_cases only : d.makeupOnly = true
      · rw [if_pos only, room_setMakeup_false, if_neg same, room_noteEntry, if_neg same]
      · rw [if_neg only, room_noteEntry, if_neg same]

theorem lamp_claimRoom (r : RoomIx) : (claimRoom g d u).lamp r =
    if (u.ownRoom g.seen.node = some r ∧ d.makeupOnly = true) ∧ (u.room r).makeup = true then
      { u.lamp r with primary := { (u.lamp r).primary with makeup := false } } else u.lamp r := by
  cases own : u.ownRoom g.seen.node with
  | none => rw [claimRoom_foreign g d u own, if_neg fun h => nomatch h.1.1]
  | some q =>
    rw [claimRoom_own g d u own]
    split
    · next only =>
      have noted : (noteEntry q g.seen.arrival u).lamp r = u.lamp r := rfl
      have makeup : ((noteEntry q g.seen.arrival u).room r).makeup = (u.room r).makeup := by
        rw [room_noteEntry]
        split <;> rfl
      rw [lamp_setMakeup_false, noted, makeup]
      exact if_congr (and_congr_left fun _ => ((and_iff_left only).trans (Option.some_inj)).symm) rfl rfl
    · next not_ => exact (if_neg fun h => not_ h.1.2).symm

theorem lamps_claimRoom : (claimRoom g d u).lamps = { u.lamps with entries := (claimRoom g d u).lamps.entries } := by
  cases own : u.ownRoom g.seen.node with
  | none =>
    rw [claimRoom_foreign g d u own]
  | some q =>
    rw [claimRoom_own g d u own]
    split
    · exact lamps_setMakeup q (noteEntry q g.seen.arrival u) false
    · rfl

end

/-! ### The effects of a verdict, table by table (R77, R78, R80) -/

theorem outcome_cases (o : VerdictOutcome) : o = .deny ∨ o = .grant := by
  cases o with
  | deny => exact .inl rfl
  | grant => exact .inr rfl

section
variable (x : Presentation) (s : State)

theorem room_hitBy (r : RoomIx) : (hitBy x s).room r = (lookup x.card s).1.room r := by
  unfold State.room
  rw [(congrArg State.rooms (hitBy_touches x s) :)]

/-- The presentation is at a room's own door. -/
theorem ownRoom_hitBy_iff (r : RoomIx) : (hitBy x s).ownRoom x.node = some r ↔
    (s.node x.node).config = .roomDoor r ∧ (s.room r).doorNode = some x.node := by
  have node : (hitBy x s).node x.node = s.node x.node := by
    unfold State.node
    rw [(congrArg State.nodes (hitBy_touches x s) :)]
  rw [ownRoom_eq_some_iff, node, room_hitBy, room_lookup]

theorem room_appliedBy (r : RoomIx) :
    let own := (s.decision x).verdict.outcome = .grant ∧ (s.node x.node).config = .roomDoor r ∧ (s.room r).doorNode = some x.node
    (appliedBy x s).room r = { (lookup x.card s).1.room r with
      lastEntry := if own then x.arrival.or (s.room r).lastEntry else (s.room r).lastEntry
      makeup := if own ∧ (s.decision x).makeupOnly = true then false else (s.room r).makeup } := by
  have plain : (lookup x.card s).1.room r = { (lookup x.card s).1.room r with
      lastEntry := (s.room r).lastEntry, makeup := (s.room r).makeup } := by
    conv_lhs => rw [room_lookup]
    conv_rhs => rw [room_lookup]
  intro own
  unfold appliedBy
  rcases outcome_cases (s.decision x).verdict.outcome with outcome | outcome
  next =>
    have foreign : ¬ own := fun h => nomatch outcome.symm.trans h.1
    rw [applied_deny _ _ outcome, if_neg foreign, if_neg fun h => foreign h.1]
    exact (room_hitBy x s r).trans plain
  next =>
    have own_iff : (hitBy x s).ownRoom x.node = some r ↔ own := (ownRoom_hitBy_iff x s r).trans (and_iff_right outcome).symm
    have fields : (hitBy x s).room r = { (lookup x.card s).1.room r with
        lastEntry := (s.room r).lastEntry, makeup := (s.room r).makeup } := (room_hitBy x s r).trans plain
    rw [applied_grant _ _ outcome]
    refine (room_claimRoom (s.gathered x) (s.decision x) { hitBy x s with
      charge := (s.decision x).charged (hitBy x s).charge
      keys := { (hitBy x s).keys with claims := (hitBy x s).keys.claims ++ (s.gathered x).claims (s.decision x) } } r).trans ?_
    change { (hitBy x s).room r with
      lastEntry := if (hitBy x s).ownRoom x.node = some r then x.arrival.or ((hitBy x s).room r).lastEntry else ((hitBy x s).room r).lastEntry
      makeup := if (hitBy x s).ownRoom x.node = some r ∧ (s.decision x).makeupOnly = true then false else ((hitBy x s).room r).makeup } = _
    rw [fields]
    simp only [own_iff]

theorem lamp_appliedBy (r : RoomIx) :
    let own := (s.decision x).verdict.outcome = .grant ∧ (s.node x.node).config = .roomDoor r ∧ (s.room r).doorNode = some x.node
    (appliedBy x s).lamp r = if (own ∧ (s.decision x).makeupOnly = true) ∧ (s.room r).makeup = true then
      { s.lamp r with primary := { (s.lamp r).primary with makeup := false } } else s.lamp r := by
  have lamp : (hitBy x s).lamp r = s.lamp r := by
    unfold State.lamp
    rw [(congrArg State.lamps (hitBy_touches x s) :)]
  intro own
  unfold appliedBy
  rcases outcome_cases (s.decision x).verdict.outcome with outcome | outcome
  next =>
    have foreign : ¬ own := fun h => nomatch outcome.symm.trans h.1
    rw [applied_deny _ _ outcome, if_neg fun h => foreign h.1.1]
    exact lamp
  next =>
    have own_iff : (hitBy x s).ownRoom x.node = some r ↔ own := (ownRoom_hitBy_iff x s r).trans (and_iff_right outcome).symm
    have makeup : ((hitBy x s).room r).makeup = (s.room r).makeup := by
      rw [room_hitBy, room_lookup]
    rw [applied_grant _ _ outcome]
    refine (lamp_claimRoom (s.gathered x) (s.decision x) { hitBy x s with
      charge := (s.decision x).charged (hitBy x s).charge
      keys := { (hitBy x s).keys with claims := (hitBy x s).keys.claims ++ (s.gathered x).claims (s.decision x) } } r).trans ?_
    change (if ((hitBy x s).ownRoom x.node = some r ∧ (s.decision x).makeupOnly = true) ∧ ((hitBy x s).room r).makeup = true then
      { (hitBy x s).lamp r with primary := { ((hitBy x s).lamp r).primary with makeup := false } } else (hitBy x s).lamp r) = _
    rw [lamp, makeup]
    exact if_congr (and_congr_left fun _ => and_congr_left fun _ => own_iff) rfl rfl

theorem lamps_appliedBy : (appliedBy x s).lamps = { s.lamps with entries := (appliedBy x s).lamps.entries } := by
  have hit : (hitBy x s).lamps = s.lamps := (congrArg State.lamps (hitBy_touches x s) :)
  unfold appliedBy
  cases outcome : (s.decision x).verdict.outcome with
  | deny =>
    rw [applied_deny _ _ outcome]
    exact hit.trans (by rw [hit])
  | grant =>
    rw [applied_grant _ _ outcome, ← hit]
    exact lamps_claimRoom (s.gathered x) (s.decision x) { hitBy x s with
      charge := (s.decision x).charged (hitBy x s).charge
      keys := { (hitBy x s).keys with claims := (hitBy x s).keys.claims ++ (s.gathered x).claims (s.decision x) } }

theorem nodes_appliedBy_deny (outcome : (s.decision x).verdict.outcome = .deny) : (appliedBy x s).nodes = s.nodes := by
  unfold appliedBy
  rw [applied_deny _ _ outcome]
  exact (congrArg State.nodes (hitBy_touches x s) :)

theorem appliedBy_grant (outcome : (s.decision x).verdict.outcome = .grant) : (appliedBy x s).nodes =
    (s.modNode x.node fun nd => { nd with
      grant := some { time := s.now.getD 0, holder := (s.gathered x).holder, since := s.supply.elapsed } }).nodes := by
  have supply : (hitBy x s).supply = s.supply := (congrArg State.supply (hitBy_touches x s) :)
  have nodes : (hitBy x s).nodes = s.nodes := (congrArg State.nodes (hitBy_touches x s) :)
  have set_ (u : State) (rest : u.supply = s.supply) (same : u.nodes = s.nodes) : (setGrant x.node (s.gathered x).holder u).nodes =
      (s.modNode x.node fun nd => { nd with
        grant := some { time := s.now.getD 0, holder := (s.gathered x).holder, since := s.supply.elapsed } }).nodes := by
    have now : u.nowOrZero = s.now.getD 0 := congrArg (Option.getD · 0) (now_congr rest)
    unfold setGrant State.modNode
    rw [now, rest, same]
  unfold appliedBy
  rw [applied_grant _ _ outcome]
  refine set_ _ ?_ ?_
  · rw [claimRoom_touches]
    exact supply
  · rw [claimRoom_touches]
    exact nodes

theorem keys_appliedBy : (appliedBy x s).keys = { (lookup x.card s).1.keys with
    claims := s.keys.claims ++ (s.gathered x).claims (s.decision x) } := by
  rw [← claims_lookup x.card s]
  exact (congrArg State.keys (appliedBy_touches x s) :)

/-- The claims of a verdict on a card that the Key Register knows (R78). -/
theorem claims_known {k : KeyIx} {e : KeyEntry} (found : s.findCard x.card = some (k, e)) :
    (s.gathered x).claims (s.decision x) = .use k x.card (s.decision x).used x.arrival false ::
      s.rebinds (s.node x.node).config k e (s.decision x).verdict := by
  obtain ⟨st, eq⟩ := lookup_standing x.card s found
  have gathered : (s.gathered x).found = some (k, { e with standing := st }) := eq
  have moved := moveClaims_decided (decided s (s.gathered x)) gathered
  have card : e.card = x.card := (entry_of_findCard found).2
  unfold Gathered.claims
  rw [gathered]
  dsimp only
  exact congrArg₂ List.cons (congrArg (fun c => VeClaim.use k c (s.decision x).used x.arrival false) card) moved

theorem claims_unknown (unknown : s.findCard x.card = none) : (s.gathered x).claims (s.decision x) = [] := by
  unfold Gathered.claims
  rw [(gathered_unknown unknown).1]

end

end Sys2Proof.Machine
end

section
/-! The statement of a judgement, settled (R59, R63 to R80). -/

/- The joined text is checked with bounded memory: proofs are elaborated one after another, not each in a thread of its own. -/
set_option Elab.async false

namespace Sys2Proof.Machine

/-! ### The records of a judgement (R59, R79) -/

theorem offers_journal_congr {s t : State} (journal : s.journal = t.journal) (supply : s.supply = t.supply) (os : List Offer) :
    (offers os s).journal = (offers os t).journal := by
  unfold offers
  induction os generalizing s t with
  | nil => exact journal
  | cons o os ih =>
    rw [List.foldl_cons, List.foldl_cons]
    refine ih (journal_offer_congr journal supply o) ?_
    rw [offer_supply, offer_supply, supply]

theorem pendingKept_offers (os : List Offer) (s : State) : PendingKept s (offers os s) := by
  unfold offers
  induction os generalizing s with
  | nil => exact pendingKept_of_attn rfl
  | cons o os ih => exact (pendingKept_offer o s).trans (ih _)

/-- The WATCH_HIT record of a listed card (R59). -/
def Gathered.hits (g : Gathered) : List Offer :=
  match g.watch with
  | none => []
  | some w =>
    [{ kind := .watchHit, cls := .alarm, time := g.seen.arrival, node := some g.seen.node, room := g.record.config.room
       card := some g.seen.card, key := g.found.map Prod.fst, detail := BitVec.ofNat 16 (w.action.code + 2 * w.origin.code) }]

theorem journal_watchHit (g : Gathered) (s : State) : (watchHit g s).journal = (offers g.hits s).journal := by
  unfold watchHit Gathered.hits
  cases g.watch <;> rfl

theorem isPending_watchHit {g : Gathered} (listed : g.watch ≠ none) (s : State) :
    (watchHit g s).isPending .service .watchHit = true := by
  unfold watchHit
  cases watch : g.watch with
  | none => exact absurd watch listed
  | some w => exact isPending_raise rfl _

theorem hit_detail (a : WatchAction) (o : WatchOrigin) : BitVec.ofNat 16 (a.code + 2 * o.code) =
    (if a = .alertAndDeny then 1 else 0) + if o = .service then 2 else 0 := by
  cases a <;> cases o <;> decide

section
variable (x : Presentation) (s : State)

theorem entryRoom_congr {s t : State} (same : ∀ r : RoomIx, (t.room r).pairing = (s.room r).pairing) (g : Gathered) :
    t.entryRoom g = s.entryRoom g := by
  have paired (n : NodeAddr) (r : RoomIx) : t.pairedRoom n r = s.pairedRoom n r := by
    unfold State.pairedRoom
    rw [same]
  unfold State.entryRoom
  simp only [paired]

theorem verdictOffers_appliedBy : (appliedBy x s).verdictOffers (s.gathered x) (s.decision x) =
    s.verdictOffers (s.gathered x) (s.decision x) := by
  have room : (appliedBy x s).entryRoom (s.gathered x) = s.entryRoom (s.gathered x) := by
    refine entryRoom_congr (fun r => ?_) _
    rw [room_appliedBy, room_lookup]
  unfold State.verdictOffers State.entryOffer
  rw [room]

/-- The records of a judgement come after the lookup's corrections, the hit before the entry. -/
theorem journal_judgePresentation (i : Nat) : (judgePresentation i x s).journal =
    (offers ((s.gathered x).hits ++ s.verdictOffers (s.gathered x) (s.decision x)) (lookup x.card s).1).journal := by
  have told : (judgePresentation i x s).journal = (toldBy x s).journal := by
    rw [judgePresentation_told, queueVerdict_journal]
  have applied_ := appliedBy_touches x s
  have journal : (appliedBy x s).journal = (offers (s.gathered x).hits (lookup x.card s).1).journal :=
    (congrArg State.journal applied_ :).trans (journal_watchHit ..)
  have supply : (appliedBy x s).supply = (offers (s.gathered x).hits (lookup x.card s).1).supply :=
    (congrArg State.supply applied_ :).trans ((supply_lookup x.card s).symm.trans (congrArg State.supply (offers_touches ..) :).symm)
  rw [told, offers_append]
  unfold toldBy
  rw [verdictOffers_appliedBy]
  exact offers_journal_congr journal supply _

theorem isPending_judgePresentation (i : Nat) (listed : s.watchOf x.card ≠ none) :
    (judgePresentation i x s).isPending .service .watchHit = true := by
  have hit : (hitBy x s).isPending .service .watchHit = true := isPending_watchHit (g := s.gathered x) listed _
  have applied_ : PendingKept (hitBy x s) (appliedBy x s) := pendingKept_of_attn (congrArg State.attn (appliedBy_touches x s) :)
  have told : PendingKept (hitBy x s) (toldBy x s) := applied_.trans (pendingKept_offers ..)
  have judged : PendingKept (hitBy x s) (judgePresentation i x s) := by
    rw [judgePresentation_told]
    exact told.trans (pendingKept_of_attn rfl)
  exact judged.pending _ _ hit

theorem key_gathered : (s.gathered x).found.map Prod.fst = (s.findCard x.card).map Prod.fst :=
  lookup_map x.card s Prod.fst fun _ _ _ => rfl

theorem all_gathered (f : KeyEntry → Bool) (ignores : ∀ e st, f { e with standing := st } = f e) :
    ((s.gathered x).found.all fun y => f y.2) = (s.findCard x.card).all fun y => f y.2 := by
  have same := lookup_map x.card s (fun y => f y.2) fun _ e st => ignores e st
  have all_map (o : Option (KeyIx × KeyEntry)) : (o.all fun y => f y.2) = (o.map fun y => f y.2).all id := by
    cases o <;> rfl
  rw [all_map, all_map]
  exact congrArg (Option.all id) same

theorem housekeeping_gathered : s.housekeeping (s.gathered x).found = s.housekeeping (s.findCard x.card) := by
  have same := lookup_map x.card s (fun y => !y.2.isGuest && !(s.profile y.2.profile).enterOccupied) fun _ _ _ => rfl
  have any_map (o : Option (KeyIx × KeyEntry)) :
      s.housekeeping o = (o.map fun y => !y.2.isGuest && !(s.profile y.2.profile).enterOccupied).any id := by
    cases o <;> rfl
  rw [any_map, any_map]
  exact congrArg (Option.any id) same

theorem slot_gathered : (s.gathered x).slot = if s.findCard x.card = none then s.emergencySlot x.card else none := by
  cases found : s.findCard x.card with
  | none => exact (gathered_unknown found).2
  | some y => exact slot_known found

theorem retirement_gathered : ((s.gathered x).found.bind fun f => f.2.standing.retirement) =
    ((s.findCard x.card).bind fun f => (lookup x.card s).1.entry f.1).bind fun e => e.standing.retirement := by
  rw [entry_lookup]
  change (lookup x.card s).2.bind _ = _
  cases (lookup x.card s).2 <;> rfl

/-- The entry record of a presentation with a room (R79). -/
def State.entryOf (room : Option RoomIx) : Offer :=
  let v := (s.decision x).verdict
  let found := s.findCard x.card
  let slot := if found = none then s.emergencySlot x.card else none
  { kind := if v.outcome = .grant then .entryGranted else .entryDenied
    cls := if v.outcome = .grant then .routine else .notice
    time := x.arrival, node := some x.node, room := room, card := some x.card, key := found.map Prod.fst
    reason := some (.verdict v.reason)
    detail := if v.outcome = .grant then (slot.map fun f => BitVec.ofNat 16 f.1.val).getD 0
      else if v.reason = .revoked ∨ v.reason = .expired then
        (((found.bind fun f => (lookup x.card s).1.entry f.1).bind fun e => e.standing.retirement).map
          fun f => BitVec.ofNat 16 f.1.code).getD 0
      else 0 }

theorem entryDetail_eq (g : Gathered) (v : Verdict) : g.entryDetail v =
    if v.outcome = .grant then (g.slot.map fun f => BitVec.ofNat 16 f.1.val).getD 0
    else if v.reason = .revoked ∨ v.reason = .expired then
      ((g.found.bind fun f => f.2.standing.retirement).map fun f => BitVec.ofNat 16 f.1.code).getD 0
    else 0 := by
  unfold Gathered.entryDetail
  cases v.outcome with
  | grant =>
    rw [if_pos rfl]
    cases g.slot with
    | none => cases (g.found.bind fun f => f.2.standing.retirement) <;> rfl
    | some f => rfl
  | deny =>
    rw [if_neg nofun]
    cases (g.found.bind fun f => f.2.standing.retirement) with
    | none => exact (ite_self _).symm
    | some f => rfl

theorem entryOffer_gathered : s.entryOffer (s.gathered x) (s.decision x) = s.entryOf x (s.entryRoom (s.gathered x)) := by
  have detail := entryDetail_eq (s.gathered x) (s.decision x).verdict
  have key := key_gathered x s
  rw [slot_gathered, retirement_gathered] at detail
  unfold State.entryOffer State.entryOf
  dsimp only
  rw [detail, key]
  cases (s.decision x).verdict.outcome <;> rfl

theorem sideOffer_gathered (far : Bool) (t : SideTest) : (s.gathered x).sideOffer (s.decision x) far t =
    { s.entryOf x (some t.room) with
      kind := .connectSide
      detail := BitVec.ofNat 16 (bit 0 far + bit 1 t.passed +
        ((if s.findCard x.card = none then s.emergencySlot x.card else none).map fun y => 4 * y.1.val).getD 0) } := by
  have key := key_gathered x s
  have slot : 4 * (((s.gathered x).slot.map fun k => k.1.val).getD 0) = ((s.gathered x).slot.map fun y => 4 * y.1.val).getD 0 := by
    cases (s.gathered x).slot <;> rfl
  rw [slot_gathered] at slot
  unfold Gathered.sideOffer State.entryOf
  dsimp only
  rw [slot_gathered, slot, key]
  cases (s.decision x).verdict.outcome <;> rfl

/-- The record of a side of a connecting door, for a presentation (R79). -/
def State.sideOf (room : RoomIx) (detail : Nat) : Offer :=
  { s.entryOf x (some room) with
    kind := .connectSide
    detail := BitVec.ofNat 16 (detail +
      ((if s.findCard x.card = none then s.emergencySlot x.card else none).map fun y => 4 * y.1.val).getD 0) }

theorem sideOffer_near (room : RoomIx) (passed : Bool) : (s.gathered x).sideOffer (s.decision x) false ⟨room, passed⟩ =
    s.sideOf x room (if passed = true then 2 else 0) := by
  rw [sideOffer_gathered]
  cases passed <;> rfl

theorem sideOffer_far (room : RoomIx) (passed : Bool) : (s.gathered x).sideOffer (s.decision x) true ⟨room, passed⟩ =
    s.sideOf x room (if passed = true then 3 else 1) := by
  rw [sideOffer_gathered]
  cases passed <;> rfl

theorem entryRoom_paired {g : Gathered} {a b : RoomIx} (config : g.record.config = .connectDoor a)
    (paired : s.pairedRoom g.seen.node a = some b) : s.entryRoom g = none := by
  unfold State.entryRoom
  rw [config]
  dsimp only
  rw [paired]
  rfl

theorem entryRoom_unpaired {g : Gathered} (unpaired : ∀ a, g.record.config = .connectDoor a → s.pairedRoom g.seen.node a = none) :
    s.entryRoom g = g.record.config.room := by
  unfold State.entryRoom
  cases config : g.record.config with
  | connectDoor a =>
    dsimp only
    rw [unpaired a config]
    rfl
  | _ => rfl

theorem verdictOffers_plain {g : Gathered} {d : Decision} (plain : d.sides = none) : s.verdictOffers g d = [s.entryOffer g d] := by
  unfold State.verdictOffers
  rw [plain]

theorem verdictOffers_sides {g : Gathered} {d : Decision} {near far : SideTest} (sides : d.sides = some (near, far)) :
    s.verdictOffers g d = [g.sideOffer d false near, g.sideOffer d true far] := by
  unfold State.verdictOffers
  rw [sides]

theorem queue_judgePresentation {i : Nat} (at_ : s.verdict.queue[i]? = some x) : (judgePresentation i x s).verdict =
    { s.verdict with queue := s.verdict.queue.set i { x with verdict := some (s.decision x).verdict } } := by
  have verdict : (toldBy x s).verdict = s.verdict :=
    (congrArg State.verdict (toldBy_touches x s) :).trans (congrArg State.verdict (appliedBy_touches x s) :)
  have marked : s.verdict.queue.modify i (fun y => { y with verdict := some (s.decision x).verdict }) =
      s.verdict.queue.set i { x with verdict := some (s.decision x).verdict } := by
    rw [List.modify_eq_set_getElem?, at_]
    rfl
  rw [judgePresentation_told, ← marked]
  exact congrArg (fun v : VerdictEngine => { v with queue := v.queue.modify i fun y => { y with verdict := some (s.decision x).verdict } })
    verdict

theorem holder_gathered : (s.gathered x).holder =
    match s.findCard x.card, (if s.findCard x.card = none then s.emergencySlot x.card else none) with
    | some (k, _), _ => .key k
    | none, some (k, _) => .slot k
    | none, none => .none := by
  have slot := slot_gathered x s
  unfold Gathered.holder
  rw [slot]
  cases found : s.findCard x.card with
  | none =>
    rw [(gathered_unknown found).1] <;> rfl
  | some y =>
    obtain ⟨st, eq⟩ := lookup_standing x.card s found
    have gathered : (s.gathered x).found = some (y.1, { y.2 with standing := st }) := eq
    rw [gathered]

theorem charged_none {d : Decision} (none_ : d.session = none) (c : ChargeUnit) : d.charged c = c := by
  unfold Decision.charged
  rw [none_]
  exact congrArg (fun xs => { c with sessions := xs }) (List.append_nil _)

/-- The presentation clears the make-up of the room whose own door it is at. -/
theorem cleaned_iff (r : RoomIx) :
    let own := (s.decision x).verdict.outcome = .grant ∧ (s.node x.node).config = .roomDoor r ∧ (s.room r).doorNode = some x.node
    let cleaned := own ∧ (s.decision x).verdict.reason = .key ∧ (s.room r).standsOccupied = true ∧
      s.housekeeping (s.findCard x.card) = true
    (own ∧ (s.decision x).makeupOnly = true ↔ cleaned) ∧ (cleaned → (s.room r).makeup = true) := by
  have only (own : (s.decision x).verdict.outcome = .grant ∧ (s.node x.node).config = .roomDoor r ∧ (s.room r).doorNode = some x.node) :=
    makeupOnly_decided (decided s (s.gathered x)) own.1 (r := r) own.2.1
  rw [housekeeping_gathered] at only
  exact ⟨and_congr_right fun own => (only own).1, fun cleaned => (only cleaned.1).2 ((only cleaned.1).1.mpr cleaned.2)⟩

theorem hits_gathered : (s.gathered x).hits = match s.watchOf x.card with
    | none => []
    | some w =>
      [{ kind := .watchHit, cls := .alarm, time := x.arrival, node := some x.node, room := (s.node x.node).config.room
         card := some x.card, key := (s.findCard x.card).map Prod.fst
         detail := (if w.action = .alertAndDeny then 1 else 0) + if w.origin = .service then 2 else 0 }] := by
  have key := key_gathered x s
  have watch : (s.gathered x).watch = s.watchOf x.card := rfl
  unfold Gathered.hits
  rw [watch, key]
  cases s.watchOf x.card with
  | none => rfl
  | some w =>
    dsimp only
    rw [hit_detail]
    rfl

end

end Sys2Proof.Machine

namespace Sys2Proof.Settled

open Sys2Proof.Machine

/-- Settles O32: each table is read off the effects of the verdict, and the records off the forms of the decision. -/
theorem judgement : Obligations.Judgement := by
  intro i x s next nd found slot
  have told := toldBy_touches x s
  have applied_ := appliedBy_touches x s
  have judged := judgePresentation_told i x s
  have verdict := queue_judgePresentation x s next.2.1
  have decided_ : s.Decided (s.gathered x) (s.decision x) := decided s (s.gathered x)
  have lamps : (judgePresentation i x s).lamps = (appliedBy x s).lamps := by
    rw [judged, queueVerdict_lamps]
    exact (congrArg State.lamps told :)
  have rooms : (judgePresentation i x s).rooms = (appliedBy x s).rooms := by
    rw [judged, queueVerdict_rooms]
    exact (congrArg State.rooms told :)
  have nodes : (judgePresentation i x s).nodes = (appliedBy x s).nodes := by
    rw [judged, queueVerdict_nodes]
    exact (congrArg State.nodes told :)
  have keys : (judgePresentation i x s).keys = (appliedBy x s).keys := by
    rw [judged, queueVerdict_keys]
    exact (congrArg State.keys told :)
  refine ⟨(lookup x.card s).1, judgePresentation i x s, (s.decision x).verdict, (s.decision x).used,
    (s.gathered x).hits ++ s.verdictOffers (s.gathered x) (s.decision x), exec_judgement next,
    (congrArg VerdictEngine.queue verdict :), (congrArg VerdictEngine.watch verdict :), (congrArg VerdictEngine.profiles verdict :), ?_,
    fun l other => ?_, fun outcome => ?_, fun outcome => ?_, fun n other => ?_, ?_, ?_, ?_, fun other => ?_, fun unknown => ?_,
    fun k e known => ?_, fun unknown => ?_, fun k e known => ?_, fun r => ?_, ?_, journal_judgePresentation x s i,
    isPending_judgePresentation x s i, ?_⟩
  · rw [line_judgePresentation, if_pos rfl, ← key_gathered]
    rfl
  · rw [line_judgePresentation, if_neg (Ne.symm other)]
  · exact nodes.trans (nodes_appliedBy_deny x s outcome)
  · have node : (judgePresentation i x s).node x.node = (s.modNode x.node fun nd => { nd with
        grant := some { time := s.now.getD 0, holder := (s.gathered x).holder, since := s.supply.elapsed } }).node x.node := by
      unfold State.node
      rw [nodes, appliedBy_grant x s outcome]
    have granted := node.trans (node_modNode_same ..)
    rw [holder_gathered] at granted
    exact granted
  · unfold State.node
    rw [nodes]
    rcases outcome_cases (s.decision x).verdict.outcome with outcome | outcome
    · rw [nodes_appliedBy_deny x s outcome]
    · rw [appliedBy_grant x s outcome]
      exact node_modNode_ne _ _ (Ne.symm other)
  · rw [judged, queueVerdict_supply]
    exact (congrArg State.supply told :).trans (congrArg State.supply applied_ :)
  · rw [judged, queueVerdict_emergency]
    exact (congrArg State.emergency told :).trans (congrArg State.emergency applied_ :)
  · rw [judged, queueVerdict_pending]
    exact (congrArg State.pending told :).trans (congrArg State.pending applied_ :)
  · rw [charge_judgePresentation, charged_none (session_decided decided_ other), ite_self]
  · exact congrArg Prod.fst (lookup_unknown unknown)
  · exact lookup_correction x.card s known
  · rw [keys, keys_appliedBy, claims_unknown x s unknown, lookup_unknown unknown, List.append_nil]
  · rw [keys, keys_appliedBy, claims_known x s known]
    unfold State.rebinds
    rw [(entry_of_findCard known).2] <;> rfl
  · intro own cleaned
    obtain ⟨only, wanted⟩ := cleaned_iff x s r
    have room : (judgePresentation i x s).room r = (appliedBy x s).room r := congrArg (fun v => tget v r) rooms
    have lamp : (judgePresentation i x s).lamp r = (appliedBy x s).lamp r := congrArg (fun u : Indicator => tget u.entries r) lamps
    refine ⟨(room.trans (room_appliedBy x s r)).trans ?_, (lamp.trans (lamp_appliedBy x s r)).trans ?_⟩
    · exact congrArg (fun b => { (lookup x.card s).1.room r with
        lastEntry := if own then x.arrival.or (s.room r).lastEntry else (s.room r).lastEntry, makeup := b }) (if_congr only rfl rfl)
    · exact if_congr ((and_congr_left fun _ => only).trans (and_iff_left_of_imp wanted)) rfl rfl
  · rw [lamps]
    exact lamps_appliedBy x s
  · intro hits entry
    have hits_ : (s.gathered x).hits = hits := hits_gathered x s
    rw [hits_]
    refine ⟨fun a b config pairing => ?_, fun unpaired => ?_⟩
    · intro n f near far side
      have paired := (pairedRoom_eq_some_iff s x.node a b).mpr pairing
      have near_ : ((s.gathered x).found.all fun y => s.nearOpens y.2 n) = near :=
        all_gathered x s (fun e => s.nearOpens e n) fun _ _ => rfl
      have far_ : ((s.gathered x).found.all fun y => s.farOpens y.2 n f) = far :=
        all_gathered x s (fun e => s.farOpens e n f) fun _ _ => rfl
      rcases sides_decided decided_ (a := a) config paired with ⟨sided, used, sides⟩ | ⟨aside, plain⟩
      · have tested : (s.decision x).verdict.reason = .key ∨ (s.decision x).verdict.reason = .emergency ∨
            (s.decision x).verdict.reason = .nearSide ∨ (s.decision x).verdict.reason = .farSide := sided
        rw [if_pos tested, ← near_, ← far_]
        refine ⟨used, congrArg (hits ++ ·) ((verdictOffers_sides s sides).trans ?_)⟩
        rw [sideOffer_near, sideOffer_far]
        rfl
      · have untested : ¬ ((s.decision x).verdict.reason = .key ∨ (s.decision x).verdict.reason = .emergency ∨
            (s.decision x).verdict.reason = .nearSide ∨ (s.decision x).verdict.reason = .farSide) := aside
        rw [if_neg untested]
        refine ⟨plain.2, ?_⟩
        rw [verdictOffers_plain s plain.1, entryOffer_gathered, entryRoom_paired s (g := s.gathered x) config paired]
        rfl
    · have away : ∀ a, (s.node x.node).config = .connectDoor a → s.pairedRoom x.node a = none :=
        fun a config => pairedRoom_eq_none_iff.mpr fun b => unpaired a b config
      have plain := plain_decided decided_ away
      refine ⟨plain.2, ?_⟩
      rw [verdictOffers_plain s plain.1, entryOffer_gathered, entryRoom_unpaired s (g := s.gathered x) away]
      rfl

end Sys2Proof.Settled
end
